-- ==== Sys2Proof/Word.lean ====
section
/-! DEFINITION. The widths of the Aulbrix WC-422 and the numbers that name its parts. -/

namespace Sys2Proof

/-- A byte of the control link, of DRAM and of a colour component. -/
abbrev Byte := BitVec 8

/-- A 32-bit counter, which wraps (00_scope.md, Conventions; R48, R69, R164). -/
abbrev Count := BitVec 32

/-- A 64-bit frame number (R36). -/
abbrev FrameNumber := BitVec 64

/-- A moment on the time base that the events share, in nanoseconds. DESIGN CHOICE, log entry 4: the
spec gives no resolution. -/
abbrev Time := Nat

/-- Capture ports C0 to C3. -/
abbrev PortId := Fin 4

/-- Output heads H0 and H1. -/
abbrev HeadId := Fin 2

/-- Pins P0 to P7 (R21). -/
abbrev PinId := Fin 8

/-- Frame slots 0 to 23 (R1). -/
abbrev SlotId := Fin 24

/-- Window positions 0 to 11 of a scene (R74). -/
abbrev Position := Fin 12

/-- Library entries: the entry of id n, from 1 to 64, has index n - 1 (R112). -/
abbrev LibId := Fin 64

/-- An address of the attached DRAM: 67,108,864 bytes are exactly 2^26 (00_scope.md, Memory organisation). -/
abbrev DramAddress := BitVec 26

/-- The level of a source's field line: low reads as FIRST and high as SECOND (R27). -/
inductive FieldLevel where
  | first
  | second
  deriving DecidableEq, Repr

/-- The two rate straps; `true` is high (R151). -/
structure Straps where
  strap1 : Bool
  strap0 : Bool
  deriving DecidableEq, Repr

/-- A window pixel that a head did not read in time: the window's position and the pixel's column in
the active area (R67). -/
structure MissedPixel where
  position : Position
  column : Nat
  deriving DecidableEq, Repr

end Sys2Proof
end

