-- ==== Sys2Proof/Syntax.lean ====
section
/-! DEFINITION. The commands of the part: one constructor for each row of spec/opcode_table.json, in the
table's order. -/

namespace Sys2Proof

/-- A command: one step of the part, whole and indivisible (95_what_each_step_holds.md).

A constructor named after a request is the step in which the command processor takes the OLDEST ADMITTED
REQUEST of the part's request queue and executes it (R161); the request's operands are the payload bytes
it was admitted with, so the constructor has none of its own (log entry 1). A constructor of the receiver
carries the byte that arrives. The other constructors carry what the outside world gives at the event. -/
inductive Instr where
  /-- RESET_PIN (R176): the reset pin is asserted, with the levels of the rate straps. -/
  | resetPin (straps : Straps)
  /-- RESET_PIN_RELEASE (R176), with the levels of the rate straps. -/
  | resetPinRelease (straps : Straps)
  /-- START_UP_END (R177): the DRAM test ends; the lowest failing byte, or none when every byte read back. -/
  | startUpEnd (failing : Option Nat)
  /-- START (R27, R37): a leading edge of vertical sync. `width` is none when the active lines of the
  interval that ends do not all carry the same number of active pixels (R28). -/
  | start (port : PortId) (level : FieldLevel) (width : Option Nat) (lines : Nat) (time : Time)
  /-- FILL_END (R41): the last active line is in the slot; `pixels` are the bytes of the field or frame. -/
  | fillEnd (port : PortId) (pixels : List Byte)
  /-- LOSS_TIMER_EXPIRY (R34). -/
  | lossTimerExpiry (port : PortId)
  /-- CAPTURE_ON (R43). -/
  | captureOn
  /-- CAPTURE_OFF (R43). -/
  | captureOff
  /-- PORT_DEPTH (R11). -/
  | portDepth
  /-- PORT_FLUSH (R45). -/
  | portFlush
  /-- PORT_RESET (R46). -/
  | portReset
  /-- PORT_STATUS (R47). -/
  | portStatus
  /-- PIN_TAKE (R22). -/
  | pinTake
  /-- PIN_RELEASE (R23). -/
  | pinRelease
  /-- STORE_STATUS (R24). -/
  | storeStatus
  /-- FRAME_BOUNDARY (R55), with the time at which it is taken (R62). -/
  | frameBoundary (head : HeadId) (time : Time)
  /-- FETCH_SHORTFALL (R67): the active line and the window pixels of it that were not read in time. -/
  | fetchShortfall (head : HeadId) (line : Nat) (missed : List MissedPixel)
  /-- FOLLOW_LOSS (R65). -/
  | followLoss (head : HeadId)
  /-- HEAD_TIMING (R53). -/
  | headTiming
  /-- HEAD_ON (R54). -/
  | headOn
  /-- HEAD_OFF (R56). -/
  | headOff
  /-- HEAD_MUTE (R58). -/
  | headMute
  /-- HEAD_BACKGROUND (R59). -/
  | headBackground
  /-- HEAD_FOLLOW (R61). -/
  | headFollow
  /-- HEAD_STATUS (R60). -/
  | headStatus
  /-- SCENE_PUT (R75). -/
  | scenePut
  /-- SCENE_REMOVE (R76). -/
  | sceneRemove
  /-- SCENE_RESTART (R77). -/
  | sceneRestart
  /-- SCENE_READ (R78). -/
  | sceneRead
  /-- SCENE_PRESENT (R83). -/
  | scenePresent
  /-- LIB_OPEN (R117). -/
  | libOpen
  /-- LIB_DATA (R118). -/
  | libData
  /-- LIB_CLOSE (R120). -/
  | libClose
  /-- VERIFY_RESULT (R122). -/
  | verifyResult
  /-- INACTIVITY_TIMER_EXPIRY (R119). -/
  | inactivityTimerExpiry (id : LibId)
  /-- LIB_DELETE (R123). -/
  | libDelete
  /-- LIB_LIST (R126). -/
  | libList
  /-- LIB_SPACE (R127). -/
  | libSpace
  /-- CURSOR_SHAPE (R131). -/
  | cursorShape
  /-- JOB_START (R133). -/
  | jobStart
  /-- SHAPE_LOAD_COMPLETION (R134). -/
  | shapeLoadCompletion
  /-- CURSOR_MOVE (R137). -/
  | cursorMove
  /-- CURSOR_SHOW (R138). -/
  | cursorShow
  /-- CURSOR_PALETTE (R138). -/
  | cursorPalette
  /-- ANC_CONFIG (R142). -/
  | ancConfig
  /-- ANC_PUSH (R144). -/
  | ancPush
  /-- ANC_FLUSH (R148). -/
  | ancFlush
  /-- ANC_STATUS (R149). -/
  | ancStatus
  /-- RESET (R176). -/
  | reset
  /-- INFO (R179). -/
  | info
  /-- STATS_READ (R180). -/
  | statsRead
  /-- STATS_CLEAR (R181). -/
  | statsClear
  /-- ECHO (R182). -/
  | echo
  /-- UNKNOWN_COMMAND (R161). -/
  | unknownCommand
  /-- REQUEST (R154, R157): the byte that completes a good REQUEST frame. -/
  | request (byte : Byte)
  /-- NOTICE_ACK (R156, R172): the byte that completes a good NOTICE_ACK frame. -/
  | noticeAck (byte : Byte)
  /-- UNKNOWN_KIND_FRAME (R156): the byte that completes a good frame of any other kind. -/
  | unknownKindFrame (byte : Byte)
  /-- LENGTH_ERROR (R155): the byte that completes a length outside 4 to 260. -/
  | lengthError (byte : Byte)
  /-- CRC_ERROR (R155): the byte that completes a frame whose CRC-16 is bad. -/
  | crcError (byte : Byte)
  /-- GAP_ERROR (R155). -/
  | gapError
  /-- TRANSMIT_BEGIN (R162). -/
  | transmitBegin
  /-- TRANSMIT_COMPLETE (R162), with the strap levels, which a RESET reply's end samples (R151, R176). -/
  | transmitComplete (straps : Straps)
  /-- RESEND_TIMER_EXPIRY (R171). -/
  | resendTimerExpiry
  /-- RECEIVED_BYTE (R154): a byte that does not complete or break a frame. -/
  | receivedByte (byte : Byte)
  deriving DecidableEq, Repr

end Sys2Proof
end

