-- ==== Sys2Proof/Config.lean ====
section
/-! DEFINITION. The capacities of the part and the values the spec leaves open. -/

namespace Sys2Proof.Config

/-- FREE VALUE, log entry 5. What the byte at an address of DRAM reads as when nothing has written it
since start-up: the patterns of the start-up test remain there (R177) and the spec does not say what
they are. The first argument counts the start-ups. -/
opaque dramPattern : Nat → Nat → Byte

/-- FREE VALUE, log entry 8. The revision byte of the INFO reply (R179). -/
opaque revision : Byte

/-- FREE VALUE, log entry 7. The frame number that follows 2^64 - 1: the spec bounds frame numbers to
64 bits (Table 2-1) and does not say what an increment past the last one gives. -/
opaque frameNumberAfterLast : FrameNumber

/-- Bytes of one frame slot (00_scope.md, Table 2). -/
def slotBytes : Nat := 1843200

/-- The first byte of the library region (00_scope.md, Table 2). -/
def libraryBase : Nat := 44236800

/-- Blocks of the library region (00_scope.md, Table 2). -/
def libraryBlocks : Nat := 5584

/-- Bytes of a library block (R114). -/
def blockBytes : Nat := 4096

/-- Bytes of the attached DRAM (00_scope.md, Memory organisation). -/
def dramBytes : Nat := 67108864

/-- The most admitted requests whose replies are not yet transmitted (R157). -/
def maxOutstanding : Nat := 4

/-- The most waiting immediate answers (R158). -/
def maxImmediate : Nat := 4

/-- Entries of the reply memory (R160). -/
def maxReplies : Nat := 8

/-- Entries of the notice queue (R166). -/
def maxNotices : Nat := 16

/-- Entries that are RECEIVING or VERIFYING together (R117). -/
def maxUploads : Nat := 2

/-- Pairs of one ancillary queue (R143). -/
def maxPairs : Nat := 32

end Sys2Proof.Config
end

