-- ==== Sys2Proof/Machine/State.lean ====
section
/-! DEFINITION. Everything the spec gives the part to hold, as plain data, and its value after reset. -/

namespace Sys2Proof.Machine

/-- A colour triple (00_scope.md, Terms). -/
structure Triple where
  y : Byte
  cb : Byte
  cr : Byte
  deriving DecidableEq, Repr

/-- A rectangle x, y, w, h (00_scope.md, Conventions). -/
structure Rect where
  x : Nat
  y : Nat
  w : Nat
  h : Nat
  deriving DecidableEq, Repr

/-! ### Device (chapter 11) -/

/-- The device states of Table 11-1, and the pin holding the part in reset (R176). -/
inductive Phase where
  /-- the reset pin is asserted -/
  | held
  /-- STARTING -/
  | starting
  /-- the ready state -/
  | ready
  /-- FAULTED, with the lowest byte that failed the DRAM test (R179) -/
  | faulted (firstFailing : Nat)
  deriving DecidableEq, Repr

/-- The cause of a device reset, which READY reports (R177). -/
inductive ResetCause where
  | pin
  | request
  deriving DecidableEq, Repr

/-- The part as a whole. -/
structure Device where
  phase : Phase
  cause : ResetCause
  /-- The model's own counter of completed start-ups, which indexes the free value
  `Config.dramPattern` (log entry 5). -/
  boots : Nat
  deriving DecidableEq, Repr

/-! ### Frame slots, ready lists and pins (chapter 1) -/

/-- The geometry of a slot record (Table 1-1). -/
structure Geometry where
  width : Nat
  height : Nat
  interlaced : Bool
  deriving DecidableEq, Repr

/-- What a READY or HELD slot record holds (Table 1-1). -/
structure StoredFrame where
  source : PortId
  number : FrameNumber
  geometry : Geometry
  refs : Nat
  shown : Bool
  deriving DecidableEq, Repr

/-- A slot record: its state with the fields present in that state (R1, R2). -/
inductive Slot where
  | free
  | filling (source : PortId) (geometry : Geometry)
  | ready (frame : StoredFrame)
  | held (frame : StoredFrame)
  deriving DecidableEq, Repr

/-- A pin entry that holds a frame (Table 1-3). -/
structure PinEntry where
  slot : SlotId
  source : PortId
  number : FrameNumber
  deriving DecidableEq, Repr

/-- The slot manager. -/
structure Pool where
  slots : Vector Slot 24
  freeList : List SlotId
  ready : Vector (List SlotId) 4
  pins : Vector (Option PinEntry) 8
  deriving DecidableEq, Repr

/-! ### Capture ports (chapter 2) -/

/-- A measurement (Table 2-2). -/
structure Measurement where
  width : Nat
  lines : Nat
  /-- in microseconds -/
  period : Nat
  interlaced : Bool
  deriving DecidableEq, Repr

/-- The four names of the detector's states, in the order of R183's encoding. -/
inductive DetectorState where
  | noSignal
  | acquiring
  | locked
  | unsupported
  deriving DecidableEq, Repr

/-- The input detector: its state with the measurement history and locked measurement present in that
state (R31 to R33). -/
inductive Detector where
  | noSignal
  | acquiring (reference : Option Measurement) (matchCount : Nat) (outOfRange : Nat)
  | locked (measurement : Measurement)
  | unsupported
  deriving DecidableEq, Repr

/-- Which filling state a writer is in: FILLING, FILLING_FIRST, AWAIT_SECOND, FILLING_SECOND (R38). -/
inductive FillStage where
  | progressive
  | first
  | await
  | second
  deriving DecidableEq, Repr

/-- The capture writer: its state with the filling slot and the number it is filled under (R38, R47). -/
inductive Writer where
  | off
  | armed
  | filling (stage : FillStage) (slot : SlotId) (number : FrameNumber)
  deriving DecidableEq, Repr

/-- The six port counters (Table 2-6). -/
structure PortCounters where
  seen : Count
  captured : Count
  skipped : Count
  aborted : Count
  dropped : Count
  reclaimed : Count
  deriving DecidableEq, Repr

/-- A capture port (Table 2-1). -/
structure Port where
  detector : Detector
  /-- field line readings of up to two most recent starts, newest first (R28) -/
  startHistory : List FieldLevel
  latest : Option Measurement
  /-- time of the previous start, the model's own field (log entry 22) -/
  lastStart : Time
  frameNumber : FrameNumber
  latestFrameStart : Option Time
  /-- a frame start was recorded since the detector last entered LOCKED (R62) -/
  startedSinceLock : Bool
  writer : Writer
  depth : Nat
  starved : Bool
  counters : PortCounters
  deriving DecidableEq, Repr

/-! ### Scenes, windows and selection (chapters 4 and 5) -/

/-- The policy of a LIVE window (Table 4-2). -/
inductive Policy where
  | latest
  | paced
  deriving DecidableEq, Repr

/-- The on-loss choice of a LIVE or PIN window (Table 4-2). -/
inductive OnLoss where
  | hold
  | fallback
  deriving DecidableEq, Repr

/-- A fallback: a library image or a colour (Table 4-2). -/
inductive Fallback where
  | image (id : LibId)
  | colour (colour : Triple)
  deriving DecidableEq, Repr

/-- The content of a window with the fields its kind carries (R72). -/
inductive Content where
  | live (source : PortId) (policy : Policy) (onLoss : OnLoss) (fallback : Option Fallback)
      (crop : Option Rect) (freeze : Bool)
  | pin (pin : PinId) (onLoss : OnLoss) (fallback : Option Fallback) (crop : Option Rect)
  | image (id : LibId) (crop : Option Rect)
  | fill (colour : Triple)
  deriving DecidableEq, Repr

/-- A border (Table 4-2, R93). -/
structure Border where
  left : Bool
  right : Bool
  top : Bool
  bottom : Bool
  width : Nat
  colour : Triple
  deriving DecidableEq, Repr

/-- A window record (R72). -/
structure WindowRecord where
  content : Content
  destination : Rect
  layer : Nat
  opacity : Nat
  border : Option Border
  deriving DecidableEq, Repr

/-- The twelve positions of a scene, each a window record or absent (R74). -/
abbrev Scene := Vector (Option WindowRecord) 12

/-- The current frame of a window: the slot on which it holds its reference (Table 5-1). -/
structure CurrentFrame where
  slot : SlotId
  source : PortId
  number : FrameNumber
  deriving DecidableEq, Repr

/-- The selection state of one active position (Table 5-1). -/
structure Selection where
  current : Option CurrentFrame
  lastShown : Option FrameNumber
  repeats : Count
  deriving DecidableEq, Repr

/-! ### Cursor overlay and shape loader (chapter 7) -/

/-- A SPRITE copied into a cursor buffer: its id, its size and its bytes (R130). -/
structure Shape where
  id : LibId
  width : Nat
  height : Nat
  bytes : List Byte
  deriving DecidableEq, Repr

/-- The back buffer (R130). -/
inductive BackBuffer where
  | empty
  | loading (id : LibId)
  | loaded (shape : Shape)
  deriving DecidableEq, Repr

/-- The cursor of one head (Table 7-1). -/
structure Cursor where
  visible : Bool
  x : Int
  y : Int
  pendingPosition : Option (Int × Int)
  colourA : Triple
  colourB : Triple
  front : Option Shape
  back : BackBuffer
  waiting : Option LibId
  deriving DecidableEq, Repr

/-- The shape loader (Table 7-2). -/
structure Loader where
  queue : List (HeadId × LibId)
  job : Option (HeadId × LibId)
  deriving DecidableEq, Repr

/-! ### Ancillary inserter (chapter 8) -/

/-- An ordered pair of 7-bit characters (R143). -/
structure CharPair where
  first : BitVec 7
  second : BitVec 7
  deriving DecidableEq, Repr

/-- The ancillary inserter of one head (Table 8-1). -/
structure Ancillary where
  enable : Bool
  line : Nat
  defaultPair : CharPair
  lowMark : Nat
  queue : List CharPair
  /-- the blanking line and the pair of the frame in progress (R145) -/
  contents : Option (Nat × CharPair)
  sent : Count
  defaults : Count
  deriving DecidableEq, Repr

/-! ### Output heads (chapter 3) -/

/-- The states of a head (R50). -/
inductive HeadState where
  | off
  | running
  | muted
  deriving DecidableEq, Repr

/-- The timing record (Table 3-3). -/
structure Timing where
  activeWidth : Nat
  activeLines : Nat
  totalWidth : Nat
  totalLines : Nat
  /-- in kHz -/
  pixelClock : Nat
  deriving DecidableEq, Repr

/-- The follow states (Table 3-4). -/
inductive FollowState where
  | freeRun
  | pulling
  | following
  deriving DecidableEq, Repr

/-- A follow loss that has arisen at a head and has not been taken (R65, log entry 11). -/
inductive FollowLoss where
  /-- none -/
  | clear
  /-- The detector of the follow source has left LOCKED. `start` is the source's latest frame start as it was then,
  from which a boundary taken before the loss computes its error. -/
  | due (start : Time)
  /-- The loss comes before the next boundary. -/
  | overdue
  deriving DecidableEq, Repr

/-- Rate follow (R61 to R65). -/
structure Follow where
  source : Option PortId
  window : Nat
  lead : Nat
  state : FollowState
  runCount : Nat
  phaseError : Option Int
  loss : FollowLoss
  deriving DecidableEq, Repr

/-- The choices from which the frame in progress is drawn (R55) that can change under it, and the window
pixels of it that a fetch shortfall replaced (R67). The scenes' records, the current frames, the front
buffer and the cursor's position do not change while the frame is drawn. -/
structure DrawnFrame where
  muted : Bool
  background : Triple
  muteColour : Triple
  cursorVisible : Bool
  colourA : Triple
  colourB : Triple
  missed : List (Nat × MissedPixel)
  deriving DecidableEq, Repr

/-- An output head (Table 3-1). -/
structure Head where
  state : HeadState
  presentPending : Bool
  timing : Option Timing
  boundaryCount : Count
  frameLines : Option Nat
  background : Triple
  muteColour : Triple
  follow : Follow
  pendingScene : Scene
  activeScene : Scene
  selection : Vector Selection 12
  cursor : Cursor
  anc : Ancillary
  boundaries : Count
  shortfalls : Count
  frame : Option DrawnFrame
  deriving DecidableEq, Repr

/-! ### Image library (chapter 6) -/

/-- The kinds of an entry (R113). -/
inductive EntryKind where
  | image
  | sprite
  deriving DecidableEq, Repr

/-- What LIB_OPEN fixes of an entry (R112). Byte total and block count follow from kind and size. -/
structure EntryInfo where
  kind : EntryKind
  width : Nat
  height : Nat
  check : BitVec 32
  firstBlock : Nat
  deriving DecidableEq, Repr

/-- A directory entry: its state with the fields present in that state (Table 6-1). -/
inductive Entry where
  | empty
  | receiving (info : EntryInfo) (received : Nat)
  | verifying (info : EntryInfo)
  | valid (info : EntryInfo) (useCount : Nat)
  deriving DecidableEq, Repr

/-- The image library. -/
structure Library where
  entries : Vector Entry 64
  /-- VERIFYING entries, oldest first; the engine works on the first (R121) -/
  verifyQueue : List LibId
  deriving DecidableEq, Repr

/-! ### Notice queue (chapter 10) -/

/-- The reset result that READY carries (R177). -/
inductive StartUpResult where
  | ready
  | faulted
  deriving DecidableEq, Repr

/-- A notice: its kind, its object and the fields of its payload (Table 10-4). -/
inductive Notice where
  | ready (result : StartUpResult) (cause : ResetCause)
  | inputState (port : PortId) (state : DetectorState) (measurement : Option Measurement)
  | captureStarved (port : PortId) (number : FrameNumber)
  | captureResumed (port : PortId) (number : FrameNumber) (skipped : Count)
  | scenePresented (head : HeadId) (boundary : Count)
  | followState (head : HeadId) (state : FollowState) (source : Option PortId) (error : Int)
  | fetchShortfall (head : HeadId) (boundary : Count) (line : Nat)
  | uploadVerified (id : LibId) (info : EntryInfo)
  | uploadFailed (id : LibId) (expected computed : BitVec 32)
  | uploadAbandoned (id : LibId) (received : Nat)
  | shapeShown (head : HeadId) (id : LibId) (boundary : Count)
  | shapeFailed (head : HeadId) (id : LibId)
  | ancLow (head : HeadId) (level : Nat) (boundary : Count)
  deriving DecidableEq, Repr

/-- The stages of a notice entry (R166). -/
inductive Stage where
  | new
  | firstSend
  | sent
  deriving DecidableEq, Repr

/-- A notice entry (Table 10-2). -/
structure NoticeEntry where
  sequence : BitVec 16
  notice : Notice
  lost : Nat
  stage : Stage
  resendDue : Bool
  deriving DecidableEq, Repr

/-- The notice queue (Table 10-1). -/
structure NoticeQueue where
  entries : List NoticeEntry
  next : BitVec 16
  lost : Nat
  resendTimer : Bool
  deriving DecidableEq, Repr

/-! ### Control link and command processor (chapter 9) -/

/-- The line rates of Table 9-2. -/
inductive LineRate where
  | rate115200
  | rate460800
  | rate921600
  deriving DecidableEq, Repr

/-- The receiver: HUNT, or in a frame with the rescan bytes in the order received. LENGTH, BODY and CHECK
are told apart by how many bytes are held (R154; `Receiver.state`). -/
inductive Receiver where
  | hunt
  | inFrame (rescan : List Byte)
  deriving DecidableEq, Repr

/-- An admitted request (R157). -/
structure Request where
  tag : Byte
  code : Byte
  payload : List Byte
  crc : BitVec 16
  deriving DecidableEq, Repr

/-- The reply statuses (Table 11-6). -/
inductive Status where
  | ok
  | accepted
  | unknownCommand
  | badLength
  | badValue
  | wrongState
  | busy
  | notFound
  | inUse
  | noSpace
  | noFrame
  | invalidScene
  | outOfOrder
  | tagInUse
  | queueFull
  | notReady
  | limit
  | ancFull
  deriving DecidableEq, Repr

/-- A status and the payload that goes with it. -/
structure Reply where
  status : Status
  payload : List Byte
  deriving DecidableEq, Repr

/-- Where an entry of the reply line comes from: the processor, with the CRC-16 of its request (R160), the
processor's reply to an executed RESET (R176), or the link itself (R158). -/
inductive Origin where
  | posted (crc : BitVec 16)
  | reset
  | immediate
  | replayed
  deriving DecidableEq, Repr

/-- An entry of the reply line. -/
structure ReplyEntry where
  origin : Origin
  tag : Byte
  code : Byte
  reply : Reply
  deriving DecidableEq, Repr

/-- An entry of the reply memory (R160). -/
structure MemoryEntry where
  tag : Byte
  code : Byte
  crc : BitVec 16
  reply : Reply
  deriving DecidableEq, Repr

/-- The owner of the frame on the line (R162). -/
inductive FrameOwner where
  | reply (entry : ReplyEntry)
  | notice (sequence : BitVec 16)
  deriving DecidableEq, Repr

/-- The frame being sent and its bytes on the line (R152, R162). -/
structure Sending where
  owner : FrameOwner
  bytes : List Byte
  deriving DecidableEq, Repr

/-- The nine link counters (Table 9-4). -/
structure LinkCounters where
  goodFrames : Count
  crcErrors : Count
  lengthErrors : Count
  gapErrors : Count
  unknownKinds : Count
  queueFull : Count
  discarded : Count
  replays : Count
  strayAcks : Count
  deriving DecidableEq, Repr

/-- The control link interface and the command processor (Table 9-1). -/
structure Link where
  rate : LineRate
  receiver : Receiver
  requestQueue : List Request
  replyLine : List ReplyEntry
  memory : List MemoryEntry
  transmitter : Option Sending
  counters : LinkCounters
  /-- RESET has been executed: the processor takes no further request (R176) -/
  stopped : Bool
  deriving DecidableEq, Repr

/-! ### The machine -/

/-- The state of the part, and the queue of the commands waiting to be taken. -/
structure State where
  device : Device
  link : Link
  notices : NoticeQueue
  pool : Pool
  ports : Vector Port 4
  heads : Vector Head 2
  library : Library
  loader : Loader
  /-- the bytes of DRAM written since start-up, in rising order of address -/
  dram : List Host.Cell
  /-- commands not yet taken, first in, first out -/
  pending : List Instr
  deriving DecidableEq, Repr

/-- The spec gives the part no event that stops it (a bad request is answered, a bad frame is counted, a
failed DRAM test leads to FAULTED), so there is no fault. Safe: no meaning can stop a run. -/
inductive Fault where
  deriving DecidableEq, Repr

/-- Why a command would have no meaning. -/
inductive Refusal where
  /-- Raised by `exec` alone, for a command that has no meaning yet; no arm of `exec` raises it now. Safe:
  nothing can be proved of a step that is refused. -/
  | notModelled (mnemonic : String)
  deriving DecidableEq, Repr

/-! ### Reset values -/

/-- Black (00_scope.md, Conventions). -/
def Triple.black : Triple := ⟨16, 128, 128⟩

/-- White (00_scope.md, Conventions). -/
def Triple.white : Triple := ⟨235, 128, 128⟩

/-- Every slot index in order. -/
def slotIds : List SlotId :=
  [0, 1, 2, 3, 4, 5, 6, 7, 8, 9, 10, 11, 12, 13, 14, 15, 16, 17, 18, 19, 20, 21, 22, 23]

/-- R3: every slot FREE, the free list in index order, the ready lists and the pins empty. -/
def Pool.reset : Pool where
  slots := Vector.replicate 24 .free
  freeList := slotIds
  ready := Vector.replicate 4 []
  pins := Vector.replicate 8 none

/-- The six port counters at 0. -/
def PortCounters.zero : PortCounters := ⟨0, 0, 0, 0, 0, 0⟩

/-- R49. -/
def Port.reset : Port where
  detector := .noSignal
  startHistory := []
  latest := none
  lastStart := 0
  frameNumber := 0
  latestFrameStart := none
  startedSinceLock := false
  writer := .off
  depth := 2
  starved := false
  counters := .zero

/-- Cleared selection state (R86). -/
def Selection.cleared : Selection := ⟨none, none, 0⟩

/-- A scene with all twelve positions absent (R74). -/
def Scene.allAbsent : Scene := Vector.replicate 12 none

/-- R141. -/
def Cursor.reset : Cursor where
  visible := false
  x := 0
  y := 0
  pendingPosition := none
  colourA := .white
  colourB := .black
  front := none
  back := .empty
  waiting := none

/-- R150. -/
def Ancillary.reset : Ancillary where
  enable := false
  line := 1
  defaultPair := ⟨0, 0⟩
  lowMark := 4
  queue := []
  contents := none
  sent := 0
  defaults := 0

/-- R70, rate follow. -/
def Follow.reset : Follow where
  source := none
  window := 2
  lead := 0
  state := .freeRun
  runCount := 0
  phaseError := none
  loss := .clear

/-- R70. -/
def Head.reset : Head where
  state := .off
  presentPending := false
  timing := none
  boundaryCount := 0
  frameLines := none
  background := .black
  muteColour := .black
  follow := .reset
  pendingScene := .allAbsent
  activeScene := .allAbsent
  selection := Vector.replicate 12 .cleared
  cursor := .reset
  anc := .reset
  boundaries := 0
  shortfalls := 0
  frame := none

/-- R129. -/
def Library.reset : Library where
  entries := Vector.replicate 64 .empty
  verifyQueue := []

/-- R141, the shape loader. -/
def Loader.reset : Loader := ⟨[], none⟩

/-- R175. -/
def NoticeQueue.reset : NoticeQueue := ⟨[], 0, 0, false⟩

/-- The nine link counters at 0. -/
def LinkCounters.zero : LinkCounters := ⟨0, 0, 0, 0, 0, 0, 0, 0, 0⟩

/-- R165, at a line rate. -/
def Link.reset (rate : LineRate) : Link where
  rate := rate
  receiver := .hunt
  requestQueue := []
  replyLine := []
  memory := []
  transmitter := none
  counters := .zero
  stopped := false

/-- The machine right after a device reset: every block at its reset values and the part STARTING
(R165, R177). The cause is the pin (log entry 3) and the straps are both low (log entry 10). -/
def State.reset : State where
  device := ⟨.starting, .pin, 0⟩
  link := .reset .rate115200
  notices := .reset
  pool := .reset
  ports := Vector.replicate 4 .reset
  heads := Vector.replicate 2 .reset
  library := .reset
  loader := .reset
  dram := []
  pending := []

end Sys2Proof.Machine
end

