-- ==== Sys2Proof/Machine/Ops.lean ====
section
/-! DEFINITION. The named operations over the state: registers, bytes, DRAM, counters, notices, and the
device reset, which every cause of one shares. -/

namespace Sys2Proof.Machine

/-! ### Reading and updating the numbered parts of the state -/

/-- Capture port `p`. -/
def State.port (s : State) (p : PortId) : Port := s.ports[p]

/-- Replace capture port `p` by `f` of it. -/
def State.modPort (s : State) (p : PortId) (f : Port → Port) : State :=
  { s with ports := s.ports.set p (f (s.port p)) }

/-- Output head `h`. -/
def State.head (s : State) (h : HeadId) : Head := s.heads[h]

/-- Replace output head `h` by `f` of it. -/
def State.modHead (s : State) (h : HeadId) (f : Head → Head) : State :=
  { s with heads := s.heads.set h (f (s.head h)) }

/-- The record of slot `i`. -/
def State.slot (s : State) (i : SlotId) : Slot := s.pool.slots[i]

/-- Replace the record of slot `i`. -/
def State.setSlot (s : State) (i : SlotId) (v : Slot) : State :=
  { s with pool := { s.pool with slots := s.pool.slots.set i v } }

/-- Replace the free list. -/
def State.setFreeList (s : State) (l : List SlotId) : State :=
  { s with pool := { s.pool with freeList := l } }

/-- The ready list of port `p`, oldest first (R5). -/
def State.readyList (s : State) (p : PortId) : List SlotId := s.pool.ready[p]

/-- Replace the ready list of port `p`. -/
def State.setReady (s : State) (p : PortId) (l : List SlotId) : State :=
  { s with pool := { s.pool with ready := s.pool.ready.set p l } }

/-- Pin entry `i`. -/
def State.pin (s : State) (i : PinId) : Option PinEntry := s.pool.pins[i]

/-- Replace pin entry `i`. -/
def State.setPin (s : State) (i : PinId) (v : Option PinEntry) : State :=
  { s with pool := { s.pool with pins := s.pool.pins.set i v } }

/-- Directory entry `i` of the library. -/
def State.entry (s : State) (i : LibId) : Entry := s.library.entries[i]

/-- Replace directory entry `i`. -/
def State.setEntry (s : State) (i : LibId) (v : Entry) : State :=
  { s with library := { s.library with entries := s.library.entries.set i v } }

/-- Replace the verify queue. -/
def State.setVerifyQueue (s : State) (q : List LibId) : State :=
  { s with library := { s.library with verifyQueue := q } }

/-- Update the control link. -/
def State.modLink (s : State) (f : Link → Link) : State := { s with link := f s.link }

/-- Update the link counters. -/
def State.countLink (s : State) (f : LinkCounters → LinkCounters) : State :=
  s.modLink fun l => { l with counters := f l.counters }

/-- Update the counters of port `p`. -/
def State.countPort (s : State) (p : PortId) (f : PortCounters → PortCounters) : State :=
  s.modPort p fun q => { q with counters := f q.counters }

/-- The twelve positions in ascending order (R80, R96). -/
def positions : List Position := [0, 1, 2, 3, 4, 5, 6, 7, 8, 9, 10, 11]

/-- The four ports in ascending order. -/
def portIds : List PortId := [0, 1, 2, 3]

/-- The eight pins in ascending order. -/
def pinIds : List PinId := [0, 1, 2, 3, 4, 5, 6, 7]

/-- The two heads in ascending order. -/
def headIds : List HeadId := [0, 1]

/-! ### The states a command may be taken in -/

/-- Whether the part is in the ready state (Table 11-1). -/
def State.isReady (s : State) : Bool := decide (s.device.phase = .ready)

/-- Whether the reset pin holds the part in reset (R176). -/
def State.isHeld (s : State) : Bool := decide (s.device.phase = .held)

/-- An event of a block is taken in the ready state: while STARTING and in FAULTED every block stays at its
reset values, and in reset nothing happens (R176 to R178). In the other states the event changes nothing
(log entry 2). -/
def whenReady (s : State) (f : State → State) : State := if s.isReady then f s else s

/-- The next frame number (R36). Past 2^64 - 1 it is the free value of log entry 7. -/
def nextFrameNumber (n : FrameNumber) : FrameNumber :=
  if n = BitVec.allOnes 64 then Config.frameNumberAfterLast else n + 1

/-! ### Bytes -/

/-- The low byte of a number. -/
def byteOf (n : Nat) : Byte := BitVec.ofNat 8 n

/-- A yes-or-no field: 1 for yes, 0 for no (R183). -/
def flagByte (b : Bool) : Byte := if b then 1 else 0

/-- The low `k` bytes of a number, least significant first (R152). -/
def leBytes : Nat → Nat → List Byte
  | 0, _ => []
  | k + 1, n => byteOf n :: leBytes k (n / 256)

/-- The number that bytes spell, least significant first (R152). -/
def leNat : List Byte → Nat
  | [] => 0
  | b :: bs => b.toNat + 256 * leNat bs

/-- A signed quantity in two's complement of 2 bytes (R183). -/
def signedBytes (i : Int) : List Byte := leBytes 2 (BitVec.ofInt 16 i).toNat

/-- The signed quantity that 2 bytes spell (R183). -/
def signedOf (n : Nat) : Int := (BitVec.ofNat 16 n).toInt

/-- Byte `i` of a payload, 0 past its end. -/
def byteAt (bs : List Byte) (i : Nat) : Byte := bs.getD i 0

/-- The 2-byte field at offset `i` of a payload. -/
def u16At (bs : List Byte) (i : Nat) : Nat := leNat [byteAt bs i, byteAt bs (i + 1)]

/-- The 4-byte field at offset `i` of a payload. -/
def u32At (bs : List Byte) (i : Nat) : Nat :=
  leNat [byteAt bs i, byteAt bs (i + 1), byteAt bs (i + 2), byteAt bs (i + 3)]

/-- The colour triple at offset `i` of a payload: Y, Cb, Cr (R183). -/
def tripleAt (bs : List Byte) (i : Nat) : Triple :=
  ⟨byteAt bs i, byteAt bs (i + 1), byteAt bs (i + 2)⟩

/-- A colour triple as bytes (R183). -/
def Triple.bytes (c : Triple) : List Byte := [c.y, c.cb, c.cr]

/-! ### The two CRCs -/

/-- One of the eight steps of R153. -/
def crc16Step (r : BitVec 16) : BitVec 16 :=
  if r.msb then (r <<< 1) ^^^ 0x1021#16 else r <<< 1

/-- One byte into the register of R153: exclusive-OR into its high 8 bits, then eight steps. -/
def crc16Byte (r : BitVec 16) (b : Byte) : BitVec 16 :=
  let r := r ^^^ (b.zeroExtend 16 <<< 8)
  crc16Step (crc16Step (crc16Step (crc16Step (crc16Step (crc16Step (crc16Step (crc16Step r)))))))

/-- The CRC-16 of a run of bytes (R153). -/
def crc16 (bs : List Byte) : BitVec 16 := bs.foldl crc16Byte 0xFFFF#16

/-- One of the eight steps of R121. -/
def crc32Step (r : BitVec 32) : BitVec 32 :=
  if r.getLsbD 0 then (r >>> 1) ^^^ 0xEDB88320#32 else r >>> 1

/-- One byte into the register of R121: exclusive-OR into its low 8 bits, then eight steps. -/
def crc32Byte (r : BitVec 32) (b : Byte) : BitVec 32 :=
  let r := r ^^^ b.zeroExtend 32
  crc32Step (crc32Step (crc32Step (crc32Step (crc32Step (crc32Step (crc32Step (crc32Step r)))))))

/-- The CRC-32 of a run of bytes (R121). -/
def crc32 (bs : List Byte) : BitVec 32 := bs.foldl crc32Byte 0xFFFFFFFF#32 ^^^ 0xFFFFFFFF#32

/-! ### DRAM -/

/-- The byte written at an address, if any has been. -/
def Memory.read : List Host.Cell → Nat → Option Byte
  | [], _ => none
  | (k, v) :: m, a => if k = a then some v else Memory.read m a

/-- Write one byte, keeping the addresses strictly rising. -/
def Memory.write : List Host.Cell → Nat → Byte → List Host.Cell
  | [], a, b => [(a, b)]
  | (k, v) :: m, a, b =>
    if a < k then (a, b) :: (k, v) :: m
    else if a = k then (k, b) :: m
    else (k, v) :: Memory.write m a b

/-- The canonical form of memory: strictly rising addresses of DRAM. An address that is not listed holds no
written byte, so no entry can equal what an unlisted address holds. -/
abbrev Memory.wf (m : List Host.Cell) : Prop :=
  (m.map Prod.fst).Pairwise (· < ·) ∧ ∀ c ∈ m, c.1 < Config.dramBytes

/-- The byte of DRAM at an address: the byte written there, or the free value that the start-up test left
(log entry 5). -/
def State.dramByte (s : State) (a : DramAddress) : Byte :=
  (Memory.read s.dram a.toNat).getD (Config.dramPattern s.device.boots a.toNat)

/-- Write one byte of DRAM. -/
def State.writeByte (s : State) (a : DramAddress) (b : Byte) : State :=
  { s with dram := Memory.write s.dram a.toNat b }

/-- Write bytes to the addresses that `addr` gives for their places 0, 1, 2 and so on. -/
def State.writeBytes (addr : Nat → DramAddress) : Nat → List Byte → State → State
  | _, [], s => s
  | k, b :: bs, s => State.writeBytes addr (k + 1) bs (s.writeByte (addr k) b)

/-- The `n` bytes of DRAM from an address on. -/
def State.readBytes (s : State) (base n : Nat) : List Byte :=
  (List.range n).map fun k => s.dramByte (BitVec.ofNat 26 (base + k))

/-! ### Notices (chapter 10) -/

/-- The thirteen kinds, as the codes of Table 10-4. -/
def Notice.code : Notice → Byte
  | .ready .. => 0x01
  | .inputState .. => 0x02
  | .captureStarved .. => 0x03
  | .captureResumed .. => 0x04
  | .scenePresented .. => 0x05
  | .followState .. => 0x06
  | .fetchShortfall .. => 0x07
  | .uploadVerified .. => 0x08
  | .uploadFailed .. => 0x09
  | .uploadAbandoned .. => 0x0A
  | .shapeShown .. => 0x0B
  | .shapeFailed .. => 0x0C
  | .ancLow .. => 0x0D

/-- The object of a notice within its kind: the number of its port, head or library id, 0 for none
(Table 10-4, note 1). -/
def Notice.object : Notice → Nat
  | .ready .. => 0
  | .inputState p .. => p.val
  | .captureStarved p .. => p.val
  | .captureResumed p .. => p.val
  | .scenePresented h .. => h.val
  | .followState h .. => h.val
  | .fetchShortfall h .. => h.val
  | .uploadVerified i .. => i.val + 1
  | .uploadFailed i .. => i.val + 1
  | .uploadAbandoned i .. => i.val + 1
  | .shapeShown h .. => h.val
  | .shapeFailed h .. => h.val
  | .ancLow h .. => h.val

/-- The coalescable kinds are INPUT_STATE, FOLLOW_STATE, FETCH_SHORTFALL and ANC_LOW (R167). -/
def Notice.coalescable : Notice → Bool
  | .ready .. => false
  | .inputState .. => true
  | .captureStarved .. => false
  | .captureResumed .. => false
  | .scenePresented .. => false
  | .followState .. => true
  | .fetchShortfall .. => true
  | .uploadVerified .. => false
  | .uploadFailed .. => false
  | .uploadAbandoned .. => false
  | .shapeShown .. => false
  | .shapeFailed .. => false
  | .ancLow .. => true

/-- Whether a notice merges into an entry: the entry is NEW, of the same kind and the same object (R167). -/
def NoticeEntry.mergesWith (n : Notice) (e : NoticeEntry) : Bool :=
  decide (e.stage = .new) && decide (e.notice.code = n.code) && decide (e.notice.object = n.object)

/-- R168: append a notice as NEW, or count it lost when 16 entries are held. -/
def NoticeQueue.append (n : Notice) (q : NoticeQueue) : NoticeQueue :=
  if q.entries.length < Config.maxNotices then
    { q with
      entries := q.entries ++ [⟨q.next, n, q.lost, .new, false⟩]
      next := q.next + 1
      lost := 0 }
  else { q with lost := if q.lost < 255 then q.lost + 1 else 255 }

/-- R167: a coalescable notice replaces the payload of a NEW entry of its kind and object; any other is
appended. -/
def NoticeQueue.raise (n : Notice) (q : NoticeQueue) : NoticeQueue :=
  if n.coalescable && q.entries.any (NoticeEntry.mergesWith n) then
    { q with entries := q.entries.map fun e => if e.mergesWith n then { e with notice := n } else e }
  else q.append n

/-- Raise a notice (R167). -/
def State.raise (s : State) (n : Notice) : State := { s with notices := s.notices.raise n }

/-! ### Device reset (R176) -/

/-- The line rate that the straps choose (Table 9-2). -/
def lineRate : Straps → LineRate
  | ⟨false, false⟩ => .rate115200
  | ⟨false, true⟩ => .rate460800
  | ⟨true, false⟩ => .rate921600
  | ⟨true, true⟩ => .rate115200

/-- A device reset (R176, R177): every block takes its reset values and the straps are sampled. DRAM keeps
its bytes (R3, R129), and the commands still waiting are the outside world's. `phase` is STARTING, or held
while the pin stays asserted. -/
def State.deviceReset (s : State) (phase : Phase) (cause : ResetCause) (straps : Straps) : State :=
  { State.reset with
    device := ⟨phase, cause, s.device.boots⟩
    link := .reset (lineRate straps)
    dram := s.dram
    pending := s.pending }

end Sys2Proof.Machine
end

