-- ==== Sys2Proof/Machine/Operands.lean ====
section
/-! DEFINITION. The operand forms: how the fields of a request's payload are read, and the encoded window
record of Table 11-7, both ways. -/

namespace Sys2Proof.Machine

/-- A number field that must be below `n`: a port, head, pin, position or enumeration. -/
def finOf (n : Nat) (b : Byte) : Option (Fin n) :=
  if h : b.toNat < n then some ⟨b.toNat, h⟩ else none

/-- A library id, 1 to 64 (R112). -/
def libIdOf (b : Byte) : Option LibId :=
  if h : 1 ≤ b.toNat ∧ b.toNat ≤ 64 then some ⟨b.toNat - 1, by omega⟩ else none

/-- The byte of a library id. -/
def libIdByte (i : LibId) : Byte := byteOf (i.val + 1)

/-- A yes-or-no field: 0 for no, 1 for yes (R183). -/
def flagOf (b : Byte) : Option Bool :=
  if b = 0 then some false else if b = 1 then some true else none

/-- A 7-bit character field (R143). -/
def charOf (b : Byte) : Option (BitVec 7) := if b.toNat < 128 then some (b.setWidth 7) else none

/-- The pairs of an ANC_PUSH payload, none when a character is outside 0 to 127 (R144). -/
def pairsOf : List Byte → Option (List CharPair)
  | [] => some []
  | [_] => none
  | a :: b :: rest =>
    match charOf a, charOf b, pairsOf rest with
    | some x, some y, some l => some (⟨x, y⟩ :: l)
    | _, _, _ => none

/-! ### Measurements of the window record -/

/-- The ranges of a crop (Table 4-3). -/
def Rect.cropInRange (r : Rect) : Bool :=
  decide (r.x ≤ 1279) && decide (r.y ≤ 719) && decide (1 ≤ r.w) && decide (r.w ≤ 1280) &&
  decide (1 ≤ r.h) && decide (r.h ≤ 720) && decide (r.x + r.w ≤ 1280) && decide (r.y + r.h ≤ 720)

/-- The ranges of a destination (Table 4-3). -/
def Rect.destinationInRange (r : Rect) : Bool :=
  decide (r.x ≤ 1919) && decide (r.y ≤ 1079) && decide (8 ≤ r.w) && decide (r.w ≤ 1920) &&
  decide (8 ≤ r.h) && decide (r.h ≤ 1080)

/-- The ranges of a border (Table 4-3). -/
def Border.inRange (b : Border) : Bool :=
  (b.left || b.right || b.top || b.bottom) && decide (1 ≤ b.width) && decide (b.width ≤ 8)

/-- The crop of a record, if its kind carries one and it is present. -/
def Content.crop : Content → Option Rect
  | .live _ _ _ _ crop _ => crop
  | .pin _ _ _ crop => crop
  | .image _ crop => crop
  | .fill _ => none

/-- The fallback of a record, if its kind carries one and it is present. -/
def Content.fallback : Content → Option Fallback
  | .live _ _ _ fallback _ _ => fallback
  | .pin _ _ fallback _ => fallback
  | .image _ _ => none
  | .fill _ => none

/-- R73: the field ranges of a window record that its types do not already give. -/
def WindowRecord.inRange (r : WindowRecord) : Bool :=
  (r.content.crop.all Rect.cropInRange) && r.destination.destinationInRange &&
  decide (r.layer ≤ 15) && decide (1 ≤ r.opacity) && decide (r.opacity ≤ 16) &&
  (r.border.all Border.inRange)

/-! ### Reading a record (R73, Table 11-7) -/

/-- Whether the `n` bytes at offset `i` are all 0: a field marked absent is sent as zeros. -/
def zerosAt (bs : List Byte) (i n : Nat) : Bool :=
  (List.range n).all fun k => decide (byteAt bs (i + k) = 0)

/-- Four 2-byte fields x, y, w, h. -/
def rectAt (bs : List Byte) (i : Nat) : Rect :=
  ⟨u16At bs i, u16At bs (i + 2), u16At bs (i + 4), u16At bs (i + 6)⟩

/-- The fallback field, when bit 0 of presence is set: `some none` when absent and sent as zeros, `none`
when it is refused. -/
def readFallback (bs : List Byte) : Option (Option Fallback) :=
  if (byteAt bs 1).getLsbD 0 then
    if byteAt bs 10 = 1 then
      match libIdOf (byteAt bs 11) with
      | some i => if zerosAt bs 12 2 then some (some (.image i)) else none
      | none => none
    else if byteAt bs 10 = 2 then some (some (.colour (tripleAt bs 11)))
    else none
  else if zerosAt bs 10 4 then some none
  else none

/-- The crop field, when bit 1 of presence is set. -/
def readCrop (bs : List Byte) : Option (Option Rect) :=
  if (byteAt bs 1).getLsbD 1 then
    if (rectAt bs 14).cropInRange then some (some (rectAt bs 14)) else none
  else if zerosAt bs 14 8 then some none
  else none

/-- The border at offset 30, its ranges not yet checked. -/
def borderAt (bs : List Byte) : Border where
  left := (byteAt bs 30).getLsbD 0
  right := (byteAt bs 30).getLsbD 1
  top := (byteAt bs 30).getLsbD 2
  bottom := (byteAt bs 30).getLsbD 3
  width := (byteAt bs 31).toNat
  colour := tripleAt bs 32

/-- The border field, when bit 2 of presence is set. -/
def readBorder (bs : List Byte) : Option (Option Border) :=
  if (byteAt bs 1).getLsbD 2 then
    if (borderAt bs).inRange && decide ((byteAt bs 30).toNat < 16) then some (some (borderAt bs)) else none
  else if zerosAt bs 30 5 then some none
  else none

/-- The policy field: 0 none, 1 LATEST, 2 PACED. -/
def readPolicy (b : Byte) : Option (Option Policy) :=
  if b = 0 then some none else if b = 1 then some (some .latest)
  else if b = 2 then some (some .paced) else none

/-- The on-loss field: 0 none, 1 HOLD, 2 FALLBACK. -/
def readOnLoss (b : Byte) : Option (Option OnLoss) :=
  if b = 0 then some none else if b = 1 then some (some .hold)
  else if b = 2 then some (some .fallback) else none

/-- The content of a record, with the fields its kind carries and no other (R72, R73). -/
def readContent (bs : List Byte) : Option Content :=
  match readFallback bs, readCrop bs, readPolicy (byteAt bs 5), readOnLoss (byteAt bs 6),
      flagOf (byteAt bs 7) with
  | some fallback, some crop, some policy, some onLoss, some freeze =>
    if byteAt bs 0 = 1 then
      match finOf 4 (byteAt bs 2), policy, onLoss with
      | some source, some policy, some onLoss =>
        if zerosAt bs 3 2 then some (.live source policy onLoss fallback crop freeze) else none
      | _, _, _ => none
    else if byteAt bs 0 = 2 then
      match finOf 8 (byteAt bs 2), policy, onLoss, freeze with
      | some pin, none, some onLoss, false =>
        if zerosAt bs 3 2 then some (.pin pin onLoss fallback crop) else none
      | _, _, _, _ => none
    else if byteAt bs 0 = 3 then
      match libIdOf (byteAt bs 2), policy, onLoss, freeze, fallback with
      | some id, none, none, false, none =>
        if zerosAt bs 3 2 then some (.image id crop) else none
      | _, _, _, _, _ => none
    else if byteAt bs 0 = 4 then
      match policy, onLoss, freeze, fallback, crop with
      | none, none, false, none, none => some (.fill (tripleAt bs 2))
      | _, _, _, _, _ => none
    else none
  | _, _, _, _, _ => none

/-- R73: the record that 35 bytes spell, or none when any field is refused. -/
def readRecord (bs : List Byte) : Option WindowRecord :=
  match readContent bs, readBorder bs with
  | some content, some border =>
    let r : WindowRecord :=
      ⟨content, rectAt bs 22, (byteAt bs 8).toNat, (byteAt bs 9).toNat, border⟩
    if r.inRange && decide ((byteAt bs 1).toNat < 8) then some r else none
  | _, _ => none

/-! ### Writing a record (R78, Table 11-7) -/

/-- `n` bytes of 0. -/
def zeros (n : Nat) : List Byte := List.replicate n 0

/-- A rectangle as four 2-byte fields. -/
def Rect.bytes (r : Rect) : List Byte :=
  leBytes 2 r.x ++ leBytes 2 r.y ++ leBytes 2 r.w ++ leBytes 2 r.h

/-- The fallback kind and value fields. -/
def fallbackBytes : Option Fallback → List Byte
  | none => zeros 4
  | some (.image i) => [1, libIdByte i, 0, 0]
  | some (.colour c) => 2 :: c.bytes

/-- The crop field. -/
def cropBytes : Option Rect → List Byte
  | none => zeros 8
  | some r => r.bytes

/-- The border sides: bit 0 left, bit 1 right, bit 2 top, bit 3 bottom. -/
def Border.sides (b : Border) : Byte :=
  byteOf (b.left.toNat + 2 * b.right.toNat + 4 * b.top.toNat + 8 * b.bottom.toNat)

/-- The border fields. -/
def borderBytes : Option Border → List Byte
  | none => zeros 5
  | some b => [b.sides, byteOf b.width] ++ b.colour.bytes

/-- The policy field. -/
def Policy.byte : Policy → Byte
  | .latest => 1
  | .paced => 2

/-- The on-loss field. -/
def OnLoss.byte : OnLoss → Byte
  | .hold => 1
  | .fallback => 2

/-- The content kind, 1 to 4. -/
def Content.kindByte : Content → Byte
  | .live .. => 1
  | .pin .. => 2
  | .image .. => 3
  | .fill .. => 4

/-- The three bytes of the content reference. -/
def Content.referenceBytes : Content → List Byte
  | .live source .. => [byteOf source.val, 0, 0]
  | .pin i _ _ _ => [byteOf i.val, 0, 0]
  | .image id _ => [libIdByte id, 0, 0]
  | .fill c => c.bytes

/-- Policy, on-loss and freeze. -/
def Content.choiceBytes : Content → List Byte
  | .live _ policy onLoss _ _ freeze => [policy.byte, onLoss.byte, flagByte freeze]
  | .pin _ onLoss _ _ => [0, onLoss.byte, 0]
  | .image _ _ => [0, 0, 0]
  | .fill _ => [0, 0, 0]

/-- The presence byte: bit 0 fallback, bit 1 crop, bit 2 border. -/
def WindowRecord.presence (r : WindowRecord) : Byte :=
  byteOf (r.content.fallback.isSome.toNat + 2 * r.content.crop.isSome.toNat + 4 * r.border.isSome.toNat)

/-- A record as the 35 bytes of Table 11-7. -/
def WindowRecord.bytes (r : WindowRecord) : List Byte :=
  [r.content.kindByte, r.presence] ++ r.content.referenceBytes ++ r.content.choiceBytes ++
  [byteOf r.layer, byteOf r.opacity] ++ fallbackBytes r.content.fallback ++ cropBytes r.content.crop ++
  r.destination.bytes ++ borderBytes r.border

end Sys2Proof.Machine
end

