-- ==== Sys2Proof/Machine/Slots.lean ====
section
/-! DEFINITION. The slot manager: claims, completions, evictions, flushes, aborts and references (chapter 1). -/

namespace Sys2Proof.Machine

/-- The frame a READY or HELD slot holds. -/
def Slot.frame? : Slot → Option StoredFrame
  | .free => none
  | .filling _ _ => none
  | .ready f => some f
  | .held f => some f

/-- The reference count of a slot; it is 0 in FREE and FILLING (Table 1-1, note 2). -/
def Slot.refs (v : Slot) : Nat := (v.frame?.map StoredFrame.refs).getD 0

/-- A slot becomes FREE and joins the tail of the free list (R4). -/
def State.freeSlot (s : State) (i : SlotId) : State :=
  (s.setSlot i .free).setFreeList (s.pool.freeList ++ [i])

/-- What becomes of a READY slot that leaves its ready list by eviction or flush (R7, R8): FREE with refs 0,
HELD with refs greater than 0. -/
def State.retireSlot (s : State) (i : SlotId) : State :=
  match s.slot i with
  | .ready f => if f.refs = 0 then s.freeSlot i else s.setSlot i (.held f)
  | .free => s
  | .filling _ _ => s
  | .held _ => s

/-- Count a drop at port `p` when the frame of slot `i` was never shown (R7, R10). -/
def State.countDrop (s : State) (p : PortId) (i : SlotId) : State :=
  match (s.slot i).frame? with
  | some f => if f.shown then s else s.countPort p fun c => { c with dropped := c.dropped + 1 }
  | none => s

/-- R7: an eviction of the oldest frame of a ready list. -/
def State.evictOldest (s : State) (p : PortId) : State :=
  match s.readyList p with
  | [] => s
  | i :: rest => ((s.countDrop p i).setReady p rest).retireSlot i

/-- `n` evictions, oldest first, each with its own accounting (R7). -/
def State.evict : Nat → PortId → State → State
  | 0, _, s => s
  | n + 1, p, s => State.evict n p (s.evictOldest p)

/-- Evict what a ready list holds beyond its hold depth (R6, R11). -/
def State.evictSurplus (s : State) (p : PortId) : State :=
  State.evict ((s.readyList p).length - (s.port p).depth) p s

/-- R8: a flush removes every frame, oldest first, and counts no drop. -/
def State.flush (s : State) (p : PortId) : State :=
  (s.readyList p).foldl State.retireSlot (s.setReady p [])

/-- The claim is served: the slot becomes FILLING for the port, and a starved port resumes (R9, R10). -/
def State.grant (s : State) (p : PortId) (g : Geometry) (n : FrameNumber) (i : SlotId) : State :=
  let s := s.setSlot i (.filling p g)
  if (s.port p).starved then
    (s.modPort p fun q => { q with starved := false }).raise
      (.captureResumed p n (s.port p).counters.skipped)
  else s

/-- R12: the frame is skipped, and a port that was not starved becomes so. -/
def State.skip (s : State) (p : PortId) (n : FrameNumber) : State :=
  let s := s.countPort p fun c => { c with skipped := c.skipped + 1 }
  if (s.port p).starved then s
  else (s.modPort p fun q => { q with starved := true }).raise (.captureStarved p n)

/-- The oldest frame of a port's ready list with refs 0 (R10). -/
def State.reclaimable (s : State) (p : PortId) : Option SlotId :=
  (s.readyList p).find? fun i => decide ((s.slot i).refs = 0)

/-- A claim of port `p` for frame `n`: from the free list (R9), else by reclaim (R10), else a skip (R12).
The answer is the slot granted, if any, and the state. -/
def State.claim (s : State) (p : PortId) (g : Geometry) (n : FrameNumber) : Option SlotId × State :=
  match s.pool.freeList with
  | i :: rest => (some i, (s.setFreeList rest).grant p g n i)
  | [] =>
    match s.reclaimable p with
    | some i =>
      let s := s.countDrop p i
      let s := s.countPort p fun c => { c with reclaimed := c.reclaimed + 1 }
      (some i, (s.setReady p ((s.readyList p).erase i)).grant p g n i)
    | none => (none, s.skip p n)

/-- R6: the FILLING slot of port `p` becomes READY under number `n` and joins the tail of the ready list,
with any eviction that follows. -/
def State.complete (s : State) (p : PortId) (i : SlotId) (n : FrameNumber) : State :=
  match s.slot i with
  | .filling source g =>
    let s := s.setSlot i (.ready ⟨source, n, g, 0, false⟩)
    let s := s.setReady p (s.readyList p ++ [i])
    let s := s.countPort p fun c => { c with captured := c.captured + 1 }
    s.evictSurplus p
  | .free => s
  | .ready _ => s
  | .held _ => s

/-- R14: an abort ends a fill without a completion; the writer goes to the given state. A writer that is not
filling is left as it is. -/
def State.abortFill (s : State) (p : PortId) (after : Writer) : State :=
  match (s.port p).writer with
  | .filling _ i _ =>
    let s := s.freeSlot i
    let s := s.countPort p fun c => { c with aborted := c.aborted + 1 }
    s.modPort p fun q => { q with writer := after }
  | .off => s
  | .armed => s

/-- R17: taking a reference increments refs and sets shown. A reference is taken on a READY or HELD slot. -/
def State.takeRef (s : State) (i : SlotId) : State :=
  match s.slot i with
  | .ready f => s.setSlot i (.ready { f with refs := f.refs + 1, shown := true })
  | .held f => s.setSlot i (.held { f with refs := f.refs + 1, shown := true })
  | .free => s
  | .filling _ _ => s

/-- R18: releasing a reference decrements refs; a HELD slot whose refs reaches 0 becomes FREE. -/
def State.releaseRef (s : State) (i : SlotId) : State :=
  match s.slot i with
  | .ready f => s.setSlot i (.ready { f with refs := f.refs - 1 })
  | .held f => if f.refs ≤ 1 then s.freeSlot i else s.setSlot i (.held { f with refs := f.refs - 1 })
  | .free => s
  | .filling _ _ => s

/-- Release the reference of a holder that may have none. -/
def State.releaseOpt (s : State) (i : Option SlotId) : State :=
  match i with
  | some i => s.releaseRef i
  | none => s

end Sys2Proof.Machine
end

