-- ==== Sys2Proof/Machine/Flags.lean ====
section
/-! DEFINITION. Status codes, enumeration codes, and the layouts of the reports and notices the part sends
(chapter 11, Tables 11-6 to 11-10). -/

namespace Sys2Proof.Machine

/-! ### Codes (Table 11-6, R183) -/

/-- Table 11-6. -/
def Status.byte : Status → Byte
  | .ok => 0x00
  | .accepted => 0x01
  | .unknownCommand => 0x10
  | .badLength => 0x11
  | .badValue => 0x12
  | .wrongState => 0x13
  | .busy => 0x14
  | .notFound => 0x15
  | .inUse => 0x16
  | .noSpace => 0x17
  | .noFrame => 0x18
  | .invalidScene => 0x19
  | .outOfOrder => 0x1A
  | .tagInUse => 0x1B
  | .queueFull => 0x1C
  | .notReady => 0x1D
  | .limit => 0x1E
  | .ancFull => 0x1F

/-- A refusal's reply has an empty payload but for the three statuses of R183. -/
def Reply.refuse (st : Status) : Reply := ⟨st, []⟩

/-- R183. -/
def DetectorState.byte : DetectorState → Byte
  | .noSignal => 0
  | .acquiring => 1
  | .locked => 2
  | .unsupported => 3

/-- R183. -/
def FollowState.byte : FollowState → Byte
  | .freeRun => 0
  | .pulling => 1
  | .following => 2

/-- R50 names OFF, RUNNING, MUTED in this order (R183). -/
def HeadState.byte : HeadState → Byte
  | .off => 0
  | .running => 1
  | .muted => 2

/-- The writer states, 0 OFF to 5 FILLING_SECOND (R183, R38). -/
def Writer.byte : Writer → Byte
  | .off => 0
  | .armed => 1
  | .filling .progressive _ _ => 2
  | .filling .first _ _ => 3
  | .filling .await _ _ => 4
  | .filling .second _ _ => 5

/-- Kinds of an entry: 0 IMAGE, 1 SPRITE (Table 11-8). -/
def EntryKind.byte : EntryKind → Byte
  | .image => 0
  | .sprite => 1

/-- A follow source of none is 255 (R183). -/
def followSourceByte : Option PortId → Byte
  | none => 255
  | some p => byteOf p.val

/-! ### The names of a detector's state and what is present in it (Table 2-1) -/

/-- The detector's state. -/
def Detector.state : Detector → DetectorState
  | .noSignal => .noSignal
  | .acquiring .. => .acquiring
  | .locked _ => .locked
  | .unsupported => .unsupported

/-- The locked measurement, present in LOCKED. -/
def Detector.lockedMeasurement : Detector → Option Measurement
  | .locked m => some m
  | .noSignal => none
  | .acquiring .. => none
  | .unsupported => none

/-- The reference measurement of the history, present in ACQUIRING. -/
def Detector.reference : Detector → Option Measurement
  | .acquiring r _ _ => r
  | .noSignal => none
  | .locked _ => none
  | .unsupported => none

/-- The match count, 0 outside ACQUIRING. -/
def Detector.matchCount : Detector → Nat
  | .acquiring _ m _ => m
  | .noSignal => 0
  | .locked _ => 0
  | .unsupported => 0

/-- The out-of-range count, 0 outside ACQUIRING. -/
def Detector.outOfRange : Detector → Nat
  | .acquiring _ _ o => o
  | .noSignal => 0
  | .locked _ => 0
  | .unsupported => 0

/-- The loss timer runs in ACQUIRING, LOCKED and UNSUPPORTED (R34). -/
def Port.lossTimerRunning (p : Port) : Bool := decide (p.detector.state ≠ .noSignal)

/-! ### Measurements and optional items -/

/-- A measurement: presence, width, lines, period, interlaced, 10 bytes (R184). -/
def measurementBytes : Option Measurement → List Byte
  | none => zeros 10
  | some m => 1 :: leBytes 2 m.width ++ leBytes 2 m.lines ++ leBytes 4 m.period ++ [flagByte m.interlaced]

/-- An optional number of `k` bytes with its presence byte (R183). -/
def optionalBytes (k : Nat) : Option Nat → List Byte
  | none => zeros (k + 1)
  | some n => 1 :: leBytes k n

/-! ### Port reports -/

/-- The six counters, 4 bytes each (R180). -/
def PortCounters.bytes (c : PortCounters) : List Byte :=
  leBytes 4 c.seen.toNat ++ leBytes 4 c.captured.toNat ++ leBytes 4 c.skipped.toNat ++
  leBytes 4 c.aborted.toNat ++ leBytes 4 c.dropped.toNat ++ leBytes 4 c.reclaimed.toNat

/-- The filling slot with the number it is filled under, 10 bytes (R47). -/
def Writer.fillBytes : Writer → List Byte
  | .filling _ i n => 1 :: byteOf i.val :: leBytes 8 n.toNat
  | .off => zeros 10
  | .armed => zeros 10

/-- PORT_STATUS, 79 bytes (R47, Table 11-9). -/
def portReport (p : Port) (readyLength : Nat) : List Byte :=
  [p.detector.state.byte] ++ measurementBytes p.detector.lockedMeasurement ++ measurementBytes p.latest ++
  measurementBytes p.detector.reference ++ [byteOf p.detector.matchCount, byteOf p.detector.outOfRange] ++
  [p.writer.byte] ++ p.writer.fillBytes ++ leBytes 8 p.frameNumber.toNat ++
  [byteOf p.depth, byteOf readyLength, flagByte p.starved] ++ p.counters.bytes

/-! ### Slot manager reports (Table 11-10) -/

/-- The fields of a slot record after its state, 16 bytes; an absent field is 0 (R1). -/
def Geometry.bytes (g : Geometry) : List Byte :=
  leBytes 2 g.width ++ leBytes 2 g.height ++ [flagByte g.interlaced]

/-- The fields of a stored frame: source, frame number, geometry, refs, shown. -/
def StoredFrame.bytes (f : StoredFrame) : List Byte :=
  byteOf f.source.val :: leBytes 8 f.number.toNat ++ f.geometry.bytes ++ [byteOf f.refs, flagByte f.shown]

/-- A slot record, 17 bytes. -/
def Slot.bytes : Slot → List Byte
  | .free => zeros 17
  | .filling p g => [1, byteOf p.val] ++ zeros 8 ++ g.bytes ++ zeros 2
  | .ready f => 2 :: f.bytes
  | .held f => 3 :: f.bytes

/-- A pin entry, 11 bytes. -/
def pinBytes : Option PinEntry → List Byte
  | none => zeros 11
  | some e => [1, byteOf e.slot.val, byteOf e.source.val] ++ leBytes 8 e.number.toNat

/-- A list of slot indices with its length (Table 11-9). -/
def slotListBytes (l : List SlotId) : List Byte := byteOf l.length :: l.map fun i => byteOf i.val

/-- STORE_STATUS, sections 0 and 1: twelve slot records in index order (R24). -/
def storeSlots (s : State) (k : Nat) : List Byte :=
  byteOf k :: (((slotIds.drop (12 * k)).take 12).map fun i => (s.slot i).bytes).flatten

/-- STORE_STATUS, section 2: free list, ready lists with their depths, pins (R24). -/
def storeLists (s : State) : List Byte :=
  2 :: slotListBytes s.pool.freeList ++
  (portIds.map fun p => byteOf (s.port p).depth :: slotListBytes (s.readyList p)).flatten ++
  (pinIds.map fun i => pinBytes (s.pin i)).flatten

/-! ### Head reports -/

/-- A timing record with its presence byte (Table 11-9). -/
def timingBytes : Option Timing → List Byte
  | none => zeros 13
  | some t => 1 :: leBytes 2 t.activeWidth ++ leBytes 2 t.activeLines ++ leBytes 2 t.totalWidth ++
      leBytes 2 t.totalLines ++ leBytes 4 t.pixelClock

/-- The last phase error with its presence byte. -/
def phaseErrorBytes : Option Int → List Byte
  | none => zeros 3
  | some e => 1 :: signedBytes e

/-- HEAD_STATUS, 36 bytes (R60, Table 11-9). -/
def headReport (h : Head) : List Byte :=
  [h.state.byte, flagByte h.presentPending] ++ timingBytes h.timing ++ leBytes 4 h.boundaryCount.toNat ++
  optionalBytes 2 h.frameLines ++ h.background.bytes ++ h.muteColour.bytes ++
  [followSourceByte h.follow.source, byteOf h.follow.window, byteOf h.follow.lead,
    h.follow.state.byte, byteOf h.follow.runCount] ++ phaseErrorBytes h.follow.phaseError

/-- The head's counters of STATS_READ: four counters and twelve repeat counts; the repeat count of an absent
position is 0 (R180). -/
def headCounterBytes (h : Head) : List Byte :=
  leBytes 4 h.boundaries.toNat ++ leBytes 4 h.shortfalls.toNat ++ leBytes 4 h.anc.sent.toNat ++
  leBytes 4 h.anc.defaults.toNat ++
  (positions.map fun p =>
    if h.activeScene[p].isSome then leBytes 4 h.selection[p].repeats.toNat else zeros 4).flatten

/-! ### Scene reports (Table 11-7, note 2) -/

/-- A position of a scene: presence and record, 36 bytes; an absent record is sent as zeros (R183). -/
def recordReport : Option WindowRecord → List Byte
  | none => zeros 36
  | some r => 1 :: r.bytes

/-- The selection state of an active position, 23 bytes. -/
def selectionReport (sel : Selection) : List Byte :=
  (match sel.current with
    | none => zeros 10
    | some c => 1 :: byteOf c.slot.val :: leBytes 8 c.number.toNat) ++
  (match sel.lastShown with
    | none => zeros 9
    | some n => 1 :: leBytes 8 n.toNat) ++
  leBytes 4 sel.repeats.toNat

/-! ### Cursor report (R140, Table 11-9) -/

/-- A library id with its presence byte. -/
def idBytes : Option LibId → List Byte
  | none => zeros 2
  | some i => [1, libIdByte i]

/-- The back buffer's state and id. -/
def BackBuffer.bytes : BackBuffer → List Byte
  | .empty => [0, 0]
  | .loading i => [1, libIdByte i]
  | .loaded sh => [2, libIdByte sh.id]

/-- A head's job (Table 7-2, note 1): its entry in the loader queue, or the current job if it is the
head's. -/
inductive Job where
  | none
  | queued (id : LibId)
  | loading (id : LibId)
  deriving DecidableEq, Repr

/-- The job of head `h`. -/
def Loader.jobOf (l : Loader) (h : HeadId) : Job :=
  match l.job with
  | some (g, i) => if g = h then .loading i else queuedOf
  | none => queuedOf
where
  queuedOf : Job :=
    match l.queue.find? fun e => decide (e.1 = h) with
    | some (_, i) => .queued i
    | none => .none

/-- A job as its code and id. -/
def Job.bytes : Job → List Byte
  | .none => [0, 0]
  | .queued i => [1, libIdByte i]
  | .loading i => [2, libIdByte i]

/-- The pending position with its presence byte. -/
def pendingPositionBytes : Option (Int × Int) → List Byte
  | none => zeros 5
  | some (x, y) => 1 :: signedBytes x ++ signedBytes y

/-- The cursor report of head `h`, 24 bytes. -/
def cursorReport (s : State) (h : HeadId) : List Byte :=
  let c := (s.head h).cursor
  [flagByte c.visible] ++ signedBytes c.x ++ signedBytes c.y ++ pendingPositionBytes c.pendingPosition ++
  c.colourA.bytes ++ c.colourB.bytes ++ idBytes (c.front.map Shape.id) ++ c.back.bytes ++
  (s.loader.jobOf h).bytes ++ idBytes c.waiting

/-! ### Inserter report (R149, Table 11-9) -/

/-- A pair as two 7-bit values. -/
def CharPair.bytes (p : CharPair) : List Byte := [p.first.setWidth 8, p.second.setWidth 8]

/-- The inserter report of one head, 17 bytes. -/
def inserterReport (a : Ancillary) : List Byte :=
  [flagByte a.enable, byteOf a.line] ++ a.defaultPair.bytes ++
  [byteOf a.lowMark, byteOf a.queue.length, byteOf (Config.maxPairs - a.queue.length)] ++
  ((a.queue.head?.map CharPair.bytes).getD (zeros 2)) ++
  leBytes 4 a.sent.toNat ++ leBytes 4 a.defaults.toNat

/-! ### Library reports (R126, R127, Table 11-9) -/

/-- R113: 2 bytes per pixel for an IMAGE, 2 bits per pixel for a SPRITE. -/
def EntryInfo.byteTotal (e : EntryInfo) : Nat :=
  match e.kind with
  | .image => e.width * e.height * 2
  | .sprite => e.width * e.height / 4

/-- R113: the byte total divided by 4,096, rounded up. -/
def EntryInfo.blockCount (e : EntryInfo) : Nat := (e.byteTotal + Config.blockBytes - 1) / Config.blockBytes

/-- What LIB_OPEN fixed of an entry, absent in EMPTY. -/
def Entry.info? : Entry → Option EntryInfo
  | .empty => none
  | .receiving e _ => some e
  | .verifying e => some e
  | .valid e _ => some e

/-- The received count; it equals the byte total from LIB_CLOSE onward (R112). -/
def Entry.received : Entry → Nat
  | .empty => 0
  | .receiving _ n => n
  | .verifying e => e.byteTotal
  | .valid e _ => e.byteTotal

/-- The use count, 0 unless VALID (Table 6-1). -/
def Entry.useCount : Entry → Nat
  | .empty => 0
  | .receiving _ _ => 0
  | .verifying _ => 0
  | .valid _ n => n

/-- The entry's state, in the order EMPTY, RECEIVING, VERIFYING, VALID (R183, R112). -/
def Entry.byte : Entry → Byte
  | .empty => 0
  | .receiving _ _ => 1
  | .verifying _ => 2
  | .valid _ _ => 3

/-- The fields that LIB_OPEN fixed, 17 bytes up to the block count; 0 in EMPTY. -/
def infoBytes : Option EntryInfo → List Byte
  | none => zeros 17
  | some e => e.kind.byte :: leBytes 2 e.width ++ leBytes 2 e.height ++ leBytes 4 e.byteTotal ++
      leBytes 4 e.check.toNat ++ leBytes 2 e.firstBlock ++ leBytes 2 e.blockCount

/-- LIB_LIST, 24 bytes: the place in the verify queue is 0 for the entry the engine works on and for an entry
that is not VERIFYING (R126). -/
def entryReport (s : State) (i : LibId) : List Byte :=
  let e := s.entry i
  e.byte :: infoBytes e.info? ++ leBytes 4 e.received ++
  [byteOf e.useCount, byteOf (if i ∈ s.library.verifyQueue.drop 1 then 1 else 0)]

/-! ### Link counters (R180) -/

/-- The nine counters, 4 bytes each. -/
def LinkCounters.bytes (c : LinkCounters) : List Byte :=
  leBytes 4 c.goodFrames.toNat ++ leBytes 4 c.crcErrors.toNat ++ leBytes 4 c.lengthErrors.toNat ++
  leBytes 4 c.gapErrors.toNat ++ leBytes 4 c.unknownKinds.toNat ++ leBytes 4 c.queueFull.toNat ++
  leBytes 4 c.discarded.toNat ++ leBytes 4 c.replays.toNat ++ leBytes 4 c.strayAcks.toNat

/-! ### Notice payloads (Table 11-8) -/

/-- READY's cause: 0 pin, 1 RESET. -/
def ResetCause.byte : ResetCause → Byte
  | .pin => 0
  | .request => 1

/-- READY's result: 0 ready, 1 FAULTED. -/
def StartUpResult.byte : StartUpResult → Byte
  | .ready => 0
  | .faulted => 1

/-- The fields of a notice after its sequence. -/
def Notice.bytes : Notice → List Byte
  | .ready r c => [r.byte, c.byte]
  | .inputState p st m => [byteOf p.val, st.byte] ++ measurementBytes m
  | .captureStarved p n => byteOf p.val :: leBytes 8 n.toNat
  | .captureResumed p n k => byteOf p.val :: leBytes 8 n.toNat ++ leBytes 4 k.toNat
  | .scenePresented h n => byteOf h.val :: leBytes 4 n.toNat
  | .followState h st p e => [byteOf h.val, st.byte, followSourceByte p] ++ signedBytes e
  | .fetchShortfall h n l => byteOf h.val :: leBytes 4 n.toNat ++ leBytes 2 l
  | .uploadVerified i e => [libIdByte i, e.kind.byte] ++ leBytes 2 e.width ++ leBytes 2 e.height ++
      leBytes 2 e.firstBlock ++ leBytes 2 e.blockCount
  | .uploadFailed i x c => libIdByte i :: leBytes 4 x.toNat ++ leBytes 4 c.toNat
  | .uploadAbandoned i n => libIdByte i :: leBytes 4 n
  | .shapeShown h i n => [byteOf h.val, libIdByte i] ++ leBytes 4 n.toNat
  | .shapeFailed h i => [byteOf h.val, libIdByte i]
  | .ancLow h l n => [byteOf h.val, byteOf l] ++ leBytes 4 n.toNat

/-- The payload of a copy of an entry: its sequence and its fields (R169). -/
def NoticeEntry.payload (e : NoticeEntry) : List Byte := leBytes 2 e.sequence.toNat ++ e.notice.bytes

end Sys2Proof.Machine
end

