-- ==== Sys2Proof/Machine/Link.lean ====
section
/-! DEFINITION. The control link: frames, the receiver, admission, the reply memory and the transmitter
(chapter 9), and the sending and acknowledgement of notices (chapter 10). -/

namespace Sys2Proof.Machine

/-! ### Frames (R152, R153) -/

/-- The kinds of Table 11-4 that the link tests or sends. -/
def kindRequest : Byte := 0x01
/-- NOTICE_ACK. -/
def kindAck : Byte := 0x02
/-- REPLY. -/
def kindReply : Byte := 0x81
/-- REPLAYED_REPLY. -/
def kindReplayed : Byte := 0x82
/-- NOTICE. -/
def kindNotice : Byte := 0x83

/-- A frame the receiver has taken. -/
structure Frame where
  kind : Byte
  tag : Byte
  code : Byte
  status : Byte
  payload : List Byte
  crc : BitVec 16
  deriving DecidableEq, Repr

/-- The length bytes, header and payload of a frame, over which its CRC-16 runs (Table 11-3). -/
def frameBody (kind tag code status : Byte) (payload : List Byte) : List Byte :=
  leBytes 2 (4 + payload.length) ++ [kind, tag, code, status] ++ payload

/-- The bytes of a frame after its start byte. -/
def frameTail (kind tag code status : Byte) (payload : List Byte) : List Byte :=
  frameBody kind tag code status payload ++
    leBytes 2 (crc16 (frameBody kind tag code status payload)).toNat

/-- A frame on the line (R152). -/
def frameBytes (kind tag code status : Byte) (payload : List Byte) : List Byte :=
  0xA5 :: frameTail kind tag code status payload

/-- R151: a byte as a serial character of 10 bit times: one start bit, the 8 data bits, least significant first,
and one stop bit. The levels of the start and the stop bit are log entry 25. -/
def charBits (b : Byte) : List Bool := [false] ++ (List.range 8).map (fun k => b.getLsbD k) ++ [true]

/-- The bits on the line of the frame being sent. -/
def Sending.lineBits (x : Sending) : List Bool := (x.bytes.map charBits).flatten

/-! ### The receiver (R154, R155) -/

/-- What the bytes held since a start byte amount to. -/
inductive Parsed where
  /-- fewer than two length bytes: LENGTH -/
  | inLength
  /-- a length from 4 to 260, its bytes not all there: BODY -/
  | inBody
  /-- the CRC bytes not both there: CHECK -/
  | inCheck
  /-- a length outside 4 to 260 -/
  | lengthError
  /-- both CRC bytes there and the CRC-16 bad -/
  | crcError
  /-- a good frame -/
  | good (frame : Frame)
  deriving DecidableEq, Repr

/-- The length field of the bytes held after a start byte. -/
def heldLength (bs : List Byte) : Nat := u16At bs 0

/-- The frame that complete bytes spell (Table 11-3; the start byte, at offset 0, is not held). -/
def frameOf (bs : List Byte) : Frame where
  kind := byteAt bs 2
  tag := byteAt bs 3
  code := byteAt bs 4
  status := byteAt bs 5
  payload := (bs.drop 6).take (heldLength bs - 4)
  crc := BitVec.ofNat 16 (u16At bs (heldLength bs + 2))

/-- Table 9-3: what the bytes taken since a start byte amount to. -/
def parseFrame (bs : List Byte) : Parsed :=
  if bs.length < 2 then .inLength
  else if heldLength bs < 4 ∨ 260 < heldLength bs then .lengthError
  else if bs.length < 2 + heldLength bs then .inBody
  else if bs.length < 4 + heldLength bs then .inCheck
  else if crc16 (bs.take (2 + heldLength bs)) = (frameOf bs).crc then .good (frameOf bs)
  else .crcError

/-- The states of Table 9-3. -/
inductive ReceiverState where
  | hunt
  | length
  | body
  | check
  deriving DecidableEq, Repr

/-- The receiver's state. -/
def Receiver.state : Receiver → ReceiverState
  | .hunt => .hunt
  | .inFrame bs =>
    match parseFrame bs with
    | .inLength => .length
    | .inBody => .body
    | .inCheck => .check
    | .lengthError => .hunt
    | .crcError => .hunt
    | .good _ => .hunt

/-- The rescan bytes (Table 9-1). -/
def Receiver.rescan : Receiver → List Byte
  | .hunt => []
  | .inFrame bs => bs

/-- The gap timer runs in LENGTH, BODY and CHECK (R155). -/
def Receiver.gapTimerRunning : Receiver → Bool
  | .hunt => false
  | .inFrame _ => true

/-- What one incoming byte does (R154, R155). -/
inductive ByteEvent where
  /-- it neither completes nor breaks a frame: the receiver goes on -/
  | goesOn (receiver : Receiver)
  /-- it completes a bad length; the bytes taken after the false start byte -/
  | lengthError (bytes : List Byte)
  /-- it completes a frame with a bad CRC-16; the bytes taken after the false start byte -/
  | crcError (bytes : List Byte)
  /-- it completes a good frame -/
  | good (frame : Frame)
  deriving DecidableEq, Repr

/-- One byte taken by the receiver (R154). -/
def byteEvent (r : Receiver) (b : Byte) : ByteEvent :=
  match r with
  | .hunt => .goesOn (if b = 0xA5 then .inFrame [] else .hunt)
  | .inFrame held =>
    match parseFrame (held ++ [b]) with
    | .inLength => .goesOn (.inFrame (held ++ [b]))
    | .inBody => .goesOn (.inFrame (held ++ [b]))
    | .inCheck => .goesOn (.inFrame (held ++ [b]))
    | .lengthError => .lengthError (held ++ [b])
    | .crcError => .crcError (held ++ [b])
    | .good f => .good f

/-- Put the receiver in a state. -/
def State.setReceiver (s : State) (r : Receiver) : State := s.modLink fun l => { l with receiver := r }

/-! ### Outstanding requests and immediate answers (R157, R158) -/

/-- Whether a reply line entry was posted by the processor. -/
def ReplyEntry.isPosted (e : ReplyEntry) : Bool :=
  match e.origin with
  | .posted _ => true
  | .reset => true
  | .immediate => false
  | .replayed => false

/-- The reply line together with the reply being sent: the entries not yet transmitted in full. -/
def Link.unsentReplies (l : Link) : List ReplyEntry :=
  match l.transmitter with
  | some ⟨.reply e, _⟩ => e :: l.replyLine
  | some ⟨.notice _, _⟩ => l.replyLine
  | none => l.replyLine

/-- The tags of the outstanding requests: those in the request queue and those whose replies are not yet
transmitted in full (R157). -/
def Link.outstanding (l : Link) : List Byte :=
  ((l.unsentReplies.filter ReplyEntry.isPosted).map ReplyEntry.tag) ++ l.requestQueue.map Request.tag

/-- The pending immediate answers: those not yet transmitted in full (R158). -/
def Link.pendingAnswers (l : Link) : Nat := (l.unsentReplies.filter fun e => !e.isPosted).length

/-- R158: an answer the link forms itself joins the reply line, with what its check counts; when four are
already pending the request is discarded unanswered. -/
def State.answerNow (s : State) (e : ReplyEntry) (count : LinkCounters → LinkCounters) : State :=
  if s.link.pendingAnswers < Config.maxImmediate then
    (s.modLink fun l => { l with replyLine := l.replyLine ++ [e] }).countLink count
  else s.countLink fun c => { c with discarded := c.discarded + 1 }

/-- An immediate answer: the request's tag and code, a status, no payload (R158). -/
def immediate (f : Frame) (st : Status) : ReplyEntry := ⟨.immediate, f.tag, f.code, .refuse st⟩

/-- The reply memory entry that answers a repeat: same tag and same request CRC (R157, check 3). -/
def Link.remembered (l : Link) (f : Frame) : Option MemoryEntry :=
  l.memory.find? fun m => decide (m.tag = f.tag) && decide (m.crc = f.crc)

/-- R157: the checks of a REQUEST, in order; while STARTING every one is answered NOT_READY (R163). -/
def State.admission (s : State) (f : Frame) : State :=
  if s.device.phase = .starting then s.answerNow (immediate f .notReady) id
  else if f.status ≠ 0 then s.answerNow (immediate f .badValue) id
  else if f.tag ∈ s.link.outstanding then s.answerNow (immediate f .tagInUse) id
  else match s.link.remembered f with
    | some m =>
      s.answerNow ⟨.replayed, m.tag, m.code, m.reply⟩ fun c => { c with replays := c.replays + 1 }
    | none =>
      if Config.maxOutstanding ≤ s.link.outstanding.length then
        s.answerNow (immediate f .queueFull) fun c => { c with queueFull := c.queueFull + 1 }
      else
        s.modLink fun l =>
          { l with requestQueue := l.requestQueue ++ [⟨f.tag, f.code, f.payload, f.crc⟩] }

/-! ### Acknowledgement (R172) -/

/-- Whether an entry is SENT. -/
def NoticeEntry.isSent (e : NoticeEntry) : Bool := decide (e.stage = .sent)

/-- Whether a sequence number is that of a SENT entry held in the queue. -/
def NoticeQueue.names (q : NoticeQueue) (n : BitVec 16) : Bool :=
  q.entries.any fun e => e.isSent && decide (e.sequence = n)

/-- The entries behind the one with a sequence number. -/
def dropThrough (n : BitVec 16) : List NoticeEntry → List NoticeEntry
  | [] => []
  | e :: rest => if e.sequence = n then rest else dropThrough n rest

/-- R172: every entry up to and including the named one is retired; the resend timer restarts while a SENT
entry remains and stops when none does. -/
def NoticeQueue.retire (n : BitVec 16) (q : NoticeQueue) : NoticeQueue :=
  { q with
    entries := dropThrough n q.entries
    resendTimer := (dropThrough n q.entries).any NoticeEntry.isSent }

/-- Count a stray acknowledgement (R156, R172). -/
def State.strayAck (s : State) : State := s.countLink fun c => { c with strayAcks := c.strayAcks + 1 }

/-- R156, R172: an acknowledgement. It is well formed when its status is 0 and its payload is 2 bytes. -/
def State.acknowledge (s : State) (f : Frame) : State :=
  if f.status = 0 ∧ f.payload.length = 2 then
    if s.notices.names (BitVec.ofNat 16 (u16At f.payload 0)) then
      { s with notices := s.notices.retire (BitVec.ofNat 16 (u16At f.payload 0)) }
    else s.strayAck
  else s.strayAck

/-! ### Dispatch of a good frame (R156) -/

/-- R156: a good frame by its kind. -/
def State.takeFrame (s : State) (f : Frame) : State :=
  if f.kind = kindRequest then
    (s.countLink fun c => { c with goodFrames := c.goodFrames + 1 }).admission f
  else if f.kind = kindAck then
    (s.countLink fun c => { c with goodFrames := c.goodFrames + 1 }).acknowledge f
  else s.countLink fun c => { c with unknownKinds := c.unknownKinds + 1 }

/-- Count a length error. -/
def State.countLengthError (s : State) : State :=
  s.countLink fun c => { c with lengthErrors := c.lengthErrors + 1 }

/-- Count a CRC error. -/
def State.countCrcError (s : State) : State :=
  s.countLink fun c => { c with crcErrors := c.crcErrors + 1 }

/-- R155: after an error the receiver, in HUNT, examines again every byte it took after the false start
byte, before it takes any new byte; a frame found among them is taken, and an error among them is counted
and re-examined in its turn. `skip` counts the bytes of a frame already taken. When the bytes end inside
a frame, the receiver stays in it. DESIGN CHOICE, log entry 9: the re-examination is part of the step. -/
def State.examineAgain : Nat → List Byte → State → State
  | _, [], s => s
  | skip + 1, _ :: bs, s => State.examineAgain skip bs s
  | 0, b :: bs, s =>
    if b = 0xA5 then
      match parseFrame bs with
      | .inLength => s.setReceiver (.inFrame bs)
      | .inBody => s.setReceiver (.inFrame bs)
      | .inCheck => s.setReceiver (.inFrame bs)
      | .lengthError => State.examineAgain 0 bs s.countLengthError
      | .crcError => State.examineAgain 0 bs s.countCrcError
      | .good f => State.examineAgain (4 + heldLength bs) bs (s.takeFrame f)
    else State.examineAgain 0 bs s

/-! ### The receiver's six commands and the gap timer -/

/-- Bytes on the line are taken unless the reset pin is asserted (R176). -/
def State.onByte (s : State) (b : Byte) (f : ByteEvent → State) : State :=
  if s.isHeld then s else f (byteEvent s.link.receiver b)

/-- A good frame of the kinds that `mine` accepts: the receiver returns to HUNT, its rescan bytes discarded
(R154), and the frame is handed on (R156). Any other byte is not this event (log entry 2). -/
def State.onGoodFrame (s : State) (b : Byte) (mine : Byte → Bool) : State :=
  s.onByte b fun e =>
    match e with
    | .good f => if mine f.kind then (s.setReceiver .hunt).takeFrame f else s
    | .goesOn _ => s
    | .lengthError _ => s
    | .crcError _ => s

/-- REQUEST (R157). -/
def execRequest (byte : Byte) (s : State) : Host.Outcome State Fault Refusal :=
  .next (s.onGoodFrame byte fun k => decide (k = kindRequest))

/-- NOTICE_ACK (R156, R172). -/
def execNoticeAck (byte : Byte) (s : State) : Host.Outcome State Fault Refusal :=
  .next (s.onGoodFrame byte fun k => decide (k = kindAck))

/-- UNKNOWN_KIND_FRAME (R156). -/
def execUnknownKindFrame (byte : Byte) (s : State) : Host.Outcome State Fault Refusal :=
  .next (s.onGoodFrame byte fun k => decide (k ≠ kindRequest) && decide (k ≠ kindAck))

/-- LENGTH_ERROR (R155). -/
def execLengthError (byte : Byte) (s : State) : Host.Outcome State Fault Refusal :=
  .next <| s.onByte byte fun e =>
    match e with
    | .lengthError bs => State.examineAgain 0 bs (s.setReceiver .hunt).countLengthError
    | .goesOn _ => s
    | .crcError _ => s
    | .good _ => s

/-- CRC_ERROR (R155). -/
def execCrcError (byte : Byte) (s : State) : Host.Outcome State Fault Refusal :=
  .next <| s.onByte byte fun e =>
    match e with
    | .crcError bs => State.examineAgain 0 bs (s.setReceiver .hunt).countCrcError
    | .goesOn _ => s
    | .lengthError _ => s
    | .good _ => s

/-- RECEIVED_BYTE (R154): a byte that does not complete or break a frame. -/
def execReceivedByte (byte : Byte) (s : State) : Host.Outcome State Fault Refusal :=
  .next <| s.onByte byte fun e =>
    match e with
    | .goesOn r => s.setReceiver r
    | .lengthError _ => s
    | .crcError _ => s
    | .good _ => s

/-- GAP_ERROR (R155): the frame and its rescan bytes are discarded. -/
def execGapError (s : State) : Host.Outcome State Fault Refusal :=
  .next <|
    if s.isHeld then s
    else if s.link.receiver.gapTimerRunning then
      (s.setReceiver .hunt).countLink fun c => { c with gapErrors := c.gapErrors + 1 }
    else s

/-! ### The transmitter (R162, R169 to R171) -/

/-- The frame of a reply line entry (R158, R159): a replayed reply has the kind REPLAYED_REPLY. -/
def ReplyEntry.frame (e : ReplyEntry) : List Byte :=
  frameBytes (if e.origin = .replayed then kindReplayed else kindReply) e.tag e.code e.reply.status.byte
    e.reply.payload

/-- A copy of a notice entry (R169): tag 0, the kind's code, the carried lost count. -/
def NoticeEntry.frame (e : NoticeEntry) : List Byte :=
  frameBytes kindNotice 0 e.notice.code (byteOf e.lost) e.payload

/-- R169: the oldest SENT entry with resend due, or else the oldest NEW entry. -/
def NoticeQueue.offered (q : NoticeQueue) : Option NoticeEntry :=
  match q.entries.find? fun e => e.isSent && e.resendDue with
  | some e => some e
  | none => q.entries.find? fun e => decide (e.stage = .new)

/-- R169: taking a NEW entry makes it FIRST_SEND; taking a SENT entry sets its resend due flag to no. -/
def NoticeEntry.begun (e : NoticeEntry) : NoticeEntry :=
  match e.stage with
  | .new => { e with stage := .firstSend }
  | .firstSend => e
  | .sent => { e with resendDue := false }

/-- Update the entry that has a sequence number. -/
def NoticeQueue.modEntry (q : NoticeQueue) (n : BitVec 16) (f : NoticeEntry → NoticeEntry) : NoticeQueue :=
  { q with entries := q.entries.map fun e => if e.sequence = n then f e else e }

/-- R162: the transmitter, idle, begins the frame at the head of the reply line, or else the notice that the
queue offers. -/
def State.transmitNext (s : State) : State :=
  match s.link.transmitter with
  | some _ => s
  | none =>
    match s.link.replyLine with
    | e :: rest =>
      s.modLink fun l => { l with replyLine := rest, transmitter := some ⟨.reply e, e.frame⟩ }
    | [] =>
      match s.notices.offered with
      | some e =>
        { s.modLink fun l => { l with transmitter := some ⟨.notice e.sequence, e.frame⟩ } with
          notices := s.notices.modEntry e.sequence NoticeEntry.begun }
      | none => s

/-- TRANSMIT_BEGIN (R162). -/
def execTransmitBegin (s : State) : Host.Outcome State Fault Refusal :=
  .next (if s.isHeld then s else s.transmitNext)

/-- R160: a transmitted reply is stored; an entry of the same tag is removed, or else, of 8, the oldest. -/
def Link.store (l : Link) (m : MemoryEntry) : List MemoryEntry :=
  if l.memory.any fun e => decide (e.tag = m.tag) then
    (l.memory.filter fun e => !decide (e.tag = m.tag)) ++ [m]
  else if Config.maxReplies ≤ l.memory.length then l.memory.drop 1 ++ [m]
  else l.memory ++ [m]

/-- R170: a copy transmitted in full. A FIRST_SEND entry becomes SENT, and a stopped resend timer starts; when
the entry was retired meanwhile, nothing changes. (No copy of a NEW entry has been begun, so a NEW entry with
the number is another entry.) -/
def NoticeQueue.copySent (q : NoticeQueue) (n : BitVec 16) : NoticeQueue :=
  if q.entries.any fun e => decide (e.sequence = n) && decide (e.stage ≠ .new) then
    { q.modEntry n fun e => if e.stage = .firstSend then { e with stage := .sent } else e with
      resendTimer := true }
  else q

/-- TRANSMIT_COMPLETE (R162): the end of a frame, reported to its owner. The end of a RESET reply is a device
reset, which samples the straps (R176). -/
def execTransmitComplete (straps : Straps) (s : State) : Host.Outcome State Fault Refusal :=
  .next <|
    match s.link.transmitter with
    | none => s
    | some ⟨.notice n, _⟩ =>
      { s.modLink fun l => { l with transmitter := none } with notices := s.notices.copySent n }
    | some ⟨.reply e, _⟩ =>
      match e.origin with
      | .posted crc =>
        s.modLink fun l =>
          { l with transmitter := none, memory := l.store ⟨e.tag, e.code, crc, e.reply⟩ }
      | .reset => s.deviceReset .starting .request straps
      | .immediate => s.modLink fun l => { l with transmitter := none }
      | .replayed => s.modLink fun l => { l with transmitter := none }

/-- The sequence of the notice whose copy is on the line. -/
def Link.noticeOnLine (l : Link) : Option (BitVec 16) :=
  match l.transmitter with
  | some ⟨.notice n, _⟩ => some n
  | some ⟨.reply _, _⟩ => none
  | none => none

/-- RESEND_TIMER_EXPIRY (R171): every SENT entry whose copy is not on the line becomes due, and the timer
restarts. -/
def execResendTimerExpiry (s : State) : Host.Outcome State Fault Refusal :=
  .next <|
    if s.notices.resendTimer then
      { s with
        notices :=
          { s.notices with
            entries := s.notices.entries.map fun e =>
              if e.isSent ∧ s.link.noticeOnLine ≠ some e.sequence then { e with resendDue := true } else e } }
    else s

end Sys2Proof.Machine
end

