-- ==== Sys2Proof/Machine/Processor.lean ====
section
/-! DEFINITION. The command processor (R161): the command code table, the checks it makes itself, and the one
operation by which every request is taken, executed and answered. -/

namespace Sys2Proof.Machine

/-- The payload lengths that Table 11-5 allows for a code. -/
inductive LengthRule where
  | exactly (n : Nat)
  | between (low high : Nat)
  | oddBetween (low high : Nat)
  deriving DecidableEq, Repr

/-- Whether a payload length is allowed. -/
def LengthRule.allows (r : LengthRule) (n : Nat) : Bool :=
  match r with
  | .exactly k => decide (n = k)
  | .between low high => decide (low ≤ n) && decide (n ≤ high)
  | .oddBetween low high => decide (low ≤ n) && decide (n ≤ high) && decide (n % 2 = 1)

/-- Table 11-5: the device requests. -/
def deviceCommands : List (Byte × LengthRule) :=
  [(0x01, .exactly 0), (0x02, .exactly 0), (0x03, .exactly 1), (0x04, .exactly 1), (0x05, .between 0 256)]

/-- Table 11-5: the port and pin requests and STORE_STATUS. -/
def captureCommands : List (Byte × LengthRule) :=
  [(0x10, .exactly 2), (0x11, .exactly 2), (0x12, .exactly 1), (0x13, .exactly 1), (0x14, .exactly 1),
    (0x18, .exactly 2), (0x19, .exactly 1), (0x1A, .exactly 1)]

/-- Table 11-5: the scene requests. -/
def sceneCommands : List (Byte × LengthRule) :=
  [(0x20, .exactly 37), (0x21, .exactly 2), (0x22, .exactly 2), (0x23, .exactly 3), (0x24, .exactly 1)]

/-- Table 11-5: the head requests. -/
def headCommands : List (Byte × LengthRule) :=
  [(0x30, .exactly 13), (0x31, .exactly 1), (0x32, .exactly 1), (0x33, .exactly 2), (0x34, .exactly 7),
    (0x35, .exactly 4), (0x36, .exactly 1)]

/-- Table 11-5: the library requests. -/
def libraryCommands : List (Byte × LengthRule) :=
  [(0x40, .exactly 10), (0x41, .between 6 253), (0x42, .exactly 1), (0x43, .exactly 1), (0x44, .exactly 1),
    (0x45, .exactly 0)]

/-- Table 11-5: the cursor and inserter requests. -/
def overlayCommands : List (Byte × LengthRule) :=
  [(0x50, .exactly 2), (0x51, .exactly 5), (0x52, .exactly 2), (0x53, .exactly 7), (0x58, .exactly 6),
    (0x59, .oddBetween 3 33), (0x5A, .exactly 1), (0x5B, .exactly 1)]

/-- Table 11-5: command codes and payload lengths. -/
def commandTable : List (Byte × LengthRule) :=
  List.flatten [deviceCommands, captureCommands, sceneCommands, headCommands, libraryCommands, overlayCommands]

/-- The length rule of a code, none when the code is not in the table. -/
def commandRule (code : Byte) : Option LengthRule := commandTable.lookup code

/-- The codes that FAULTED does not refuse: INFO, RESET, STATS_READ and ECHO (R178). -/
def servedInFaulted (code : Byte) : Bool :=
  decide (code = 0x02) || decide (code = 0x01) || decide (code = 0x03) || decide (code = 0x05)

/-- Whether the part is in FAULTED. -/
def State.isFaulted (s : State) : Bool :=
  match s.device.phase with
  | .faulted _ => true
  | .held => false
  | .starting => false
  | .ready => false

/-- The processor takes requests in the ready state and in FAULTED, until a RESET stops it (R161, R176). -/
def State.processorRuns (s : State) : Bool := (s.isReady || s.isFaulted) && !s.link.stopped

/-- Post the reply of a request at the tail of the reply line (R161). The reply of a RESET that stopped the
processor is the one whose end of transmission resets the part (R176). -/
def State.post (s : State) (r : Request) (rep : Reply) : State :=
  s.modLink fun l =>
    { l with
      replyLine := l.replyLine ++ [⟨if l.stopped then .reset else .posted r.crc, r.tag, r.code, rep⟩] }

/-- What the owning block does with a request that has passed the processor's checks: it reads the payload
and answers with a reply and a state. -/
abbrev Body := List Byte → State → Reply × State

/-- R161: the checks and the execution of a request that the processor has taken. -/
def State.execute (s : State) (r : Request) (body : Body) : Reply × State :=
  match commandRule r.code with
  | none => (.refuse .unknownCommand, s)
  | some rule =>
    if rule.allows r.payload.length then
      if s.isFaulted && !servedInFaulted r.code then (.refuse .wrongState, s) else body r.payload s
    else (.refuse .badLength, s)

/-- The request queue holds only `rest`: its oldest request has been taken. -/
def State.withRequests (s : State) (rest : List Request) : State :=
  s.modLink fun l => { l with requestQueue := rest }

/-- R161: the processor takes the oldest admitted request, when `mine` says that it is this command's, and
posts its reply. Otherwise this event is not taken (log entry 2). -/
def State.takeRequest (s : State) (mine : Request → Bool) (body : Body) : State :=
  match s.link.requestQueue with
  | [] => s
  | r :: rest =>
    if s.processorRuns && mine r then
      let out := (s.withRequests rest).execute r body
      out.2.post r out.1
    else s

/-- Take the oldest request when it has this code. -/
def State.runRequest (s : State) (code : Byte) (body : Body) : Host.Outcome State Fault Refusal :=
  .next (s.takeRequest (fun r => decide (r.code = code)) body)

/-- UNKNOWN_COMMAND (R161): the oldest request's code is not in the table. -/
def execUnknownCommand (s : State) : Host.Outcome State Fault Refusal :=
  .next (s.takeRequest (fun r => (commandRule r.code).isNone) fun _ t => (.refuse .unknownCommand, t))

/-- A reply OK with a payload. -/
def Reply.ok (payload : List Byte) : Reply := ⟨.ok, payload⟩

/-- Refuse a request and change nothing. -/
def refuse (st : Status) (s : State) : Reply × State := (.refuse st, s)

/-- Answer OK with an empty payload. -/
def done (s : State) : Reply × State := (.ok [], s)

/-- A request whose first byte names one of `n` things: any other value is refused with BAD_VALUE. -/
def withIndex (n : Nat) (bs : List Byte) (s : State) (f : Fin n → Reply × State) : Reply × State :=
  match finOf n (byteAt bs 0) with
  | some i => f i
  | none => refuse .badValue s

/-- A request whose first byte is a library id (R112). -/
def withLibId (bs : List Byte) (s : State) (f : LibId → Reply × State) : Reply × State :=
  match libIdOf (byteAt bs 0) with
  | some i => f i
  | none => refuse .badValue s

end Sys2Proof.Machine
end

