-- ==== Sys2Proof/Machine/Ancillary.lean ====
section
/-! DEFINITION. The ancillary inserter (chapter 8). -/

namespace Sys2Proof.Machine

/-- Update the inserter of head `h`. -/
def State.modAnc (s : State) (h : HeadId) (f : Ancillary → Ancillary) : State :=
  s.modHead h fun hd => { hd with anc := f hd.anc }

/-- An inserter request that is not refused answers OK with the inserter report, taken after its own change
(R149). -/
def withInserterReport (h : HeadId) (s : State) : Reply × State := (.ok (inserterReport (s.head h).anc), s)

/-- R142: ANC_CONFIG(head, enable, line, default pair, low mark). -/
def ancConfigBody : Body := fun bs s =>
  withIndex 2 bs s fun h =>
    match flagOf (byteAt bs 1), charOf (byteAt bs 3), charOf (byteAt bs 4) with
    | some enable, some first, some second =>
      if 1 ≤ (byteAt bs 2).toNat ∧ (byteAt bs 2).toNat ≤ 8 ∧ (byteAt bs 5).toNat ≤ 31 then
        withInserterReport h (s.modAnc h fun a =>
          { a with
            enable := enable
            line := (byteAt bs 2).toNat
            defaultPair := ⟨first, second⟩
            lowMark := (byteAt bs 5).toNat })
      else refuse .badValue s
    | _, _, _ => refuse .badValue s

/-- ANC_CONFIG (R142). -/
def execAncConfig (s : State) : Host.Outcome State Fault Refusal := s.runRequest 0x58 ancConfigBody

/-- R144: ANC_PUSH(head, pairs): all of the pairs join the tail, or none. -/
def ancPushBody : Body := fun bs s =>
  withIndex 2 bs s fun h =>
    match pairsOf (bs.drop 1) with
    | none => refuse .badValue s
    | some pairs =>
      if Config.maxPairs < (s.head h).anc.queue.length + pairs.length then refuse .ancFull s
      else withInserterReport h (s.modAnc h fun a => { a with queue := a.queue ++ pairs })

/-- ANC_PUSH (R144). -/
def execAncPush (s : State) : Host.Outcome State Fault Refusal := s.runRequest 0x59 ancPushBody

/-- R148: ANC_FLUSH(head). -/
def ancFlushBody : Body := fun bs s =>
  withIndex 2 bs s fun h => withInserterReport h (s.modAnc h fun a => { a with queue := [] })

/-- ANC_FLUSH (R148). -/
def execAncFlush (s : State) : Host.Outcome State Fault Refusal := s.runRequest 0x5A ancFlushBody

/-- R149: ANC_STATUS(head). -/
def ancStatusBody : Body := fun bs s => withIndex 2 bs s fun h => withInserterReport h s

/-- ANC_STATUS (R149). -/
def execAncStatus (s : State) : Host.Outcome State Fault Refusal := s.runRequest 0x5B ancStatusBody

/-- R145: what a boundary does to an inserter. -/
def Ancillary.atBoundary (a : Ancillary) : Ancillary :=
  if a.enable then
    match a.queue with
    | p :: rest => { a with queue := rest, contents := some (a.line, p), sent := a.sent + 1 }
    | [] => { a with contents := some (a.line, a.defaultPair), defaults := a.defaults + 1 }
  else { a with contents := none }

/-- R146: a boundary removes a pair and the level after it equals the low mark. -/
def Ancillary.reachesMark (a : Ancillary) : Bool :=
  a.enable && !a.queue.isEmpty && decide (a.queue.length - 1 = a.lowMark)

/-- R145, R146: the inserter's work at a boundary. -/
def State.ancBoundary (s : State) (h : HeadId) : State :=
  let t := s.modAnc h Ancillary.atBoundary
  if (s.head h).anc.reachesMark then
    t.raise (.ancLow h ((s.head h).anc.queue.length - 1) (s.head h).boundaryCount)
  else t

/-- R148: HEAD_OFF empties the queue and leaves no line contents. -/
def State.stopAnc (s : State) (h : HeadId) : State :=
  s.modAnc h fun a => { a with queue := [], contents := none }

end Sys2Proof.Machine
end

