-- ==== Sys2Proof/Machine/Library.lean ====
section
/-! DEFINITION. The image library: the block map, uploads, verification, deletion, use counts and enquiry
(chapter 6). -/

namespace Sys2Proof.Machine

/-! ### The block map (R115, R116) -/

/-- An extent: first block and block count. -/
structure Extent where
  first : Nat
  count : Nat
  deriving DecidableEq, Repr

/-- The block after an extent. -/
def Extent.stop (e : Extent) : Nat := e.first + e.count

/-- The extent an entry owns; an EMPTY entry owns none (R112). -/
def Entry.extent? (e : Entry) : Option Extent := e.info?.map fun i => ⟨i.firstBlock, i.blockCount⟩

/-- Put an extent into a list in rising order of first block. -/
def insertExtent (e : Extent) : List Extent → List Extent
  | [] => [e]
  | f :: rest => if e.first ≤ f.first then e :: f :: rest else f :: insertExtent e rest

/-- The extents owned, in rising order of first block. -/
def Library.extents (l : Library) : List Extent :=
  (l.entries.toList.filterMap Entry.extent?).foldr insertExtent []

/-- The free runs between block `b` and the end of the library, given the extents from there on in rising
order: the maximal sequences of consecutive free blocks (R115). -/
def runsFrom (b : Nat) : List Extent → List Extent
  | [] => if b < Config.libraryBlocks then [⟨b, Config.libraryBlocks - b⟩] else []
  | e :: rest =>
    if b < e.first then ⟨b, e.first - b⟩ :: runsFrom (max b e.stop) rest else runsFrom (max b e.stop) rest

/-- The free runs, lowest first. -/
def Library.freeRuns (l : Library) : List Extent := runsFrom 0 l.extents

/-- R116, first fit: the lowest run that is long enough gives the first block. -/
def Library.firstFit (l : Library) (count : Nat) : Option Nat :=
  (l.freeRuns.find? fun r => decide (count ≤ r.count)).map Extent.first

/-- The free block count (R115, R127). -/
def Library.freeCount (l : Library) : Nat := (l.freeRuns.map Extent.count).sum

/-- The length of the largest free run, 0 when no block is free (R127). -/
def Library.largestRun (l : Library) : Nat := (l.freeRuns.map Extent.count).foldr max 0

/-- The first block of the lowest free run of the largest length, 0 when no block is free (R127). -/
def Library.largestRunFirst (l : Library) : Nat := (l.firstFit l.largestRun).getD 0

/-! ### Use counts (R124) -/

/-- One more use of an entry. It is VALID when a use is taken (R124). -/
def State.addUse (s : State) (i : LibId) : State :=
  match s.entry i with
  | .valid e n => s.setEntry i (.valid e (n + 1))
  | .empty => s
  | .receiving _ _ => s
  | .verifying _ => s

/-- One use fewer of an entry. -/
def State.dropUse (s : State) (i : LibId) : State :=
  match s.entry i with
  | .valid e n => s.setEntry i (.valid e (n - 1))
  | .empty => s
  | .receiving _ _ => s
  | .verifying _ => s

/-- One more use of the entry that something names, if it names one. -/
def State.addUseOf (s : State) (i : Option LibId) : State :=
  match i with
  | some i => s.addUse i
  | none => s

/-- One use fewer of the entry that something named, if it named one. -/
def State.dropUseOf (s : State) (i : Option LibId) : State :=
  match i with
  | some i => s.dropUse i
  | none => s

/-- The VALID entry of a kind, if it is one (R75, R131). -/
def Entry.validOf (e : Entry) (k : EntryKind) : Option EntryInfo :=
  match e with
  | .valid i _ => if i.kind = k then some i else none
  | .empty => none
  | .receiving _ _ => none
  | .verifying _ => none

/-! ### Uploading (R117 to R120) -/

/-- Table 6-3. -/
def sizeInRange (k : EntryKind) (width height : Nat) : Bool :=
  match k with
  | .image => decide (16 ≤ width) && decide (width ≤ 1280) && decide (width % 2 = 0) &&
      decide (16 ≤ height) && decide (height ≤ 720)
  | .sprite => decide (8 ≤ width) && decide (width ≤ 64) && decide (width % 4 = 0) &&
      decide (8 ≤ height) && decide (height ≤ 64)

/-- The kind field: 0 IMAGE, 1 SPRITE. -/
def kindOf (b : Byte) : Option EntryKind :=
  if b = 0 then some .image else if b = 1 then some .sprite else none

/-- Whether an entry counts against the limit of uploads: RECEIVING or VERIFYING (R117). -/
def Entry.inProgress : Entry → Bool
  | .empty => false
  | .receiving _ _ => true
  | .verifying _ => true
  | .valid _ _ => false

/-- The uploads in progress (R117). -/
def Library.uploads (l : Library) : Nat := (l.entries.toList.filter Entry.inProgress).length

/-- R117, checks 2 to 4, and the upload they let begin. `e` has no extent yet. -/
def State.openEntry (s : State) (i : LibId) (e : EntryInfo) : Reply × State :=
  match s.entry i with
  | .empty =>
    if Config.maxUploads ≤ s.library.uploads then refuse .limit s
    else match s.library.firstFit e.blockCount with
      | none => refuse .noSpace s
      | some b =>
        (.ok (leBytes 2 b ++ leBytes 2 e.blockCount), s.setEntry i (.receiving { e with firstBlock := b } 0))
  | .receiving _ _ => refuse .wrongState s
  | .verifying _ => refuse .wrongState s
  | .valid _ _ => refuse .wrongState s

/-- R117: LIB_OPEN(id, kind, width, height, check). -/
def libOpenBody : Body := fun bs s =>
  withLibId bs s fun i =>
    match kindOf (byteAt bs 1) with
    | none => refuse .badValue s
    | some k =>
      if sizeInRange k (u16At bs 2) (u16At bs 4) then
        s.openEntry i ⟨k, u16At bs 2, u16At bs 4, BitVec.ofNat 32 (u32At bs 6), 0⟩
      else refuse .badValue s

/-- LIB_OPEN (R117). -/
def execLibOpen (s : State) : Host.Outcome State Fault Refusal := s.runRequest 0x40 libOpenBody

/-- The place in DRAM of byte offset `k` of an entry (R114). -/
def entryAddress (e : EntryInfo) (k : Nat) : DramAddress :=
  BitVec.ofNat 26 (Config.libraryBase + e.firstBlock * Config.blockBytes + k)

/-- The stored bytes of an entry, offsets 0 to byte total - 1. -/
def State.entryBytes (s : State) (e : EntryInfo) : List Byte :=
  s.readBytes (Config.libraryBase + e.firstBlock * Config.blockBytes) e.byteTotal

/-- R118: LIB_DATA(id, offset, data). -/
def libDataBody : Body := fun bs s =>
  withLibId bs s fun i =>
    match s.entry i with
    | .receiving e received =>
      if u32At bs 1 ≠ received then (⟨.outOfOrder, leBytes 4 received⟩, s)
      else if e.byteTotal < received + (bs.drop 5).length then refuse .badLength s
      else
        (.ok (leBytes 4 (received + (bs.drop 5).length)),
          (s.writeBytes (entryAddress e) received (bs.drop 5)).setEntry i
            (.receiving e (received + (bs.drop 5).length)))
    | .empty => refuse .wrongState s
    | .verifying _ => refuse .wrongState s
    | .valid _ _ => refuse .wrongState s

/-- LIB_DATA (R118). -/
def execLibData (s : State) : Host.Outcome State Fault Refusal := s.runRequest 0x41 libDataBody

/-- R120: LIB_CLOSE(id). -/
def libCloseBody : Body := fun bs s =>
  withLibId bs s fun i =>
    match s.entry i with
    | .receiving e received =>
      if received < e.byteTotal then refuse .badLength s
      else
        (⟨.accepted, []⟩, (s.setEntry i (.verifying e)).setVerifyQueue (s.library.verifyQueue ++ [i]))
    | .empty => refuse .wrongState s
    | .verifying _ => refuse .wrongState s
    | .valid _ _ => refuse .wrongState s

/-- LIB_CLOSE (R120). -/
def execLibClose (s : State) : Host.Outcome State Fault Refusal := s.runRequest 0x42 libCloseBody

/-- R119: the inactivity timer of a RECEIVING entry expires. -/
def State.abandon (s : State) (i : LibId) : State :=
  match s.entry i with
  | .receiving _ received => (s.setEntry i .empty).raise (.uploadAbandoned i received)
  | .empty => s
  | .verifying _ => s
  | .valid _ _ => s

/-- INACTIVITY_TIMER_EXPIRY (R119). -/
def execInactivityTimerExpiry (id : LibId) (s : State) : Host.Outcome State Fault Refusal :=
  .next (whenReady s fun s => s.abandon id)

/-! ### Verification (R121, R122) -/

/-- R122: the result for the entry that the engine works on. -/
def State.verified (s : State) (i : LibId) (rest : List LibId) : State :=
  match s.entry i with
  | .verifying e =>
    let s := s.setVerifyQueue rest
    if crc32 (s.entryBytes e) = e.check then
      (s.setEntry i (.valid e 0)).raise (.uploadVerified i e)
    else
      (s.setEntry i .empty).raise (.uploadFailed i e.check (crc32 (s.entryBytes e)))
  | .empty => s
  | .receiving _ _ => s
  | .valid _ _ => s

/-- VERIFY_RESULT (R122): the engine works on the oldest entry of the verify queue. -/
def execVerifyResult (s : State) : Host.Outcome State Fault Refusal :=
  .next <| whenReady s fun s =>
    match s.library.verifyQueue with
    | [] => s
    | i :: rest => s.verified i rest

/-! ### Deletion (R123) -/

/-- R123: LIB_DELETE(id). The IN_USE reply carries the use count. -/
def libDeleteBody : Body := fun bs s =>
  withLibId bs s fun i =>
    match s.entry i with
    | .empty => refuse .notFound s
    | .receiving _ _ => done (s.setEntry i .empty)
    | .verifying _ => refuse .busy s
    | .valid _ n => if n = 0 then done (s.setEntry i .empty) else (⟨.inUse, [byteOf n]⟩, s)

/-- LIB_DELETE (R123). -/
def execLibDelete (s : State) : Host.Outcome State Fault Refusal := s.runRequest 0x43 libDeleteBody

/-! ### Enquiry (R126, R127) -/

/-- R126: LIB_LIST(id). -/
def libListBody : Body := fun bs s => withLibId bs s fun i => (.ok (entryReport s i), s)

/-- LIB_LIST (R126). -/
def execLibList (s : State) : Host.Outcome State Fault Refusal := s.runRequest 0x44 libListBody

/-- R127: LIB_SPACE. -/
def libSpaceBody : Body := fun _ s =>
  (.ok (leBytes 2 s.library.freeCount ++ leBytes 2 s.library.largestRun ++
    leBytes 2 s.library.largestRunFirst), s)

/-- LIB_SPACE (R127). -/
def execLibSpace (s : State) : Host.Outcome State Fault Refusal := s.runRequest 0x45 libSpaceBody

end Sys2Proof.Machine
end

