-- ==== Sys2Proof/Machine/Cursor.lean ====
section
/-! DEFINITION. The cursor overlay and the shape loader (chapter 7). -/

namespace Sys2Proof.Machine

/-- Update the cursor of head `h`. -/
def State.modCursor (s : State) (h : HeadId) (f : Cursor → Cursor) : State :=
  s.modHead h fun hd => { hd with cursor := f hd.cursor }

/-- The entry that a back buffer uses: LOADING and LOADED each count (R130). -/
def BackBuffer.uses : BackBuffer → Option LibId
  | .empty => none
  | .loading i => some i
  | .loaded sh => some sh.id

/-- A cursor request that is not refused answers with the cursor report, taken after its own change (R140). -/
def withCursorReport (st : Status) (h : HeadId) (s : State) : Reply × State := (⟨st, cursorReport s h⟩, s)

/-! ### CURSOR_SHAPE (R131) -/

/-- R131: the queued id of a head is replaced; the entry keeps its place. -/
def replaceQueued (h : HeadId) (i : LibId) (q : List (HeadId × LibId)) : List (HeadId × LibId) :=
  q.map fun e => if e.1 = h then (h, i) else e

/-- R131: the request is placed according to the head's job. -/
def State.placeShape (s : State) (h : HeadId) (i : LibId) : State :=
  match s.loader.jobOf h with
  | .none => { s with loader := { s.loader with queue := s.loader.queue ++ [(h, i)] } }
  | .queued _ => { s with loader := { s.loader with queue := replaceQueued h i s.loader.queue } }
  | .loading _ => s.modCursor h fun c => { c with waiting := some i }

/-- R131: CURSOR_SHAPE(head, id). -/
def cursorShapeBody : Body := fun bs s =>
  withIndex 2 bs s fun h =>
    match libIdOf (byteAt bs 1) with
    | none => refuse .badValue s
    | some i =>
      if ((s.entry i).validOf .sprite).isSome then withCursorReport .accepted h (s.placeShape h i)
      else refuse .notFound s

/-- CURSOR_SHAPE (R131). -/
def execCursorShape (s : State) : Host.Outcome State Fault Refusal := s.runRequest 0x50 cursorShapeBody

/-! ### The shape loader (R132 to R134) -/

/-- R133: the job of head `h` for shape `i` begins: the back buffer is LOADING, one use is counted, and a
LOADED shape it replaces loses its use. -/
def State.beginJob (s : State) (h : HeadId) (i : LibId) : State :=
  let old := (s.head h).cursor.back.uses
  (({ s with loader := { s.loader with job := some (h, i) } }.modCursor h fun c =>
    { c with back := .loading i }).addUse i).dropUseOf old

/-- R132, R133: the idle loader takes the oldest queued entry and checks its id again. -/
def State.startJob (s : State) : State :=
  match s.loader.job, s.loader.queue with
  | none, (h, i) :: rest =>
    let t := { s with loader := { s.loader with queue := rest } }
    if ((s.entry i).validOf .sprite).isSome then t.beginJob h i else t.raise (.shapeFailed h i)
  | none, [] => s
  | some _, _ => s

/-- JOB_START (R133). -/
def execJobStart (s : State) : Host.Outcome State Fault Refusal :=
  .next (whenReady s State.startJob)

/-- The shape the loader has copied: the entry's id, size and bytes (R130, R134). -/
def State.copiedShape (s : State) (i : LibId) (e : EntryInfo) : Shape := ⟨i, e.width, e.height, s.entryBytes e⟩

/-- R134: the head's waiting request, if any, joins the tail of the loader queue as its job. -/
def State.queueWaiting (s : State) (h : HeadId) : State :=
  match (s.head h).cursor.waiting with
  | none => s
  | some j =>
    ({ s with loader := { s.loader with queue := s.loader.queue ++ [(h, j)] } }).modCursor h fun c =>
      { c with waiting := none }

/-- R134: the current job ends with its copy LOADED. -/
def State.finishJob (s : State) : State :=
  match s.loader.job with
  | none => s
  | some (h, i) =>
    match (s.entry i).info? with
    | none => s
    | some e =>
      (({ s with loader := { s.loader with job := none } }).modCursor h fun c =>
        { c with back := .loaded (s.copiedShape i e) }).queueWaiting h

/-- SHAPE_LOAD_COMPLETION (R134). -/
def execShapeLoadCompletion (s : State) : Host.Outcome State Fault Refusal :=
  .next (whenReady s State.finishJob)

/-! ### Position, visibility and palette (R137, R138) -/

/-- R137: the ranges of a position, by the timing record when there is one. -/
def cursorInRange (timing : Option Timing) (x y : Int) : Bool :=
  decide (-63 ≤ x) && decide (-63 ≤ y) &&
  match timing with
  | some t => decide (x ≤ (t.activeWidth : Int) - 1) && decide (y ≤ (t.activeLines : Int) - 1)
  | none => decide (x ≤ 1919) && decide (y ≤ 1079)

/-- R137: CURSOR_MOVE(head, x, y). -/
def cursorMoveBody : Body := fun bs s =>
  withIndex 2 bs s fun h =>
    if cursorInRange (s.head h).timing (signedOf (u16At bs 1)) (signedOf (u16At bs 3)) then
      withCursorReport .ok h (s.modCursor h fun c =>
        { c with pendingPosition := some (signedOf (u16At bs 1), signedOf (u16At bs 3)) })
    else refuse .badValue s

/-- CURSOR_MOVE (R137). -/
def execCursorMove (s : State) : Host.Outcome State Fault Refusal := s.runRequest 0x51 cursorMoveBody

/-- R138: CURSOR_SHOW(head, mode): 0 OFF, 1 ON, 2 KEEP (R183). -/
def cursorShowBody : Body := fun bs s =>
  withIndex 2 bs s fun h =>
    if byteAt bs 1 = 0 then withCursorReport .ok h (s.modCursor h fun c => { c with visible := false })
    else if byteAt bs 1 = 1 then withCursorReport .ok h (s.modCursor h fun c => { c with visible := true })
    else if byteAt bs 1 = 2 then withCursorReport .ok h s
    else refuse .badValue s

/-- CURSOR_SHOW (R138). -/
def execCursorShow (s : State) : Host.Outcome State Fault Refusal := s.runRequest 0x52 cursorShowBody

/-- R138: CURSOR_PALETTE(head, colour A, colour B). -/
def cursorPaletteBody : Body := fun bs s =>
  withIndex 2 bs s fun h =>
    withCursorReport .ok h
      (s.modCursor h fun c => { c with colourA := tripleAt bs 1, colourB := tripleAt bs 4 })

/-- CURSOR_PALETTE (R138). -/
def execCursorPalette (s : State) : Host.Outcome State Fault Refusal := s.runRequest 0x53 cursorPaletteBody

/-! ### The boundary (R135) and HEAD_OFF (R136) -/

/-- R135: a LOADED back buffer moves to the front, and the old front shape's use is released. -/
def State.swapCursor (s : State) (h : HeadId) : State :=
  match (s.head h).cursor.back with
  | .loaded sh =>
    ((s.modCursor h fun c => { c with front := some sh, back := .empty }).dropUseOf
      ((s.head h).cursor.front.map Shape.id)).raise (.shapeShown h sh.id (s.head h).boundaryCount)
  | .loading _ => s
  | .empty => s

/-- R135: a pending position becomes the position. -/
def Cursor.latch (c : Cursor) : Cursor :=
  match c.pendingPosition with
  | some (x, y) => { c with x := x, y := y, pendingPosition := none }
  | none => c

/-- R135: the cursor's work at a boundary. -/
def State.cursorBoundary (s : State) (h : HeadId) : State := (s.swapCursor h).modCursor h Cursor.latch

/-- R136: every shape load of a head ends; the front buffer, position and palette are kept. -/
def State.cancelShapes (s : State) (h : HeadId) : State :=
  let old := (s.head h).cursor.back.uses
  let loader : Loader :=
    ⟨s.loader.queue.filter fun e => decide (e.1 ≠ h),
      match s.loader.job with
      | some (g, i) => if g = h then none else some (g, i)
      | none => none⟩
  (({ s with loader := loader }).modCursor h fun c => { c with back := .empty, waiting := none }).dropUseOf old

end Sys2Proof.Machine
end

