-- ==== Sys2Proof/Machine/Ports.lean ====
section
/-! DEFINITION. Capture ports: starts, the detector, the writer and the port and pin requests (chapters 1
and 2). -/

namespace Sys2Proof.Machine

/-! ### Measurement (R28 to R30) -/

/-- R29: a measurement in range. -/
def Measurement.inRange (m : Measurement) : Bool :=
  decide (64 ≤ m.width) && decide (m.width ≤ 1280) && decide (m.width % 2 = 0) &&
  (if m.interlaced then decide (24 ≤ m.lines) && decide (m.lines ≤ 360)
    else decide (48 ≤ m.lines) && decide (m.lines ≤ 720)) &&
  decide (10000 ≤ m.period) && decide (m.period ≤ 50000)

/-- R30: equal widths, lines and flags, and a period within 0.5% of the reference's. -/
def Measurement.identical (m r : Measurement) : Bool :=
  decide (m.width = r.width) && decide (m.lines = r.lines) && (m.interlaced == r.interlaced) &&
  decide (200 * (m.period - r.period) ≤ r.period) && decide (200 * (r.period - m.period) ≤ r.period)

/-- R31: counting an in-range measurement in ACQUIRING, with the reference and match count before it. -/
def countInRange (reference : Option Measurement) (matchCount : Nat) (m : Measurement) : Detector :=
  match reference with
  | some r =>
    if m.identical r then
      if matchCount + 1 < 3 then .acquiring (some r) (matchCount + 1) 0 else .locked r
    else .acquiring (some m) 1 0
  | none => .acquiring (some m) 1 0

/-- R31: counting an out-of-range measurement in ACQUIRING, with the out-of-range count before it. -/
def countOutOfRange (outOfRange : Nat) : Detector :=
  if outOfRange + 1 < 3 then .acquiring none 0 (outOfRange + 1) else .unsupported

/-- R31 to R33: what a measurement makes of the detector. (In NO_SIGNAL no measurement is formed.) -/
def Detector.measured (d : Detector) (m : Measurement) : Detector :=
  match d with
  | .noSignal => .noSignal
  | .acquiring r k o => if m.inRange then countInRange r k m else countOutOfRange o
  | .locked l =>
    if m.identical l then .locked l
    else if m.inRange then countInRange none 0 m
    else countOutOfRange 0
  | .unsupported => if m.inRange then countInRange none 0 m else .unsupported

/-- R35: the measurement that INPUT_STATE carries for a new state. -/
def noticeMeasurement (d : Detector) (m : Measurement) : Measurement := d.lockedMeasurement.getD m

/-- The geometry a claim records (R1): the active lines, or twice the active lines per field. -/
def Measurement.geometry (m : Measurement) : Geometry :=
  ⟨m.width, if m.interlaced then 2 * m.lines else m.lines, m.interlaced⟩

/-! ### Leaving LOCKED (R42, R65) -/

/-- Whether a detector is LOCKED. -/
def Detector.isLocked (d : Detector) : Bool := d.lockedMeasurement.isSome

/-- R62: the latest frame start of a port that is usable as a follow source. -/
def Port.usableStart (q : Port) : Option Time :=
  if q.detector.isLocked && q.startedSinceLock then q.latestFrameStart else none

/-- R65: the loss at a head after the detector of its source has left LOCKED, with the frame start that was usable
before. A loss still due from an earlier time comes before the locking that ended now, so it is overdue. -/
def FollowLoss.arise (loss : FollowLoss) (start : Option Time) : FollowLoss :=
  match loss, start with
  | .clear, some t => .due t
  | .clear, none => .overdue
  | .due _, _ => .overdue
  | .overdue, _ => .overdue

/-- R65: a follow loss arises at each head that is PULLING or FOLLOWING this port. It is taken by FOLLOW_LOSS
(log entry 11). -/
def followLossArises (p : PortId) (start : Option Time) (h : Head) : Head :=
  if h.follow.source = some p ∧ h.follow.state ≠ .freeRun then
    { h with follow := { h.follow with loss := h.follow.loss.arise start } }
  else h

/-- The detector of port `p` has left LOCKED: the fill, if any, is aborted (R42), and follow losses arise. `start`
is the frame start that was usable before. -/
def State.leaveLocked (s : State) (p : PortId) (start : Option Time) : State :=
  ((s.abortFill p .armed).modHead 0 (followLossArises p start)).modHead 1 (followLossArises p start)

/-! ### The writer at a locked start (R38 to R40) -/

/-- The filling state a new frame begins in. -/
def Measurement.firstStage (m : Measurement) : FillStage := if m.interlaced then .first else .progressive

/-- R39, R40: a claim by an ARMED writer; on a skip it stays ARMED. -/
def State.claimFor (s : State) (p : PortId) (m : Measurement) : State :=
  match s.claim p m.geometry (s.port p).frameNumber with
  | (some i, t) =>
    t.modPort p fun q => { q with writer := .filling m.firstStage i q.frameNumber }
  | (none, t) => t

/-- R15: a restart keeps the slot, sets its geometry again and goes on under the new frame number. -/
def State.restart (s : State) (p : PortId) (m : Measurement) (i : SlotId) : State :=
  ((s.setSlot i (.filling p m.geometry)).countPort p fun c => { c with aborted := c.aborted + 1 }).modPort p
    fun q => { q with writer := .filling m.firstStage i q.frameNumber }

/-- R38 to R40: a locked start offered to the writer. `frameStart` says that it is a frame start or a
FIRST-field start; otherwise it is a SECOND-field start. -/
def State.offerToWriter (s : State) (p : PortId) (m : Measurement) (frameStart : Bool) : State :=
  match (s.port p).writer with
  | .off => s
  | .armed => if frameStart then s.claimFor p m else s
  | .filling stage i n =>
    if frameStart then s.restart p m i
    else if stage = .await then s.modPort p fun q => { q with writer := .filling .second i n }
    else s

/-! ### START (R37) -/

/-- R36: a numbered start: frame number, seen counter, latest frame start. -/
def Port.numbered (q : Port) (time : Time) : Port :=
  { q with
    frameNumber := nextFrameNumber q.frameNumber
    latestFrameStart := some time
    startedSinceLock := true
    counters := { q.counters with seen := q.counters.seen + 1 } }

/-- R37, steps 4 and 5, when the detector is LOCKED. -/
def State.lockedStart (s : State) (p : PortId) (m : Measurement) (level : FieldLevel) (time : Time) : State :=
  if !m.interlaced || decide (level = .first) then
    (s.modPort p fun q => q.numbered time).offerToWriter p m true
  else s.offerToWriter p m false

/-- R28: the measurement of the interval that ends at this start. The period is in whole microseconds. -/
def Port.measure (q : Port) (level : FieldLevel) (width : Option Nat) (lines : Nat) (time : Time) :
    Measurement where
  width := width.getD 0
  lines := lines
  period := (time - q.lastStart) / 1000
  interlaced := decide (level = .second) || q.startHistory.any fun l => decide (l = .second)

/-- The port after a measured start (R28, R31 to R33). -/
def Port.afterMeasure (q : Port) (level : FieldLevel) (m : Measurement) (time : Time) : Port :=
  { q with
    detector := q.detector.measured m
    startHistory := (level :: q.startHistory).take 2
    latest := some m
    lastStart := time
    startedSinceLock := q.startedSinceLock && q.detector.isLocked && (q.detector.measured m).isLocked }

/-- R31: the first start in NO_SIGNAL yields no measurement. -/
def State.firstStart (s : State) (p : PortId) (level : FieldLevel) (time : Time) : State :=
  (s.modPort p fun q =>
    { q with detector := .acquiring none 0 0, startHistory := [level], lastStart := time }).raise
    (.inputState p .acquiring none)

/-- R37, steps 2 and 3, in a state other than NO_SIGNAL: the detector before and after is `d` and `d'`. -/
def State.measuredStart (s : State) (p : PortId) (level : FieldLevel) (m : Measurement) (time : Time) : State :=
  let d := (s.port p).detector
  let start := (s.port p).usableStart
  let s := s.modPort p fun q => q.afterMeasure level m time
  let d' := (s.port p).detector
  let s := if d'.state = d.state then s
    else s.raise (.inputState p d'.state (some (noticeMeasurement d' m)))
  if d.isLocked && !d'.isLocked then s.leaveLocked p start else s

/-- R37: a start, in its order. -/
def State.takeStart (s : State) (p : PortId) (level : FieldLevel) (width : Option Nat) (lines : Nat)
    (time : Time) : State :=
  match (s.port p).detector with
  | .noSignal => s.firstStart p level time
  | .acquiring .. | .locked _ | .unsupported =>
    let s := s.measuredStart p level ((s.port p).measure level width lines time) time
    match (s.port p).detector.lockedMeasurement with
    | some m => s.lockedStart p m level time
    | none => s

/-- START (R37). -/
def execStart (port : PortId) (level : FieldLevel) (width : Option Nat) (lines : Nat) (time : Time)
    (s : State) : Host.Outcome State Fault Refusal :=
  .next (whenReady s fun s => s.takeStart port level width lines time)

/-! ### FILL_END (R41) -/

/-- The place in DRAM of byte `k` of the field or frame written into slot `i`: line `k / (2 width)` of what
is written goes to the slot line that the stage gives (R40), and a slot's lines follow one another at 2
bytes per pixel. DESIGN CHOICE, log entry 6: the order of the bytes inside a slot. -/
def fillAddress (i : SlotId) (width : Nat) (stage : FillStage) (k : Nat) : DramAddress :=
  let line := k / (2 * width)
  let slotLine := match stage with
    | .progressive => line
    | .first => 2 * line
    | .await => line
    | .second => 2 * line + 1
  BitVec.ofNat 26 (i.val * Config.slotBytes + slotLine * (2 * width) + k % (2 * width))

/-- The bytes of the field or frame that a stage writes: 2 per pixel of its lines. -/
def fillLength (g : Geometry) (stage : FillStage) : Nat :=
  match stage with
  | .progressive => 2 * g.width * g.height
  | .first => 2 * g.width * (g.height / 2)
  | .await => 0
  | .second => 2 * g.width * (g.height / 2)

/-- The pixels of the field or frame are in the slot. -/
def State.writePixels (s : State) (i : SlotId) (stage : FillStage) (pixels : List Byte) : State :=
  match s.slot i with
  | .filling _ g => s.writeBytes (fillAddress i g.width stage) 0 (pixels.take (fillLength g stage))
  | .free => s
  | .ready _ => s
  | .held _ => s

/-- A completion by the writer (R41). -/
def State.completeFill (s : State) (p : PortId) (i : SlotId) (n : FrameNumber) : State :=
  (s.complete p i n).modPort p fun q => { q with writer := .armed }

/-- R41: a fill end. -/
def State.takeFillEnd (s : State) (p : PortId) (pixels : List Byte) : State :=
  match (s.port p).writer with
  | .filling .progressive i n => (s.writePixels i .progressive pixels).completeFill p i n
  | .filling .first i n =>
    (s.writePixels i .first pixels).modPort p fun q => { q with writer := .filling .await i n }
  | .filling .second i n => (s.writePixels i .second pixels).completeFill p i n
  | .filling .await _ _ => s
  | .armed => s
  | .off => s

/-- FILL_END (R41). -/
def execFillEnd (port : PortId) (pixels : List Byte) (s : State) : Host.Outcome State Fault Refusal :=
  .next (whenReady s fun s => s.takeFillEnd port pixels)

/-! ### LOSS_TIMER_EXPIRY (R34) -/

/-- The detector enters NO_SIGNAL: history, locked measurement, start history and latest frame start become
absent, and the timer stops (R34, R46). -/
def Port.loseSignal (q : Port) : Port :=
  { q with detector := .noSignal, startHistory := [], latestFrameStart := none, startedSinceLock := false }

/-- R34: the expiry, when the timer runs. -/
def State.loseSignal (s : State) (p : PortId) : State :=
  let q := s.port p
  let s := (s.modPort p Port.loseSignal).raise (.inputState p .noSignal none)
  if q.detector.isLocked then s.leaveLocked p q.usableStart else s

/-- LOSS_TIMER_EXPIRY (R34). -/
def execLossTimerExpiry (port : PortId) (s : State) : Host.Outcome State Fault Refusal :=
  .next (whenReady s fun s => if (s.port port).lossTimerRunning then s.loseSignal port else s)

/-! ### Port requests (R11, R43 to R47) -/

/-- R43: CAPTURE_ON. -/
def State.captureOn (s : State) (p : PortId) : State :=
  match (s.port p).writer with
  | .off => s.modPort p fun q => { q with writer := .armed }
  | .armed => s
  | .filling .. => s

/-- R43: CAPTURE_OFF, aborting a fill. -/
def State.captureOff (s : State) (p : PortId) : State :=
  match (s.port p).writer with
  | .off => s
  | .armed => s.modPort p fun q => { q with writer := .off }
  | .filling .. => s.abortFill p .off

/-- Code 0x10 carries the port and a mode: 1 is CAPTURE_ON, 0 is CAPTURE_OFF, any other is refused with
BAD_VALUE (Table 11-5, note 1). -/
def captureBody : Body := fun bs s =>
  withIndex 4 bs s fun p =>
    if byteAt bs 1 = 1 then done (s.captureOn p)
    else if byteAt bs 1 = 0 then done (s.captureOff p)
    else refuse .badValue s

/-- CAPTURE_ON (R43): a request of code 0x10 whose mode is not 0 (log entry 17). -/
def execCaptureOn (s : State) : Host.Outcome State Fault Refusal :=
  .next (s.takeRequest (fun r => decide (r.code = 0x10) &&
    !(decide (r.payload.length = 2) && decide (byteAt r.payload 1 = 0))) captureBody)

/-- CAPTURE_OFF (R43): a request of code 0x10 whose mode is not 1 (log entry 17). -/
def execCaptureOff (s : State) : Host.Outcome State Fault Refusal :=
  .next (s.takeRequest (fun r => decide (r.code = 0x10) &&
    !(decide (r.payload.length = 2) && decide (byteAt r.payload 1 = 1))) captureBody)

/-- R11: PORT_DEPTH(port, depth). -/
def portDepthBody : Body := fun bs s =>
  withIndex 4 bs s fun p =>
    if 1 ≤ (byteAt bs 1).toNat ∧ (byteAt bs 1).toNat ≤ 4 then
      done ((s.modPort p fun q => { q with depth := (byteAt bs 1).toNat }).evictSurplus p)
    else refuse .badValue s

/-- PORT_DEPTH (R11). -/
def execPortDepth (s : State) : Host.Outcome State Fault Refusal := s.runRequest 0x11 portDepthBody

/-- R45: PORT_FLUSH(port). -/
def portFlushBody : Body := fun bs s => withIndex 4 bs s fun p => done (s.flush p)

/-- PORT_FLUSH (R45). -/
def execPortFlush (s : State) : Host.Outcome State Fault Refusal := s.runRequest 0x12 portFlushBody

/-- R46, step 3: the detector goes to NO_SIGNAL, raising INPUT_STATE if it was in another state. -/
def State.resetDetector (s : State) (p : PortId) : State :=
  let s' := if (s.port p).lossTimerRunning then s.loseSignal p else s.modPort p Port.loseSignal
  s'.modPort p fun q => { q with latest := none }

/-- R46: PORT_RESET, in its order. -/
def State.resetPort (s : State) (p : PortId) : State :=
  (((s.captureOff p).flush p).resetDetector p).modPort p fun q =>
    { q with starved := false, depth := 2, counters := .zero }

/-- R46: PORT_RESET(port). -/
def portResetBody : Body := fun bs s => withIndex 4 bs s fun p => done (s.resetPort p)

/-- PORT_RESET (R46). -/
def execPortReset (s : State) : Host.Outcome State Fault Refusal := s.runRequest 0x13 portResetBody

/-- R47: PORT_STATUS(port). -/
def portStatusBody : Body := fun bs s =>
  withIndex 4 bs s fun p => (.ok (portReport (s.port p) (s.readyList p).length), s)

/-- PORT_STATUS (R47). -/
def execPortStatus (s : State) : Host.Outcome State Fault Refusal := s.runRequest 0x14 portStatusBody

/-! ### Pins and STORE_STATUS (R22 to R24) -/

/-- The slot a pin holds. -/
def State.pinSlot (s : State) (i : PinId) : Option SlotId := (s.pin i).map PinEntry.slot

/-- The reply of PIN_TAKE: pin, slot, source, frame number (Table 11-9). -/
def pinReply (i : PinId) (e : PinEntry) : Reply :=
  .ok ([byteOf i.val, byteOf e.slot.val, byteOf e.source.val] ++ leBytes 8 e.number.toNat)

/-- R22: pin the frame of slot `j`, taking its reference before releasing the previous slot's. -/
def State.movePin (s : State) (i : PinId) (e : PinEntry) : State :=
  ((s.takeRef e.slot).setPin i (some e)).releaseOpt (s.pinSlot i)

/-- The entry a pin records of slot `j` (R21). -/
def State.pinEntryOf (s : State) (p : PortId) (j : SlotId) : PinEntry :=
  match (s.slot j).frame? with
  | some f => ⟨j, f.source, f.number⟩
  | none => ⟨j, p, 0⟩

/-- R22: PIN_TAKE(pin, source). -/
def pinTakeBody : Body := fun bs s =>
  withIndex 8 bs s fun i =>
    match finOf 4 (byteAt bs 1) with
    | none => refuse .badValue s
    | some p =>
      match (s.readyList p).getLast? with
      | none => refuse .noFrame s
      | some j =>
        if s.pinSlot i = some j then (pinReply i (s.pinEntryOf p j), s)
        else (pinReply i (s.pinEntryOf p j), s.movePin i (s.pinEntryOf p j))

/-- PIN_TAKE (R22). -/
def execPinTake (s : State) : Host.Outcome State Fault Refusal := s.runRequest 0x18 pinTakeBody

/-- R23: the pin releases its reference, if it has one, and becomes empty. -/
def State.emptyPin (s : State) (i : PinId) : State := (s.setPin i none).releaseOpt (s.pinSlot i)

/-- R23: PIN_RELEASE(pin). -/
def pinReleaseBody : Body := fun bs s => withIndex 8 bs s fun i => done (s.emptyPin i)

/-- PIN_RELEASE (R23). -/
def execPinRelease (s : State) : Host.Outcome State Fault Refusal := s.runRequest 0x19 pinReleaseBody

/-- R24: STORE_STATUS(section). -/
def storeStatusBody : Body := fun bs s =>
  withIndex 3 bs s fun k => (.ok (if k = 2 then storeLists s else storeSlots s k.val), s)

/-- STORE_STATUS (R24). -/
def execStoreStatus (s : State) : Host.Outcome State Fault Refusal := s.runRequest 0x1A storeStatusBody

end Sys2Proof.Machine
end

