-- ==== Sys2Proof/Machine/Scenes.lean ====
section
/-! DEFINITION. Scenes: editing, validation, the present and its swap (chapter 4). -/

namespace Sys2Proof.Machine

/-! ### Which library entry a record names (R79, R124) -/

/-- The library id of a fallback image. -/
def fallbackId : Option Fallback → Option LibId
  | some (.image i) => some i
  | some (.colour _) => none
  | none => none

/-- The library id a record names, as content or as fallback. -/
def WindowRecord.names (r : WindowRecord) : Option LibId :=
  match r.content with
  | .image i _ => some i
  | .live _ _ _ fallback _ _ => fallbackId fallback
  | .pin _ _ fallback _ => fallbackId fallback
  | .fill _ => none

/-- The library id that a position of a scene names. -/
def namedAt (r : Option WindowRecord) : Option LibId := r.bind WindowRecord.names

/-- Every record of a scene is put in: one more use of each entry named (R79). -/
def State.addSceneUses (s : State) (sc : Scene) : State :=
  positions.foldl (fun s p => s.addUseOf (namedAt sc[p])) s

/-- Every record of a scene is taken out: one use fewer of each entry named (R79). -/
def State.dropSceneUses (s : State) (sc : Scene) : State :=
  positions.foldl (fun s p => s.dropUseOf (namedAt sc[p])) s

/-- The selection state of position `p` of head `h`. -/
def State.selectionAt (s : State) (h : HeadId) (p : Position) : Selection := (s.head h).selection[p]

/-- Replace the selection state of position `p` of head `h`. -/
def State.setSelection (s : State) (h : HeadId) (p : Position) (v : Selection) : State :=
  s.modHead h fun hd => { hd with selection := hd.selection.set p v }

/-! ### Validation (R80 to R82) -/

/-- The reasons of Table 4-4. -/
inductive Reason where
  | noTiming
  | outside
  | scale
  | imageBounds
  | overlap
  deriving DecidableEq, Repr

/-- The reason's code (R183). -/
def Reason.byte : Reason → Byte
  | .noTiming => 1
  | .outside => 2
  | .scale => 3
  | .imageBounds => 4
  | .overlap => 5

/-- R81: a scale ratio in range: c at most 4 times d and 8 times c at least d. -/
def ratioInRange (c d : Nat) : Bool := decide (c ≤ 4 * d) && decide (d ≤ 8 * c)

/-- Both ratios of a region of size w by h drawn over a destination. -/
def scaleInRange (w h : Nat) (dest : Rect) : Bool := ratioInRange w dest.w && ratioInRange h dest.h

/-- R81: a library image drawn whole over a destination. -/
def State.imageScaleOk (s : State) (i : Option LibId) (dest : Rect) : Bool :=
  match i with
  | none => true
  | some i =>
    match (s.entry i).info? with
    | some e => scaleInRange e.width e.height dest
    | none => true

/-- A crop drawn over a destination; an absent crop is not tested. -/
def cropScaleOk (crop : Option Rect) (dest : Rect) : Bool :=
  match crop with
  | some c => scaleInRange c.w c.h dest
  | none => true

/-- R81, SCALE. -/
def State.scaleOk (s : State) (r : WindowRecord) : Bool :=
  match r.content with
  | .live _ _ _ fallback crop _ => cropScaleOk crop r.destination && s.imageScaleOk (fallbackId fallback) r.destination
  | .pin _ _ fallback crop => cropScaleOk crop r.destination && s.imageScaleOk (fallbackId fallback) r.destination
  | .image i none => s.imageScaleOk (some i) r.destination
  | .image _ (some c) => scaleInRange c.w c.h r.destination
  | .fill _ => true

/-- R81, OUTSIDE. -/
def insideActive (t : Timing) (d : Rect) : Bool :=
  decide (d.x + d.w ≤ t.activeWidth) && decide (d.y + d.h ≤ t.activeLines)

/-- R81, IMAGE_BOUNDS. -/
def State.imageBoundsOk (s : State) (r : WindowRecord) : Bool :=
  match r.content with
  | .image i (some c) =>
    match (s.entry i).info? with
    | some e => decide (c.x + c.w ≤ e.width) && decide (c.y + c.h ≤ e.height)
    | none => true
  | .image _ none => true
  | .live .. => true
  | .pin .. => true
  | .fill _ => true

/-- R82: two destinations share at least one pixel. -/
def intersects (a b : Rect) : Bool :=
  decide (a.x < b.x + b.w) && decide (b.x < a.x + a.w) && decide (a.y < b.y + b.h) && decide (b.y < a.y + a.h)

/-- R82: position `p` overlaps a present lower position on its layer. -/
def overlapsLower (sc : Scene) (p : Position) (r : WindowRecord) : Bool :=
  positions.any fun q =>
    decide (q < p) &&
    match sc[q] with
    | some o => decide (o.layer = r.layer) && intersects r.destination o.destination
    | none => false

/-- R80: the tests of one present position, in order. -/
def State.positionFault (s : State) (t : Timing) (sc : Scene) (p : Position) (r : WindowRecord) :
    Option Reason :=
  if !insideActive t r.destination then some .outside
  else if !s.scaleOk r then some .scale
  else if !s.imageBoundsOk r then some .imageBounds
  else if overlapsLower sc p r then some .overlap
  else none

/-- R80: the first failure among the given positions. -/
def State.firstFault (s : State) (t : Timing) (sc : Scene) : List Position → Option (Nat × Reason)
  | [] => none
  | p :: rest =>
    match sc[p] with
    | none => s.firstFault t sc rest
    | some r =>
      match s.positionFault t sc p r with
      | some why => some (p.val, why)
      | none => s.firstFault t sc rest

/-- R80: validation of a scene, none when it is valid. With no timing record the failing position is 255. -/
def State.validate (s : State) (timing : Option Timing) (sc : Scene) : Option (Nat × Reason) :=
  match timing with
  | none => some (255, .noTiming)
  | some t => s.firstFault t sc positions

/-- The INVALID_SCENE reply: failing position and reason (R183). -/
def invalidScene (f : Nat × Reason) : Reply := ⟨.invalidScene, [byteOf f.1, f.2.byte]⟩

/-! ### The swap (R86, R87) -/

/-- R86: continuity at a position: both records LIVE with the same source. -/
def keepsContinuity (old new : Option WindowRecord) : Bool :=
  match old, new with
  | some ⟨.live p .., _, _, _, _⟩, some ⟨.live q .., _, _, _, _⟩ => decide (p = q)
  | _, _ => false

/-- R86 at one position: without continuity the window's reference is released and its state cleared. -/
def State.swapPosition (h : HeadId) (s : State) (p : Position) : State :=
  if keepsContinuity (s.head h).activeScene[p] (s.head h).pendingScene[p] then s
  else
    (s.setSelection h p .cleared).releaseOpt ((s.selectionAt h p).current.map CurrentFrame.slot)

/-- R86: a swap: releases in ascending position order, then the exchange of records and use counts. -/
def State.swap (s : State) (h : HeadId) : State :=
  let old := (s.head h).activeScene
  let new := (s.head h).pendingScene
  let s := positions.foldl (State.swapPosition h) s
  ((s.modHead h fun hd => { hd with activeScene := new }).addSceneUses new).dropSceneUses old

/-- R87: a swap on an OFF head keeps no continuity: every position begins with cleared selection state. -/
def State.swapOff (s : State) (h : HeadId) : State :=
  (s.swap h).modHead h fun hd => { hd with selection := Vector.replicate 12 .cleared }

/-- R85: a pending present is applied at a boundary, and SCENE_PRESENTED carries its boundary count. -/
def State.swapAtBoundary (s : State) (h : HeadId) : State :=
  if (s.head h).presentPending then
    ((s.swap h).modHead h fun hd => { hd with presentPending := false }).raise
      (.scenePresented h (s.head h).boundaryCount)
  else s

/-! ### Scene requests (R75 to R78, R83) -/

/-- R75: the library id a record names is a VALID IMAGE. -/
def State.namesImage (s : State) (r : WindowRecord) : Bool :=
  match r.names with
  | none => true
  | some i => ((s.entry i).validOf .image).isSome

/-- Put a record, or none, at a pending position; the use counts follow (R79). -/
def State.putPending (s : State) (h : HeadId) (p : Position) (r : Option WindowRecord) : State :=
  let old := (s.head h).pendingScene[p]
  ((s.modHead h fun hd => { hd with pendingScene := hd.pendingScene.set p r }).addUseOf (namedAt r)).dropUseOf
    (namedAt old)

/-- R75: SCENE_PUT(head, position, record). -/
def scenePutBody : Body := fun bs s =>
  withIndex 2 bs s fun h =>
    match finOf 12 (byteAt bs 1), readRecord (bs.drop 2) with
    | some p, some r =>
      if (s.head h).presentPending then refuse .busy s
      else if s.namesImage r then done (s.putPending h p (some r))
      else refuse .notFound s
    | _, _ => refuse .badValue s

/-- SCENE_PUT (R75). -/
def execScenePut (s : State) : Host.Outcome State Fault Refusal := s.runRequest 0x20 scenePutBody

/-- R76: SCENE_REMOVE(head, position). -/
def sceneRemoveBody : Body := fun bs s =>
  withIndex 2 bs s fun h =>
    match finOf 12 (byteAt bs 1) with
    | none => refuse .badValue s
    | some p => if (s.head h).presentPending then refuse .busy s else done (s.putPending h p none)

/-- SCENE_REMOVE (R76). -/
def execSceneRemove (s : State) : Host.Outcome State Fault Refusal := s.runRequest 0x21 sceneRemoveBody

/-- R77: the whole pending scene is reloaded; the use counts follow (R79). -/
def State.reloadPending (s : State) (h : HeadId) (new : Scene) : State :=
  let old := (s.head h).pendingScene
  ((s.modHead h fun hd => { hd with pendingScene := new }).addSceneUses new).dropSceneUses old

/-- R77: SCENE_RESTART(head, source): 0 ACTIVE, 1 EMPTY (log entry 15). -/
def sceneRestartBody : Body := fun bs s =>
  withIndex 2 bs s fun h =>
    match flagOf (byteAt bs 1) with
    | none => refuse .badValue s
    | some fromEmpty =>
      if (s.head h).presentPending then refuse .busy s
      else done (s.reloadPending h (if fromEmpty then .allAbsent else (s.head h).activeScene))

/-- SCENE_RESTART (R77). -/
def execSceneRestart (s : State) : Host.Outcome State Fault Refusal := s.runRequest 0x22 sceneRestartBody

/-- R78: SCENE_READ(head, scene, position): scene 0 PENDING, 1 ACTIVE (log entry 15). -/
def sceneReadBody : Body := fun bs s =>
  withIndex 2 bs s fun h =>
    match flagOf (byteAt bs 1), finOf 12 (byteAt bs 2) with
    | some false, some p => (.ok (recordReport (s.head h).pendingScene[p]), s)
    | some true, some p =>
      (.ok (recordReport (s.head h).activeScene[p] ++ selectionReport (s.selectionAt h p)), s)
    | _, _ => refuse .badValue s

/-- SCENE_READ (R78). -/
def execSceneRead (s : State) : Host.Outcome State Fault Refusal := s.runRequest 0x23 sceneReadBody

/-- R83: SCENE_PRESENT(head). -/
def scenePresentBody : Body := fun bs s =>
  withIndex 2 bs s fun h =>
    if (s.head h).presentPending then refuse .busy s
    else match s.validate (s.head h).timing (s.head h).pendingScene with
      | some f => (invalidScene f, s)
      | none =>
        if (s.head h).state = .off then done (s.swapOff h)
        else (⟨.accepted, []⟩, s.modHead h fun hd => { hd with presentPending := true })

/-- SCENE_PRESENT (R83). -/
def execScenePresent (s : State) : Host.Outcome State Fault Refusal := s.runRequest 0x24 scenePresentBody

end Sys2Proof.Machine
end

