-- ==== Sys2Proof/Machine/Selection.lean ====
section
/-! DEFINITION. Frame selection at a head's boundary (chapter 5). -/

namespace Sys2Proof.Machine

/-! ### Candidates (R98) -/

/-- The frame number of a slot, if it holds a frame. -/
def State.frameNumberOf (s : State) (i : SlotId) : Option FrameNumber := (s.slot i).frame?.map StoredFrame.number

/-- R98: a slot's frame is newer than the last-shown number. -/
def State.isNewer (s : State) (last : Option FrameNumber) (i : SlotId) : Bool :=
  match last, s.frameNumberOf i with
  | none, some _ => true
  | some n, some m => decide (n.toNat < m.toNat)
  | _, none => false

/-- R98: the candidates of a LIVE window of port `p`, oldest first. -/
def State.candidates (s : State) (p : PortId) (last : Option FrameNumber) : List SlotId :=
  (s.readyList p).filter (s.isNewer last)

/-- R100, R101: LATEST chooses the newest candidate, PACED the oldest. -/
def Policy.choose (policy : Policy) (candidates : List SlotId) : Option SlotId :=
  match policy with
  | .latest => candidates.getLast?
  | .paced => candidates.head?

/-! ### The outcomes (R97) -/

/-- The slot on which a window holds its reference. -/
def Selection.slot (v : Selection) : Option SlotId := v.current.map CurrentFrame.slot

/-- What a window records of the frame of slot `i` (Table 5-1). -/
def State.currentFrameOf (s : State) (i : SlotId) : Option CurrentFrame :=
  (s.slot i).frame?.map fun f => ⟨i, f.source, f.number⟩

/-- R97: the frame of slot `i` becomes the current frame: the new slot is taken, then the old one released,
and the last-shown number is the new frame's. -/
def State.adoptFrame (s : State) (h : HeadId) (p : Position) (i : SlotId) : State :=
  let old := s.selectionAt h p
  (((s.takeRef i).setSelection h p
    ⟨s.currentFrameOf i, s.frameNumberOf i, old.repeats⟩)).releaseOpt old.slot

/-- R97: the current frame, if any, is given up for the fallback; last-shown and repeat count are kept. -/
def State.giveUpFrame (s : State) (h : HeadId) (p : Position) : State :=
  let old := s.selectionAt h p
  (s.setSelection h p { old with current := none }).releaseOpt old.slot

/-- R108: the current frame is kept, which is a repeat. -/
def State.repeatFrame (s : State) (h : HeadId) (p : Position) : State :=
  s.setSelection h p { s.selectionAt h p with repeats := (s.selectionAt h p).repeats + 1 }

/-! ### Windows (R99, R105 to R107) -/

/-- Whether the detector of port `p` is LOCKED. -/
def State.portLocked (s : State) (p : PortId) : Bool := (s.port p).detector.isLocked

/-- R99, its four steps, by a policy. -/
def State.chooseLive (s : State) (h : HeadId) (p : Position) (source : PortId) (policy : Policy)
    (onLoss : OnLoss) : State :=
  if onLoss = .fallback ∧ s.portLocked source = false then s.giveUpFrame h p
  else
    match policy.choose (s.candidates source (s.selectionAt h p).lastShown) with
    | some i => s.adoptFrame h p i
    | none => if (s.selectionAt h p).current.isSome then s.repeatFrame h p else s

/-- R99, R105: a LIVE window. A frozen one keeps its frame, and selects by LATEST when it has none. -/
def State.selectLive (s : State) (h : HeadId) (p : Position) (source : PortId) (policy : Policy)
    (onLoss : OnLoss) (freeze : Bool) : State :=
  if freeze then
    if (s.selectionAt h p).current.isSome then s.repeatFrame h p
    else s.chooseLive h p source .latest onLoss
  else s.chooseLive h p source policy onLoss

/-- R106: a PIN window. -/
def State.selectPin (s : State) (h : HeadId) (p : Position) (pin : PinId) (onLoss : OnLoss) : State :=
  match s.pin pin with
  | none => s.giveUpFrame h p
  | some e =>
    if onLoss = .fallback ∧ s.portLocked e.source = false then s.giveUpFrame h p
    else if (s.selectionAt h p).slot = some e.slot then s
    else s.adoptFrame h p e.slot

/-- R96, R107: the selection of one window. -/
def State.selectWindow (s : State) (h : HeadId) (p : Position) (r : WindowRecord) : State :=
  match r.content with
  | .live source policy onLoss _ _ freeze => s.selectLive h p source policy onLoss freeze
  | .pin pin onLoss _ _ => s.selectPin h p pin onLoss
  | .image _ _ => s
  | .fill _ => s

/-- R96: one position of the active scene; absent positions are passed over. -/
def State.selectPosition (h : HeadId) (s : State) (p : Position) : State :=
  match (s.head h).activeScene[p] with
  | some r => s.selectWindow h p r
  | none => s

/-- R96: selection over the active scene, in ascending position order. -/
def State.selectAll (s : State) (h : HeadId) : State := positions.foldl (State.selectPosition h) s

end Sys2Proof.Machine
end

