-- ==== Sys2Proof/Machine/Heads.lean ====
section
/-! DEFINITION. Output heads: their requests, the frame boundary, and rate follow (chapter 3). -/

namespace Sys2Proof.Machine

/-! ### HEAD_TIMING (R53) -/

/-- Table 3-3. -/
def Timing.inRange (t : Timing) : Bool :=
  decide (320 ≤ t.activeWidth) && decide (t.activeWidth ≤ 1920) && decide (t.activeWidth % 2 = 0) &&
  decide (240 ≤ t.activeLines) && decide (t.activeLines ≤ 1080) &&
  decide (t.activeWidth + 32 ≤ t.totalWidth) && decide (t.totalWidth ≤ 4096) &&
  decide (t.activeLines + 8 ≤ t.totalLines) && decide (t.totalLines ≤ 2048) &&
  decide (25000 ≤ t.pixelClock) && decide (t.pixelClock ≤ 165000)

/-- The timing record at offset 1 of a payload. -/
def timingAt (bs : List Byte) : Timing := ⟨u16At bs 1, u16At bs 3, u16At bs 5, u16At bs 7, u32At bs 9⟩

/-- R53: HEAD_TIMING(head, active width, active lines, total width, total lines, pixel clock). -/
def headTimingBody : Body := fun bs s =>
  withIndex 2 bs s fun h =>
    if (timingAt bs).inRange then
      if (s.head h).state = .off then done (s.modHead h fun hd => { hd with timing := some (timingAt bs) })
      else refuse .wrongState s
    else refuse .badValue s

/-- HEAD_TIMING (R53). -/
def execHeadTiming (s : State) : Host.Outcome State Fault Refusal := s.runRequest 0x30 headTimingBody

/-! ### HEAD_ON and HEAD_OFF (R54, R56) -/

/-- Rate follow with no source followed at present: FREE_RUN, run count 0, no loss to come. -/
def Follow.freed (f : Follow) : Follow := { f with state := .freeRun, runCount := 0, loss := .clear }

/-- R54: what an accepted HEAD_ON sets. -/
def Head.switchedOn (hd : Head) : Head :=
  { hd with
    state := .running
    boundaryCount := 0
    follow := { hd.follow.freed with phaseError := none } }

/-- R54: HEAD_ON(head). -/
def headOnBody : Body := fun bs s =>
  withIndex 2 bs s fun h =>
    if (s.head h).state ≠ .off then refuse .wrongState s
    else if (s.head h).timing = none then refuse .wrongState s
    else match s.validate (s.head h).timing (s.head h).activeScene with
      | some f => (invalidScene f, s)
      | none => done (s.modHead h Head.switchedOn)

/-- HEAD_ON (R54). -/
def execHeadOn (s : State) : Host.Outcome State Fault Refusal := s.runRequest 0x31 headOnBody

/-- R56, step 1, at one position. -/
def State.clearPosition (h : HeadId) (s : State) (p : Position) : State :=
  (s.setSelection h p .cleared).releaseOpt (s.selectionAt h p).slot

/-- R56, step 1. -/
def State.clearSelections (s : State) (h : HeadId) : State := positions.foldl (State.clearPosition h) s

/-- R56, step 2: the head enters OFF and its frame in progress is cut short. -/
def Head.switchedOff (hd : Head) : Head := { hd with state := .off, frameLines := none, frame := none }

/-- R56, step 3; R87: a pending present is applied with no continuity. -/
def State.presentAtOff (s : State) (h : HeadId) : State :=
  if (s.head h).presentPending then
    ((s.swapOff h).modHead h fun hd => { hd with presentPending := false }).raise
      (.scenePresented h (s.head h).boundaryCount)
  else s

/-- R66: FOLLOW_STATE for a head that enters FREE_RUN by a loss or a request; its phase error is 0. -/
def State.raiseFreeRun (s : State) (h : HeadId) (before : FollowState) : State :=
  if before = .freeRun then s
  else s.raise (.followState h .freeRun (s.head h).follow.source 0)

/-- R56, step 6, and the last phase error. -/
def State.stopFollow (s : State) (h : HeadId) : State :=
  (s.modHead h fun hd => { hd with follow := { hd.follow.freed with phaseError := none } }).raiseFreeRun h
    (s.head h).follow.state

/-- R56: a RUNNING or MUTED head is switched off, in the order of the rule's steps. -/
def State.switchOff (s : State) (h : HeadId) : State :=
  ((((((s.clearSelections h).modHead h Head.switchedOff).presentAtOff h).cancelShapes h).stopAnc h).stopFollow h)

/-- R56: HEAD_OFF(head). -/
def headOffBody : Body := fun bs s =>
  withIndex 2 bs s fun h => if (s.head h).state = .off then done s else done (s.switchOff h)

/-- HEAD_OFF (R56). -/
def execHeadOff (s : State) : Host.Outcome State Fault Refusal := s.runRequest 0x32 headOffBody

/-! ### HEAD_MUTE, HEAD_BACKGROUND, HEAD_STATUS (R58 to R60) -/

/-- R58: HEAD_MUTE(head, on or off). -/
def headMuteBody : Body := fun bs s =>
  withIndex 2 bs s fun h =>
    match flagOf (byteAt bs 1) with
    | none => refuse .badValue s
    | some on =>
      if (s.head h).state = .off then refuse .wrongState s
      else done (s.modHead h fun hd => { hd with state := if on then .muted else .running })

/-- HEAD_MUTE (R58). -/
def execHeadMute (s : State) : Host.Outcome State Fault Refusal := s.runRequest 0x33 headMuteBody

/-- R59: HEAD_BACKGROUND(head, background colour, mute colour). -/
def headBackgroundBody : Body := fun bs s =>
  withIndex 2 bs s fun h =>
    done (s.modHead h fun hd => { hd with background := tripleAt bs 1, muteColour := tripleAt bs 4 })

/-- HEAD_BACKGROUND (R59). -/
def execHeadBackground (s : State) : Host.Outcome State Fault Refusal := s.runRequest 0x34 headBackgroundBody

/-- R60: HEAD_STATUS(head). -/
def headStatusBody : Body := fun bs s => withIndex 2 bs s fun h => (.ok (headReport (s.head h)), s)

/-- HEAD_STATUS (R60). -/
def execHeadStatus (s : State) : Host.Outcome State Fault Refusal := s.runRequest 0x36 headStatusBody

/-! ### HEAD_FOLLOW (R61) -/

/-- The follow source field: 0 to 3, or 255 for none (R183). -/
def followSourceOf (b : Byte) : Option (Option PortId) :=
  if b = 255 then some none else (finOf 4 b).map some

/-- R61: new follow settings; the follow state and run count are kept when the source is the stored one. -/
def Follow.configured (f : Follow) (source : Option PortId) (window lead : Nat) : Follow :=
  if source = none ∨ source ≠ f.source then
    { f.freed with source := source, window := window, lead := lead }
  else { f with window := window, lead := lead }

/-- R61: the settings of a head, with FOLLOW_STATE when its follow state changes. -/
def State.setFollow (s : State) (h : HeadId) (source : Option PortId) (window lead : Nat) : State :=
  let t := s.modHead h fun hd => { hd with follow := hd.follow.configured source window lead }
  if (t.head h).follow.state = (s.head h).follow.state then t
  else t.raiseFreeRun h (s.head h).follow.state

/-- R61: HEAD_FOLLOW(head, source, window, lead). Every lead of one byte, 0 to 255, is in range. -/
def headFollowBody : Body := fun bs s =>
  withIndex 2 bs s fun h =>
    match followSourceOf (byteAt bs 1) with
    | none => refuse .badValue s
    | some source =>
      if (byteAt bs 2).toNat ≤ 64 then
        done (s.setFollow h source (byteAt bs 2).toNat (byteAt bs 3).toNat)
      else refuse .badValue s

/-- HEAD_FOLLOW (R61). -/
def execHeadFollow (s : State) : Host.Outcome State Fault Refusal := s.runRequest 0x35 headFollowBody

/-! ### FOLLOW_LOSS (R65) -/

/-- R65: a follow loss that has arisen is taken: a head in PULLING or FOLLOWING enters FREE_RUN. -/
def State.takeFollowLoss (s : State) (h : HeadId) : State :=
  if (s.head h).follow.loss = .clear then s
  else (s.modHead h fun hd => { hd with follow := hd.follow.freed }).raiseFreeRun h (s.head h).follow.state

/-- FOLLOW_LOSS (R65). -/
def execFollowLoss (head : HeadId) (s : State) : Host.Outcome State Fault Refusal :=
  .next (whenReady s fun s => s.takeFollowLoss head)

/-! ### Rate follow at a boundary (R62 to R64) -/

/-- R62: the latest frame start of the follow source, when the source is usable. -/
def State.usableStart (s : State) (source : Option PortId) : Option Time :=
  match source with
  | none => none
  | some p => (s.port p).usableStart

/-- R65: the order of a head's follow loss and a boundary of it. A loss may come after the boundary while
the detector of the source has not locked again (`locked`); an overdue loss comes before it. -/
def FollowLoss.comesFirst (loss : FollowLoss) (locked : Bool) : Bool :=
  match loss with
  | .clear => false
  | .due _ => locked
  | .overdue => true

/-- R65: the follow loss of a head, where it comes before a boundary. -/
def State.lossBeforeBoundary (s : State) (h : HeadId) : State :=
  if (s.head h).follow.loss.comesFirst ((s.head h).follow.source.any s.portLocked) then s.takeFollowLoss h else s

/-- R62, R65: the frame start from which a boundary of a head computes its phase error. With a loss still to be
taken it is the one that the source had before it left LOCKED. -/
def State.followStart (s : State) (h : HeadId) : Option Time :=
  match (s.head h).follow.loss with
  | .clear => s.usableStart (s.head h).follow.source
  | .due start => some start
  | .overdue => none

/-- R62: the whole head lines in a time of `ns` nanoseconds: a line lasts total width / pixel clock, and a
pixel clock of k kHz gives k periods in 1,000,000 ns. -/
def Timing.linesIn (t : Timing) (ns : Nat) : Nat := ns * t.pixelClock / (t.totalWidth * 1000000)

/-- R62: a raw error brought into -floor(n/2) to n - 1 - floor(n/2) by whole multiples of n. -/
def wrapError (n : Nat) (raw : Int) : Int := (raw + ((n / 2 : Nat) : Int)) % (n : Int) - ((n / 2 : Nat) : Int)

/-- R62: the phase error at a boundary taken at `time` for a source's frame start at `start`. -/
def phaseErrorOf (t : Timing) (lead : Nat) (start time : Time) : Int :=
  wrapError t.totalLines (-((t.linesIn (time - start) : Nat) : Int) - (lead : Int))

/-- R64: an error is within tolerance. -/
def withinTolerance (e : Int) : Bool := decide (-2 ≤ e) && decide (e ≤ 2)

/-- R64: the follow state and run count after an error. -/
def followAfter (state : FollowState) (run : Nat) (e : Int) : FollowState × Nat :=
  match state, withinTolerance e with
  | .freeRun, true => (.pulling, 1)
  | .freeRun, false => (.pulling, 0)
  | .pulling, true => if run + 1 < 8 then (.pulling, run + 1) else (.following, 0)
  | .pulling, false => (.pulling, 0)
  | .following, false => if run + 1 < 8 then (.following, run + 1) else (.pulling, 0)
  | .following, true => (.following, 0)

/-- R63: the total lines of a frame begun with a phase error. -/
def followedLines (t : Timing) (window : Nat) (e : Int) : Nat :=
  let w : Int := window
  let total := (t.totalLines : Int) + max (-w) (min w e)
  (max ((t.activeLines : Int) + 8) (min 2048 total)).toNat

/-- R62 to R64: the head at a boundary that computes the error `e`. -/
def Head.followedBy (hd : Head) (t : Timing) (e : Int) : Head :=
  { hd with
    frameLines := some (followedLines t hd.follow.window e)
    follow :=
      { hd.follow with
        state := (followAfter hd.follow.state hd.follow.runCount e).1
        runCount := (followAfter hd.follow.state hd.follow.runCount e).2
        phaseError := some e } }

/-- R62 to R64, R66: the total lines of the frame that a boundary begins, and the follow state. With the
source not usable the frame is nominal, and the follow state stays as it is (log entry 13). -/
def State.computeFollow (s : State) (h : HeadId) (t : Timing) (time : Time) : State :=
  match s.followStart h with
  | none => s.modHead h fun hd => { hd with frameLines := some t.totalLines }
  | some start =>
    let e := phaseErrorOf t (s.head h).follow.lead start time
    let after := (followAfter (s.head h).follow.state (s.head h).follow.runCount e).1
    let u := s.modHead h fun hd => hd.followedBy t e
    if after = (s.head h).follow.state then u
    else u.raise (.followState h after (s.head h).follow.source e)

/-- R62 to R66: rate follow at a boundary, behind a follow loss that comes before it. -/
def State.followBoundary (s : State) (h : HeadId) (t : Timing) (time : Time) : State :=
  (s.lossBeforeBoundary h).computeFollow h t time

/-! ### The frame boundary (R55) -/

/-- R55: the boundary count and the boundaries counter. -/
def Head.counted (hd : Head) : Head :=
  { hd with boundaryCount := hd.boundaryCount + 1, boundaries := hd.boundaries + 1 }

/-- R55: the choices from which the frame begun at a boundary is drawn. -/
def Head.drawn (hd : Head) : DrawnFrame where
  muted := decide (hd.state = .muted)
  background := hd.background
  muteColour := hd.muteColour
  cursorVisible := hd.cursor.visible
  colourA := hd.cursor.colourA
  colourB := hd.cursor.colourB
  missed := []

/-- R55: a frame boundary of a head with timing `t`: counts, total lines, swap, selection, cursor, ancillary
pair, in this order (log entry 12). -/
def State.boundary (s : State) (h : HeadId) (t : Timing) (time : Time) : State :=
  ((((((s.modHead h Head.counted).followBoundary h t time).swapAtBoundary h).selectAll h).cursorBoundary h).ancBoundary
    h).modHead h fun hd => { hd with frame := some hd.drawn }

/-- R55: a boundary is taken in RUNNING and MUTED. Such a head has a timing record (R54; log entry 24). -/
def State.takeBoundary (s : State) (h : HeadId) (time : Time) : State :=
  match (s.head h).state, (s.head h).timing with
  | .running, some t => s.boundary h t time
  | .muted, some t => s.boundary h t time
  | .off, _ => s
  | .running, none => s
  | .muted, none => s

/-- FRAME_BOUNDARY (R55). -/
def execFrameBoundary (head : HeadId) (time : Time) (s : State) : Host.Outcome State Fault Refusal :=
  .next (whenReady s fun s => s.takeBoundary head time)

end Sys2Proof.Machine
end

