-- ==== Sys2Proof/Machine/Compose.lean ====
section
/-! DEFINITION. Composition: the picture and the signal of a head as functions of the state, and the fetch
shortfall, which changes the picture (chapters 3, 4, 7 and 8). -/

namespace Sys2Proof.Machine

/-! ### What a window draws (R90, R92) -/

/-- What a window draws over its destination, inside its border. -/
inductive Drawing where
  /-- a region of stored pixels, `width` pixels to a line, the first at a byte of DRAM -/
  | stored (base width : Nat) (region : Rect)
  | flat (colour : Triple)
  deriving DecidableEq, Repr

/-- A region of a library image: the crop, or the whole image (R90). A record names a VALID entry (R79), so
the entry has its size. -/
def State.imageDrawing (s : State) (i : LibId) (crop : Option Rect) (background : Triple) : Drawing :=
  match (s.entry i).info? with
  | some e =>
    .stored (Config.libraryBase + e.firstBlock * Config.blockBytes) e.width
      (crop.getD ⟨0, 0, e.width, e.height⟩)
  | none => .flat background

/-- R92: a fallback. -/
def State.fallbackDrawing (s : State) (fallback : Option Fallback) (background : Triple) : Drawing :=
  match fallback with
  | some (.image i) => s.imageDrawing i none background
  | some (.colour c) => .flat c
  | none => .flat background

/-- R90: a crop intersected with a frame of width `w` and height `h`; with no crop, the whole frame. -/
def frameRegion (crop : Option Rect) (w h : Nat) : Rect :=
  match crop with
  | some c => ⟨c.x, c.y, min (c.x + c.w) w - c.x, min (c.y + c.h) h - c.y⟩
  | none => ⟨0, 0, w, h⟩

/-- R90: a region that can be drawn: not empty, and its ratios in range. -/
def drawable (r dest : Rect) : Bool := decide (0 < r.w) && decide (0 < r.h) && scaleInRange r.w r.h dest

/-- R90: what a LIVE or PIN window draws, by the frame of its current slot. -/
def State.frameDrawing (s : State) (current : Option SlotId) (crop : Option Rect) (dest : Rect)
    (fallback : Option Fallback) (background : Triple) : Drawing :=
  match current with
  | none => s.fallbackDrawing fallback background
  | some i =>
    match (s.slot i).frame? with
    | none => s.fallbackDrawing fallback background
    | some f =>
      if drawable (frameRegion crop f.geometry.width f.geometry.height) dest then
        .stored (i.val * Config.slotBytes) f.geometry.width
          (frameRegion crop f.geometry.width f.geometry.height)
      else s.fallbackDrawing fallback background

/-- R90: what a window draws. -/
def State.drawing (s : State) (current : Option SlotId) (r : WindowRecord) (background : Triple) : Drawing :=
  match r.content with
  | .live _ _ _ fallback crop _ => s.frameDrawing current crop r.destination fallback background
  | .pin _ _ fallback crop => s.frameDrawing current crop r.destination fallback background
  | .image i crop => s.imageDrawing i crop background
  | .fill c => .flat c

/-! ### Sampling, borders and blending (R91, R93, R94) -/

/-- The byte of DRAM at a place. -/
def State.dramAt (s : State) (a : Nat) : Byte := s.dramByte (BitVec.ofNat 26 a)

/-- R91, R114: a stored pixel: its own luma, and the chroma of the even-aligned pair that contains it. -/
def State.storedPixel (s : State) (base width column line : Nat) : Triple where
  y := s.dramAt (base + (line * width + column) * 2)
  cb := s.dramAt (base + (line * width + 2 * (column / 2)) * 2 + 1)
  cr := s.dramAt (base + (line * width + 2 * (column / 2) + 1) * 2 + 1)

/-- R91: the region column or line that destination pixel `i` of `d` takes. -/
def sampleAt (origin size d i : Nat) : Nat := origin + i * size / d

/-- The colour of a drawing at (i, j) from the destination's top-left corner (R91). -/
def State.drawnColour (s : State) (drawing : Drawing) (dest : Rect) (i j : Nat) : Triple :=
  match drawing with
  | .flat c => c
  | .stored base width r => s.storedPixel base width (sampleAt r.x r.w dest.w i) (sampleAt r.y r.h dest.h j)

/-- R93: a border covers (i, j) of its destination. -/
def Border.covers (b : Border) (dest : Rect) (i j : Nat) : Bool :=
  (b.left && decide (i < b.width)) || (b.right && decide (dest.w - b.width ≤ i)) ||
  (b.top && decide (j < b.width)) || (b.bottom && decide (dest.h - b.width ≤ j))

/-- The colour of the border at (i, j), if it covers that pixel. -/
def WindowRecord.borderAt (r : WindowRecord) (i j : Nat) : Option Triple :=
  match r.border with
  | some b => if b.covers r.destination i j then some b.colour else none
  | none => none

/-- R94: one component of a blend. -/
def blendByte (a : Nat) (w b : Byte) : Byte := byteOf ((a * w.toNat + (16 - a) * b.toNat + 8) / 16)

/-- R94. -/
def blend (a : Nat) (w b : Triple) : Triple := ⟨blendByte a w.y b.y, blendByte a w.cb b.cb, blendByte a w.cr b.cr⟩

/-! ### A pixel of the active area (R89, R67) -/

/-- A rectangle contains a pixel. -/
def Rect.has (r : Rect) (x y : Nat) : Bool :=
  decide (r.x ≤ x) && decide (x < r.x + r.w) && decide (r.y ≤ y) && decide (y < r.y + r.h)

/-- Whether a window pixel was not read in time (R67). -/
def DrawnFrame.isMissed (d : DrawnFrame) (p : Position) (x y : Nat) : Bool :=
  d.missed.any fun m => decide (m = (y, ⟨p, x⟩))

/-- What a window makes of the value beneath it at a pixel of its destination (R89, R67). -/
def State.windowPixel (s : State) (h : HeadId) (d : DrawnFrame) (p : Position) (r : WindowRecord)
    (x y : Nat) (beneath : Triple) : Triple :=
  let i := x - r.destination.x
  let j := y - r.destination.y
  match r.borderAt i j with
  | some c => blend r.opacity c beneath
  | none =>
    match s.drawing (s.selectionAt h p).slot r d.background with
    | .flat c => blend r.opacity c beneath
    | .stored base width region =>
      if d.isMissed p x y then d.background
      else blend r.opacity (s.drawnColour (.stored base width region) r.destination i j) beneath

/-- R89: the window at a position, if it is on this layer and covers the pixel. -/
def State.layerPixel (s : State) (h : HeadId) (d : DrawnFrame) (x y layer : Nat) (beneath : Triple)
    (p : Position) : Triple :=
  match (s.head h).activeScene[p] with
  | some r =>
    if r.layer = layer ∧ r.destination.has x y = true then s.windowPixel h d p r x y beneath else beneath
  | none => beneath

/-- R89: the background, and the windows over it in ascending order of layer. -/
def State.composed (s : State) (h : HeadId) (d : DrawnFrame) (x y : Nat) : Triple :=
  (List.range 16).foldl (fun c layer => positions.foldl (s.layerPixel h d x y layer) c) d.background

/-- R114: the value of pixel (sx, sy) of a SPRITE. -/
def Shape.valueAt (sh : Shape) (sx sy : Nat) : Nat :=
  (byteAt sh.bytes (sy * (sh.width / 4) + sx / 4)).toNat / 4 ^ (3 - sx % 4) % 4

/-- Table 7-3: a cursor pixel over a composed value. -/
def cursorValue (d : DrawnFrame) (v : Nat) (c : Triple) : Triple :=
  if v = 1 then d.colourA
  else if v = 2 then d.colourB
  else if v = 3 then ⟨255 - c.y, 255 - c.cb, 255 - c.cr⟩
  else c

/-- R139: the cursor over the composed picture. -/
def cursorOver (c : Cursor) (d : DrawnFrame) (x y : Nat) (value : Triple) : Triple :=
  match c.front with
  | none => value
  | some sh =>
    let sx := (x : Int) - c.x
    let sy := (y : Int) - c.y
    if d.cursorVisible = true ∧ 0 ≤ sx ∧ sx < sh.width ∧ 0 ≤ sy ∧ sy < sh.height then
      cursorValue d (sh.valueAt sx.toNat sy.toNat) value
    else value

/-- R55, R50, R89, R139: the pixel (x, y) of the active area of the frame a head is drawing. -/
def State.activePixel (s : State) (h : HeadId) (d : DrawnFrame) (x y : Nat) : Triple :=
  if d.muted then d.muteColour else cursorOver (s.head h).cursor d x y (s.composed h d x y)

/-! ### The signal of a head (Figure 3-1, R145, R147) -/

/-- R147: a character as a byte with odd parity in bit 7. -/
def parityByte (c : BitVec 7) : Byte :=
  let ones := ((List.range 7).filter fun k => c.getLsbD k).length
  if ones % 2 = 0 then c.setWidth 8 ||| 0x80 else c.setWidth 8

/-- A byte as cells, bit 7 first. -/
def byteCells (b : Byte) : List Bool := [7, 6, 5, 4, 3, 2, 1, 0].map fun k => b.getLsbD k

/-- Table 8-2: the 32 cells of an ancillary line. -/
def ancCells (p : CharPair) : List Bool :=
  [true, false, true, false, true, false, true, false] ++ [true, true, false, true] ++
  byteCells (parityByte p.first) ++ byteCells (parityByte p.second) ++ [false, false, false, false]

/-- R147: the pixel at period `k` of an ancillary line. Cb and Cr are 128. -/
def ancPixel (t : Timing) (p : CharPair) (k : Nat) : Triple :=
  if (ancCells p).getD (k / (t.activeWidth / 32)) false then ⟨180, 128, 128⟩ else .black

/-- What a head drives at a moment: its syncs, active or not, and its pixel data lines. -/
structure Signal where
  hsync : Bool
  vsync : Bool
  pixel : Triple
  deriving DecidableEq, Repr

/-- A head with no timing of its own: syncs inactive, pixel data lines at black (R50). -/
def Signal.idle : Signal := ⟨false, false, .black⟩

/-- Figure 3-1: the signal at pixel period `k` of line `n`, lines counted from 1 at the boundary, of a frame of
`total` lines. The blanking level is black (R147; log entry 18). -/
def State.lineSignal (s : State) (h : HeadId) (t : Timing) (total : Nat) (d : DrawnFrame) (n k : Nat) :
    Signal where
  hsync := decide (t.activeWidth ≤ k) && decide (k < t.activeWidth + 16)
  vsync := decide (n ≤ 3)
  pixel :=
    if t.activeWidth ≤ k then .black
    else if total - t.activeLines < n then s.activePixel h d k (n - (total - t.activeLines) - 1)
    else match (s.head h).anc.contents with
      | some (line, p) => if n = line then ancPixel t p k else .black
      | none => .black

/-- The signal of head `h` (R50, R55). -/
def State.headSignal (s : State) (h : HeadId) (n k : Nat) : Signal :=
  match (s.head h).timing, (s.head h).frameLines, (s.head h).frame with
  | some t, some total, some d => s.lineSignal h t total d n k
  | _, _, _ => .idle

/-! ### FETCH_SHORTFALL (R67, R68) -/

/-- R67, R95: a window pixel of an active line that is read from DRAM: it lies in the window's destination,
outside its border, and the window draws stored pixels. -/
def State.readsPixel (s : State) (h : HeadId) (d : DrawnFrame) (line : Nat) (m : MissedPixel) : Bool :=
  match (s.head h).activeScene[m.position] with
  | none => false
  | some r =>
    r.destination.has m.column line &&
    (r.borderAt (m.column - r.destination.x) (line - r.destination.y)).isNone &&
    match s.drawing (s.selectionAt h m.position).slot r d.background with
    | .stored .. => true
    | .flat _ => false

/-- R67: a shortfall on an active line of a frame drawn composed, one per line; the pixels of it that are
window pixels read from DRAM are replaced. -/
def State.takeShortfall (s : State) (h : HeadId) (line : Nat) (missed : List MissedPixel) : State :=
  match (s.head h).timing, (s.head h).frame with
  | some t, some d =>
    let hit := missed.filter (s.readsPixel h d line)
    if d.muted = false ∧ line < t.activeLines ∧ hit ≠ [] ∧ (d.missed.any fun m => decide (m.1 = line)) = false then
      (s.modHead h fun hd =>
        { hd with
          shortfalls := hd.shortfalls + 1
          frame := some { d with missed := d.missed ++ hit.map fun m => (line, m) } }).raise
        (.fetchShortfall h (s.head h).boundaryCount line)
    else s
  | none, _ => s
  | _, none => s

/-- FETCH_SHORTFALL (R67). -/
def execFetchShortfall (head : HeadId) (line : Nat) (missed : List MissedPixel) (s : State) :
    Host.Outcome State Fault Refusal :=
  .next (whenReady s fun s => s.takeShortfall head line missed)

end Sys2Proof.Machine
end

