-- ==== Sys2Proof/Machine/Device.lean ====
section
/-! DEFINITION. Reset, start-up and the five device requests (chapter 11). -/

namespace Sys2Proof.Machine

/-! ### Reset and start-up (R176, R177) -/

/-- RESET_PIN (R176): the part is held in reset. The straps are sampled at the assertion and again at the
release (log entry 10). -/
def execResetPin (straps : Straps) (s : State) : Host.Outcome State Fault Refusal :=
  .next (s.deviceReset .held .pin straps)

/-- RESET_PIN_RELEASE (R176): start-up begins when the pin is released. -/
def execResetPinRelease (straps : Straps) (s : State) : Host.Outcome State Fault Refusal :=
  .next (if s.isHeld then s.deviceReset .starting .pin straps else s)

/-- The phase that start-up ends in (R177). -/
def phaseAfterTest (failing : Option Nat) : Phase :=
  match failing with
  | none => .ready
  | some a => .faulted a

/-- The result that READY carries (R177). -/
def resultOfTest (failing : Option Nat) : StartUpResult :=
  match failing with
  | none => .ready
  | some _ => .faulted

/-- R177: the DRAM test ends; every byte of DRAM holds a test pattern (log entry 5), and READY is raised. -/
def State.endStartUp (s : State) (failing : Option Nat) : State :=
  { s with
    device := ⟨phaseAfterTest failing, s.device.cause, s.device.boots + 1⟩
    dram := [] }.raise (.ready (resultOfTest failing) s.device.cause)

/-- START_UP_END (R177): taken in STARTING. -/
def execStartUpEnd (failing : Option Nat) (s : State) : Host.Outcome State Fault Refusal :=
  .next (if s.device.phase = .starting then s.endStartUp failing else s)

/-! ### RESET (R176) -/

/-- R176: the processor answers OK and takes no further request; the reset follows when the reply has been
transmitted in full. -/
def resetBody : Body := fun _ s => done (s.modLink fun l => { l with stopped := true })

/-- RESET (R176). -/
def execReset (s : State) : Host.Outcome State Fault Refusal := s.runRequest 0x01 resetBody

/-! ### INFO (R179) -/

/-- The line rate field. -/
def LineRate.byte : LineRate → Byte
  | .rate115200 => 0
  | .rate460800 => 1
  | .rate921600 => 2

/-- The first failing byte, 0 outside FAULTED. -/
def Phase.firstFailing : Phase → Nat
  | .faulted a => a
  | .held => 0
  | .starting => 0
  | .ready => 0

/-- R179: the INFO reply. -/
def infoReply (s : State) : List Byte :=
  leBytes 2 0x0422 ++ [Config.revision, flagByte s.isFaulted, s.link.rate.byte] ++
  leBytes 4 s.device.phase.firstFailing ++ [4, 2, 24, 8, 12, 64] ++ leBytes 2 Config.libraryBlocks ++ [16, 8]

/-- R179: INFO. -/
def infoBody : Body := fun _ s => (.ok (infoReply s), s)

/-- INFO (R179). -/
def execInfo (s : State) : Host.Outcome State Fault Refusal := s.runRequest 0x02 infoBody

/-! ### STATS_READ and STATS_CLEAR (R180, R181) -/

/-- The objects that hold counters. -/
inductive StatsObject where
  | port (p : PortId)
  | head (h : HeadId)
  | link
  deriving DecidableEq, Repr

/-- The object byte: 0x00 to 0x03 a port, 0x10 and 0x11 a head, 0x20 the link (R180). -/
def objectOf (b : Byte) : Option StatsObject :=
  match finOf 4 b with
  | some p => some (.port p)
  | none =>
    if b = 0x10 then some (.head 0) else if b = 0x11 then some (.head 1)
    else if b = 0x20 then some .link else none

/-- The counters of an object (R180). -/
def counterBytes (s : State) : StatsObject → List Byte
  | .port p => (s.port p).counters.bytes
  | .head h => headCounterBytes (s.head h)
  | .link => s.link.counters.bytes

/-- R181: the four counters and the twelve repeat counts of a head at 0. -/
def Head.cleared (hd : Head) : Head :=
  { hd with
    boundaries := 0
    shortfalls := 0
    anc := { hd.anc with sent := 0, defaults := 0 }
    selection := hd.selection.map fun v => { v with repeats := 0 } }

/-- R181: the counters of an object at 0. -/
def State.clearCounters (s : State) : StatsObject → State
  | .port p => s.modPort p fun q => { q with counters := .zero }
  | .head h => s.modHead h Head.cleared
  | .link => s.countLink fun _ => .zero

/-- R180: STATS_READ(object). -/
def statsReadBody : Body := fun bs s =>
  match objectOf (byteAt bs 0) with
  | some o => (.ok (byteAt bs 0 :: counterBytes s o), s)
  | none => refuse .badValue s

/-- STATS_READ (R180). -/
def execStatsRead (s : State) : Host.Outcome State Fault Refusal := s.runRequest 0x03 statsReadBody

/-- R181: STATS_CLEAR(object): the reply carries the counters from before the clearing. -/
def statsClearBody : Body := fun bs s =>
  match objectOf (byteAt bs 0) with
  | some o => (.ok (byteAt bs 0 :: counterBytes s o), s.clearCounters o)
  | none => refuse .badValue s

/-- STATS_CLEAR (R181). -/
def execStatsClear (s : State) : Host.Outcome State Fault Refusal := s.runRequest 0x04 statsClearBody

/-! ### ECHO (R182) -/

/-- R182: ECHO. -/
def echoBody : Body := fun bs s => (.ok bs, s)

/-- ECHO (R182). -/
def execEcho (s : State) : Host.Outcome State Fault Refusal := s.runRequest 0x05 echoBody

end Sys2Proof.Machine
end

