-- ==== Sys2Proof/Machine/Dispatch.lean ====
section
/-! DEFINITION. The dispatch: one arm for each row of spec/opcode_table.json, in the table's order. -/

namespace Sys2Proof.Machine

def exec (i : Instr) (s : State) : Host.Outcome State Fault Refusal :=
  match i with
  | .resetPin straps => Sys2Proof.Machine.execResetPin straps s
  | .resetPinRelease straps => Sys2Proof.Machine.execResetPinRelease straps s
  | .startUpEnd failing => Sys2Proof.Machine.execStartUpEnd failing s
  | .start port level width lines time => Sys2Proof.Machine.execStart port level width lines time s
  | .fillEnd port pixels => Sys2Proof.Machine.execFillEnd port pixels s
  | .lossTimerExpiry port => Sys2Proof.Machine.execLossTimerExpiry port s
  | .captureOn => Sys2Proof.Machine.execCaptureOn s
  | .captureOff => Sys2Proof.Machine.execCaptureOff s
  | .portDepth => Sys2Proof.Machine.execPortDepth s
  | .portFlush => Sys2Proof.Machine.execPortFlush s
  | .portReset => Sys2Proof.Machine.execPortReset s
  | .portStatus => Sys2Proof.Machine.execPortStatus s
  | .pinTake => Sys2Proof.Machine.execPinTake s
  | .pinRelease => Sys2Proof.Machine.execPinRelease s
  | .storeStatus => Sys2Proof.Machine.execStoreStatus s
  | .frameBoundary head time => Sys2Proof.Machine.execFrameBoundary head time s
  | .fetchShortfall head line missed => Sys2Proof.Machine.execFetchShortfall head line missed s
  | .followLoss head => Sys2Proof.Machine.execFollowLoss head s
  | .headTiming => Sys2Proof.Machine.execHeadTiming s
  | .headOn => Sys2Proof.Machine.execHeadOn s
  | .headOff => Sys2Proof.Machine.execHeadOff s
  | .headMute => Sys2Proof.Machine.execHeadMute s
  | .headBackground => Sys2Proof.Machine.execHeadBackground s
  | .headFollow => Sys2Proof.Machine.execHeadFollow s
  | .headStatus => Sys2Proof.Machine.execHeadStatus s
  | .scenePut => Sys2Proof.Machine.execScenePut s
  | .sceneRemove => Sys2Proof.Machine.execSceneRemove s
  | .sceneRestart => Sys2Proof.Machine.execSceneRestart s
  | .sceneRead => Sys2Proof.Machine.execSceneRead s
  | .scenePresent => Sys2Proof.Machine.execScenePresent s
  | .libOpen => Sys2Proof.Machine.execLibOpen s
  | .libData => Sys2Proof.Machine.execLibData s
  | .libClose => Sys2Proof.Machine.execLibClose s
  | .verifyResult => Sys2Proof.Machine.execVerifyResult s
  | .inactivityTimerExpiry id => Sys2Proof.Machine.execInactivityTimerExpiry id s
  | .libDelete => Sys2Proof.Machine.execLibDelete s
  | .libList => Sys2Proof.Machine.execLibList s
  | .libSpace => Sys2Proof.Machine.execLibSpace s
  | .cursorShape => Sys2Proof.Machine.execCursorShape s
  | .jobStart => Sys2Proof.Machine.execJobStart s
  | .shapeLoadCompletion => Sys2Proof.Machine.execShapeLoadCompletion s
  | .cursorMove => Sys2Proof.Machine.execCursorMove s
  | .cursorShow => Sys2Proof.Machine.execCursorShow s
  | .cursorPalette => Sys2Proof.Machine.execCursorPalette s
  | .ancConfig => Sys2Proof.Machine.execAncConfig s
  | .ancPush => Sys2Proof.Machine.execAncPush s
  | .ancFlush => Sys2Proof.Machine.execAncFlush s
  | .ancStatus => Sys2Proof.Machine.execAncStatus s
  | .reset => Sys2Proof.Machine.execReset s
  | .info => Sys2Proof.Machine.execInfo s
  | .statsRead => Sys2Proof.Machine.execStatsRead s
  | .statsClear => Sys2Proof.Machine.execStatsClear s
  | .echo => Sys2Proof.Machine.execEcho s
  | .unknownCommand => Sys2Proof.Machine.execUnknownCommand s
  | .request byte => Sys2Proof.Machine.execRequest byte s
  | .noticeAck byte => Sys2Proof.Machine.execNoticeAck byte s
  | .unknownKindFrame byte => Sys2Proof.Machine.execUnknownKindFrame byte s
  | .lengthError byte => Sys2Proof.Machine.execLengthError byte s
  | .crcError byte => Sys2Proof.Machine.execCrcError byte s
  | .gapError => Sys2Proof.Machine.execGapError s
  | .transmitBegin => Sys2Proof.Machine.execTransmitBegin s
  | .transmitComplete straps => Sys2Proof.Machine.execTransmitComplete straps s
  | .resendTimerExpiry => Sys2Proof.Machine.execResendTimerExpiry s
  | .receivedByte byte => Sys2Proof.Machine.execReceivedByte byte s

end Sys2Proof.Machine
end

