-- ==== Sys2Proof/Safety.lean ====
section
/-! DEFINITION. What counts as a safe run, and the terms in which statements speak of the state: which parts of
it a command changes, and what holds of it after every command. -/

namespace Sys2Proof

open Machine

/-- A step is safe when it answers a next state: the part has no event that stops it. -/
def SafeStep (s : State) : Prop := ∃ t, step s = .next t

namespace Machine

/-! ### Frames -/

/-- The parts of the state. -/
inductive Part where
  | device
  | link
  | notices
  | pool
  | ports
  | heads
  | library
  | loader
  | dram
  | pending
  deriving DecidableEq, Repr

/-- A part is the same in two states. -/
def Part.same (s t : State) : Part → Prop
  | .device => t.device = s.device
  | .link => t.link = s.link
  | .notices => t.notices = s.notices
  | .pool => t.pool = s.pool
  | .ports => t.ports = s.ports
  | .heads => t.heads = s.heads
  | .library => t.library = s.library
  | .loader => t.loader = s.loader
  | .dram => t.dram = s.dram
  | .pending => t.pending = s.pending

/-- Every part but those named is unchanged from `s` to `t`. -/
def OnlyChanges (parts : List Part) (s t : State) : Prop := ∀ p, p ∉ parts → p.same s t

/-! ### Taking and answering a request -/

/-- The part is ready, the processor runs, and `r` is its oldest admitted request, with this code. -/
structure Takes (s : State) (r : Request) (rest : List Request) (code : Byte) : Prop where
  ready : s.device.phase = .ready
  runs : s.link.stopped = false
  oldest : s.link.requestQueue = r :: rest
  code : r.code = code

/-- What answering request `r` does to the link: the request leaves the queue and its reply joins the tail of
the reply line (R161). -/
def Answers (s t : State) (r : Request) (rest : List Request) (rep : Reply) : Prop :=
  t.link = { s.link with
    requestQueue := rest
    replyLine := s.link.replyLine ++ [⟨.posted r.crc, r.tag, r.code, rep⟩] }

/-- The command answers a next state in which request `r` is answered with `rep`, nothing has changed but the
link and the named parts, and `after` holds. -/
def Performs (c : Instr) (s : State) (r : Request) (rest : List Request) (rep : Reply) (parts : List Part)
    (after : State → Prop) : Prop :=
  ∃ t, exec c s = .next t ∧ Answers s t r rest rep ∧ OnlyChanges (.link :: parts) s t ∧ after t

/-- The command answers a next state in which request `r` is refused with status `st` and an empty payload, and
nothing else has changed. -/
def Refuses (c : Instr) (s : State) (r : Request) (rest : List Request) (st : Status) : Prop :=
  Performs c s r rest (.refuse st) [] fun _ => True

/-- `Performs`, where the reply carries a report taken after the request's own change (R140, R149). -/
def PerformsReporting (c : Instr) (s : State) (r : Request) (rest : List Request) (st : Status)
    (report : State → List Byte) (parts : List Part) (after : State → Prop) : Prop :=
  ∃ t, exec c s = .next t ∧ Answers s t r rest ⟨st, report t⟩ ∧ OnlyChanges (.link :: parts) s t ∧ after t

/-- `Takes`, in the ready state or in FAULTED, which both serve INFO, RESET, STATS_READ and ECHO (R178). -/
structure TakesServed (s : State) (r : Request) (rest : List Request) (code : Byte) : Prop where
  served : s.device.phase = .ready ∨ ∃ a, s.device.phase = .faulted a
  runs : s.link.stopped = false
  oldest : s.link.requestQueue = r :: rest
  code : r.code = code

/-- The code of Table 11-5 that the command of a request executes; none for the other commands. -/
def requestCode : Instr → Option Byte
  | .reset => some 0x01
  | .info => some 0x02
  | .statsRead => some 0x03
  | .statsClear => some 0x04
  | .echo => some 0x05
  | .captureOn => some 0x10
  | .captureOff => some 0x10
  | .portDepth => some 0x11
  | .portFlush => some 0x12
  | .portReset => some 0x13
  | .portStatus => some 0x14
  | .pinTake => some 0x18
  | .pinRelease => some 0x19
  | .storeStatus => some 0x1A
  | .scenePut => some 0x20
  | .sceneRemove => some 0x21
  | .sceneRestart => some 0x22
  | .sceneRead => some 0x23
  | .scenePresent => some 0x24
  | .headTiming => some 0x30
  | .headOn => some 0x31
  | .headOff => some 0x32
  | .headMute => some 0x33
  | .headBackground => some 0x34
  | .headFollow => some 0x35
  | .headStatus => some 0x36
  | .libOpen => some 0x40
  | .libData => some 0x41
  | .libClose => some 0x42
  | .libDelete => some 0x43
  | .libList => some 0x44
  | .libSpace => some 0x45
  | .cursorShape => some 0x50
  | .cursorMove => some 0x51
  | .cursorShow => some 0x52
  | .cursorPalette => some 0x53
  | .ancConfig => some 0x58
  | .ancPush => some 0x59
  | .ancFlush => some 0x5A
  | .ancStatus => some 0x5B
  | .resetPin _ => none
  | .resetPinRelease _ => none
  | .startUpEnd _ => none
  | .start .. => none
  | .fillEnd .. => none
  | .lossTimerExpiry _ => none
  | .frameBoundary .. => none
  | .fetchShortfall .. => none
  | .followLoss _ => none
  | .verifyResult => none
  | .inactivityTimerExpiry _ => none
  | .jobStart => none
  | .shapeLoadCompletion => none
  | .unknownCommand => none
  | .request _ => none
  | .noticeAck _ => none
  | .unknownKindFrame _ => none
  | .lengthError _ => none
  | .crcError _ => none
  | .gapError => none
  | .transmitBegin => none
  | .transmitComplete _ => none
  | .resendTimerExpiry => none
  | .receivedByte _ => none

/-- Whether a request's first payload byte names a head: the scene, head, cursor and inserter requests. -/
def codeNamesHead (code : Byte) : Bool :=
  (decide (0x20 ≤ code.toNat) && decide (code.toNat ≤ 0x24)) ||
  (decide (0x30 ≤ code.toNat) && decide (code.toNat ≤ 0x36)) ||
  (decide (0x50 ≤ code.toNat) && decide (code.toNat ≤ 0x5B))

/-! ### Reset -/

/-- Every block stands at its reset values, with the line rate that the straps give. -/
def AtReset (straps : Straps) (s : State) : Prop :=
  s.link = .reset (lineRate straps) ∧ s.notices = .reset ∧ s.pool = .reset ∧
  s.ports = State.reset.ports ∧ s.heads = State.reset.heads ∧ s.library = .reset ∧ s.loader = .reset

/-! ### Reception -/

/-- One byte arriving at the receiver, whatever it does to a frame (R154, R155): the six commands of the
receiver in one. -/
def State.receive (s : State) (b : Byte) : State :=
  match byteEvent s.link.receiver b with
  | .goesOn r => s.setReceiver r
  | .lengthError bs => State.examineAgain 0 bs (s.setReceiver .hunt).countLengthError
  | .crcError bs => State.examineAgain 0 bs (s.setReceiver .hunt).countCrcError
  | .good f => (s.setReceiver .hunt).takeFrame f

/-! ### Reading the state -/

/-- The byte of DRAM at an address reads alike in two states. -/
def SameByte (s t : State) (a : DramAddress) : Prop := t.dramByte a = s.dramByte a

/-- The slot a writer is filling. -/
def Writer.slot : Writer → Option SlotId
  | .off => none
  | .armed => none
  | .filling _ i _ => some i

/-- The source in whose ready list a slot stands. -/
def Slot.readySource : Slot → Option PortId
  | .free => none
  | .filling _ _ => none
  | .ready f => some f.source
  | .held _ => none

/-- The port that a slot is filled for. -/
def Slot.fillingPort : Slot → Option PortId
  | .free => none
  | .filling p _ => some p
  | .ready _ => none
  | .held _ => none

/-- The slots on which references are held: one for each window of either head with a current frame and for
each pin that holds a slot (R16). -/
def State.holds (s : State) : List (Option SlotId) :=
  (headIds.map fun h => positions.map fun p => (s.selectionAt h p).slot).flatten ++ pinIds.map s.pinSlot

/-- The uses of library entries: the records of both scenes of both heads, and the cursor buffers (R124). -/
def Head.uses (hd : Head) : List (Option LibId) :=
  (positions.map fun p => namedAt hd.pendingScene[p]) ++ (positions.map fun p => namedAt hd.activeScene[p]) ++
  [hd.cursor.front.map Shape.id, hd.cursor.back.uses]

/-- Two extents share no block (R115). -/
def Extent.apart (a b : Extent) : Bool := decide (a.stop ≤ b.first) || decide (b.stop ≤ a.first)

/-- An entry owns blocks of the library, and its kind and size are those of Table 6-3. -/
def EntryInfo.legal (e : EntryInfo) : Bool :=
  sizeInRange e.kind e.width e.height && decide (e.firstBlock + e.blockCount ≤ Config.libraryBlocks)

/-- A block of the library is free: it lies in the library and in no entry's extent (R115). -/
def Library.blockFree (l : Library) (n : Nat) : Prop :=
  n < Config.libraryBlocks ∧ ∀ i : LibId, ∀ a ∈ (l.entries[i]).extent?, n < a.first ∨ a.stop ≤ n

/-- `count` blocks from `n` on are free. -/
def Library.runFree (l : Library) (n count : Nat) : Prop := ∀ k, k < count → l.blockFree (n + k)

/-- Whether an entry is VERIFYING. -/
def Entry.isVerifying : Entry → Bool
  | .empty => false
  | .receiving _ _ => false
  | .verifying _ => true
  | .valid _ _ => false

/-- Every port but `p` is unchanged. -/
def OtherPorts (p : PortId) (s t : State) : Prop := ∀ q, q ≠ p → t.port q = s.port q

/-- Every head but `h` is unchanged. -/
def OtherHeads (h : HeadId) (s t : State) : Prop := ∀ g, g ≠ h → t.head g = s.head g

/-- Every directory entry but `i`, and the verify queue, are unchanged. -/
def OtherEntries (i : LibId) (s t : State) : Prop :=
  (∀ j, j ≠ i → t.entry j = s.entry j) ∧ t.library.verifyQueue = s.library.verifyQueue

/-- R14, R42: the pool and port `p` after the fill of the port, if any, is aborted; `q` is the port with its
other changes. -/
def AbortsFill (s t : State) (p : PortId) (q : Port) (after : Writer) : Prop :=
  match (s.port p).writer with
  | .filling _ i _ =>
    t.pool = { s.pool with slots := s.pool.slots.set i .free, freeList := s.pool.freeList ++ [i] } ∧
    t.port p = { q with
      writer := after, counters := { q.counters with aborted := q.counters.aborted + 1 } }
  | .off => t.pool = s.pool ∧ t.port p = q
  | .armed => t.pool = s.pool ∧ t.port p = q

/-- R65: a follow loss has arisen at each head in PULLING or FOLLOWING whose follow source is port `p`, and nothing
else of a head has changed. The loss is due with the latest frame start that the port had while it was usable; it is
overdue when there was none, or when an earlier loss has not been taken. -/
def FollowLossesArise (s t : State) (p : PortId) : Prop :=
  ∀ h, ∃ loss : FollowLoss,
    (t.head h = if (s.head h).follow.source = some p ∧ (s.head h).follow.state ≠ .freeRun then
      { s.head h with follow := { (s.head h).follow with loss := loss } }
    else s.head h) ∧
    (∀ start, (s.head h).follow.loss = .clear → (s.port p).startedSinceLock = true →
      (s.port p).latestFrameStart = some start → loss = .due start) ∧
    ((s.head h).follow.loss ≠ .clear ∨ (s.port p).startedSinceLock = false ∨
      (s.port p).latestFrameStart = none → loss = .overdue)

/-- R65: the follow loss of head `h` comes before its next boundary: it is overdue, or the detector of the source has
locked again since it arose. -/
def State.LossComesFirst (s : State) (h : HeadId) : Prop :=
  match (s.head h).follow.loss with
  | .clear => False
  | .due _ => ∃ p l, (s.head h).follow.source = some p ∧ (s.port p).detector = .locked l
  | .overdue => True

/-- R65: rate follow of head `h` as its next boundary finds it: in FREE_RUN where a loss comes first. -/
def State.BoundaryFinds (s : State) (h : HeadId) (f : Follow) : Prop :=
  (s.LossComesFirst h → f = { (s.head h).follow with state := .freeRun, runCount := 0, loss := .clear }) ∧
  (¬ s.LossComesFirst h → f = (s.head h).follow)

/-- R62: port `p` is usable as a follow source, and `start` is its latest frame start. -/
def State.UsableSource (s : State) (p : PortId) (start : Time) : Prop :=
  (∃ l, (s.port p).detector = .locked l) ∧ (s.port p).startedSinceLock = true ∧
  (s.port p).latestFrameStart = some start

/-- A slot record after its eviction or flush (R7, R8). -/
def Slot.retired : Slot → Slot
  | .ready f => if f.refs = 0 then .free else .held f
  | .free => .free
  | .filling p g => .filling p g
  | .held f => .held f

/-- R7, R8: the frames of the slots `out` have left the ready list of port `p`, oldest first; no other slot,
ready list or pin has changed. -/
def Retires (s t : State) (p : PortId) (out : List SlotId) : Prop :=
  (∀ i ∈ out, t.slot i = (s.slot i).retired) ∧ (∀ i, i ∉ out → t.slot i = s.slot i) ∧
  t.pool.freeList = s.pool.freeList ++ out.filter (fun i => decide ((s.slot i).refs = 0)) ∧
  (∀ q, q ≠ p → t.readyList q = s.readyList q) ∧ t.pool.pins = s.pool.pins

/-- A slot record after the release of one reference (R18). -/
def Slot.released : Slot → Slot
  | .ready f => .ready { f with refs := f.refs - 1 }
  | .held f => if f.refs ≤ 1 then .free else .held { f with refs := f.refs - 1 }
  | .free => .free
  | .filling p g => .filling p g

/-- R18: whether the release of one reference frees a slot. -/
def Slot.freedByRelease : Slot → Bool
  | .ready _ => false
  | .held f => decide (f.refs ≤ 1)
  | .free => false
  | .filling _ _ => false

/-- R18, R56: the slots that become FREE as the references on `held` are released one after another, in the order in
which they do: each at the release, the k-th of its slot, that takes its last reference. -/
def State.freedInOrder (s : State) (held : List SlotId) : List SlotId :=
  (held.zipIdx.filter fun x =>
    (Nat.iterate Slot.released ((held.take x.2).count x.1) (s.slot x.1)).freedByRelease).map Prod.fst

/-- The geometry that a slot record holds. -/
def Slot.geometry? : Slot → Option Geometry
  | .free => none
  | .filling _ g => some g
  | .ready f => some f.geometry
  | .held f => some f.geometry

/-- A start at which the detector of port `p` is LOCKED, with locked measurement `m`, once the measurement has
been taken (R37). -/
structure LockedStart (s : State) (p : PortId) (level : FieldLevel) (width : Option Nat) (lines : Nat)
    (time : Time) (m : Measurement) : Prop where
  ready : s.device.phase = .ready
  locked : (s.port p).detector.measured ((s.port p).measure level width lines time) = .locked m

/-- Port `p` after a locked start that is not numbered, apart from its writer (R28, R37). -/
def Port.afterLockedStart (q : Port) (level : FieldLevel) (m latest : Measurement) (time : Time) : Port :=
  { q with
    detector := .locked m
    startHistory := (level :: q.startHistory).take 2
    latest := some latest
    lastStart := time
    startedSinceLock := q.startedSinceLock && q.detector.isLocked }

/-- The notice queue after a start that leaves the detector LOCKED with measurement `m` (R35). -/
def State.noticesAfterLock (s : State) (p : PortId) (m : Measurement) : NoticeQueue :=
  if (s.port p).detector.isLocked then s.notices else s.notices.raise (.inputState p .locked (some m))

/-- A head in RUNNING or MUTED, in the ready state, with timing record `t₀`: it takes its boundaries. -/
structure Draws (s : State) (h : HeadId) (t₀ : Timing) : Prop where
  ready : s.device.phase = .ready
  on : (s.head h).state ≠ .off
  timing : (s.head h).timing = some t₀

/-- A byte at which the receiver completes a good frame, with the reset pin not asserted (R154). -/
structure Completes (s : State) (b : Byte) (f : Frame) : Prop where
  running : s.device.phase ≠ .held
  good : byteEvent s.link.receiver b = .good f

/-- R158: the link after an immediate answer: the answer joins the reply line and is counted, unless four are
pending; then the request is discarded and counted. -/
def Link.answered (l : Link) (e : ReplyEntry) (count : LinkCounters → LinkCounters) : Link :=
  if l.pendingAnswers < 4 then { l with replyLine := l.replyLine ++ [e], counters := count l.counters }
  else { l with counters := { l.counters with discarded := l.counters.discarded + 1 } }

/-- The link after a good frame: the receiver in HUNT and the frame counted (R154, R156). -/
def Link.afterGood (l : Link) : Link :=
  { l with receiver := .hunt, counters := { l.counters with goodFrames := l.counters.goodFrames + 1 } }

/-! ### The layouts of Tables 11-9 and 11-10 -/

/-- A flag field (R183). -/
def flagField (b : Bool) : Byte := if b then 1 else 0

/-- An optional item of `width` bytes behind its presence byte; an absent one is sent as zeros (R183). -/
def optionalField (width : Nat) (item : Option (List Byte)) : List Byte :=
  match item with
  | none => List.replicate (width + 1) 0
  | some bytes => 1 :: bytes

/-- Three bytes Y, Cb, Cr (R183). -/
def colourField (c : Triple) : List Byte := [c.y, c.cb, c.cr]

/-- A signed quantity, 2 bytes in two's complement (R183). -/
def signedField (i : Int) : List Byte := leBytes 2 (i % 65536).toNat

/-- A library id, 1 to 64 (R112). -/
def idField (i : LibId) : Byte := byteOf (i.val + 1)

/-- A measurement, 10 bytes with its presence byte (R184). -/
def measurementField (m : Option Measurement) : List Byte :=
  optionalField 9 (m.map fun m =>
    leBytes 2 m.width ++ leBytes 2 m.lines ++ leBytes 4 m.period ++ [flagField m.interlaced])

/-- PORT_STATUS: its 79 bytes. -/
def portLayout (q : Port) (readyLength : Nat) : List Byte :=
  (match q.detector with
    | .noSignal => [0] ++ measurementField none ++ measurementField q.latest ++ measurementField none ++ [0, 0]
    | .acquiring r k o =>
      [1] ++ measurementField none ++ measurementField q.latest ++ measurementField r ++ [byteOf k, byteOf o]
    | .locked m =>
      [2] ++ measurementField (some m) ++ measurementField q.latest ++ measurementField none ++ [0, 0]
    | .unsupported =>
      [3] ++ measurementField none ++ measurementField q.latest ++ measurementField none ++ [0, 0]) ++
  (match q.writer with
    | .off => [0] ++ List.replicate 10 0
    | .armed => [1] ++ List.replicate 10 0
    | .filling .progressive i n => [2, 1, byteOf i.val] ++ leBytes 8 n.toNat
    | .filling .first i n => [3, 1, byteOf i.val] ++ leBytes 8 n.toNat
    | .filling .await i n => [4, 1, byteOf i.val] ++ leBytes 8 n.toNat
    | .filling .second i n => [5, 1, byteOf i.val] ++ leBytes 8 n.toNat) ++
  leBytes 8 q.frameNumber.toNat ++ [byteOf q.depth, byteOf readyLength, flagField q.starved] ++
  leBytes 4 q.counters.seen.toNat ++ leBytes 4 q.counters.captured.toNat ++ leBytes 4 q.counters.skipped.toNat ++
  leBytes 4 q.counters.aborted.toNat ++ leBytes 4 q.counters.dropped.toNat ++
  leBytes 4 q.counters.reclaimed.toNat

/-- The fields of a slot that holds a frame, behind its state. -/
def frameLayout (f : StoredFrame) : List Byte :=
  [byteOf f.source.val] ++ leBytes 8 f.number.toNat ++ leBytes 2 f.geometry.width ++ leBytes 2 f.geometry.height ++
  [flagField f.geometry.interlaced, byteOf f.refs, flagField f.shown]

/-- A slot record: its 17 bytes. -/
def slotLayout (slot : Slot) : List Byte :=
  match slot with
  | .free => List.replicate 17 0
  | .filling p g => [1, byteOf p.val] ++ List.replicate 8 0 ++ leBytes 2 g.width ++ leBytes 2 g.height ++
      [flagField g.interlaced, 0, 0]
  | .ready f => 2 :: frameLayout f
  | .held f => 3 :: frameLayout f

/-- A pin entry: its 11 bytes. -/
def pinLayout (pin : Option PinEntry) : List Byte :=
  optionalField 10 (pin.map fun e => [byteOf e.slot.val, byteOf e.source.val] ++ leBytes 8 e.number.toNat)

/-- A list of slots behind its length. -/
def listLayout (l : List SlotId) : List Byte := byteOf l.length :: l.map fun i => byteOf i.val

/-- STORE_STATUS, section 2. -/
def listsLayout (s : State) : List Byte :=
  [2] ++ listLayout s.pool.freeList ++
  (([0, 1, 2, 3] : List PortId).map fun p => byteOf (s.port p).depth :: listLayout (s.readyList p)).flatten ++
  (([0, 1, 2, 3, 4, 5, 6, 7] : List PinId).map fun i => pinLayout (s.pin i)).flatten

/-- HEAD_STATUS: its 36 bytes. -/
def headLayout (hd : Head) : List Byte :=
  (match hd.state with
    | .off => [0]
    | .running => [1]
    | .muted => [2]) ++
  [flagField hd.presentPending] ++
  optionalField 12 (hd.timing.map fun t => leBytes 2 t.activeWidth ++ leBytes 2 t.activeLines ++
    leBytes 2 t.totalWidth ++ leBytes 2 t.totalLines ++ leBytes 4 t.pixelClock) ++
  leBytes 4 hd.boundaryCount.toNat ++ optionalField 2 (hd.frameLines.map (leBytes 2)) ++
  colourField hd.background ++ colourField hd.muteColour ++
  (match hd.follow.source with
    | none => [255]
    | some p => [byteOf p.val]) ++
  [byteOf hd.follow.window, byteOf hd.follow.lead] ++
  (match hd.follow.state with
    | .freeRun => [0]
    | .pulling => [1]
    | .following => [2]) ++
  [byteOf hd.follow.runCount] ++
  optionalField 2 (hd.follow.phaseError.map signedField)

/-- The selection state behind a record of the active scene: its 23 bytes (Table 11-7, note 2). -/
def selectionLayout (v : Selection) : List Byte :=
  optionalField 9 (v.current.map fun c => [byteOf c.slot.val] ++ leBytes 8 c.number.toNat) ++
  optionalField 8 (v.lastShown.map fun n => leBytes 8 n.toNat) ++ leBytes 4 v.repeats.toNat

/-- LIB_LIST behind the state: kind, width, height, byte total, check, first block, block count. -/
def infoLayout (e : EntryInfo) : List Byte :=
  (match e.kind with
    | .image => [0]
    | .sprite => [1]) ++
  leBytes 2 e.width ++ leBytes 2 e.height ++ leBytes 4 e.byteTotal ++ leBytes 4 e.check.toNat ++
  leBytes 2 e.firstBlock ++ leBytes 2 e.blockCount

/-- LIB_LIST: its 24 bytes. The place in the verify queue is 0 for the entry that the engine works on, 1 for one
that waits behind it (R126). -/
def entryLayout (s : State) (i : LibId) : List Byte :=
  (match s.entry i with
    | .empty => List.replicate 23 0
    | .receiving e n => [1] ++ infoLayout e ++ leBytes 4 n ++ [0]
    | .verifying e => [2] ++ infoLayout e ++ leBytes 4 e.byteTotal ++ [0]
    | .valid e uses => [3] ++ infoLayout e ++ leBytes 4 e.byteTotal ++ [byteOf uses]) ++
  [if i ∈ s.library.verifyQueue.drop 1 then 1 else 0]

/-- The cursor report: its 24 bytes. -/
def cursorLayout (s : State) (h : HeadId) (c : Cursor) : List Byte :=
  [flagField c.visible] ++ signedField c.x ++ signedField c.y ++
  optionalField 4 (c.pendingPosition.map fun q => signedField q.1 ++ signedField q.2) ++
  colourField c.colourA ++ colourField c.colourB ++ optionalField 1 (c.front.map fun sh => [idField sh.id]) ++
  (match c.back with
    | .empty => [0, 0]
    | .loading i => [1, idField i]
    | .loaded sh => [2, idField sh.id]) ++
  (match s.loader.job.filter (fun e => decide (e.1 = h)), s.loader.queue.find? fun e => decide (e.1 = h) with
    | some e, _ => [2, idField e.2]
    | none, some e => [1, idField e.2]
    | none, none => [0, 0]) ++
  optionalField 1 (c.waiting.map fun i => [idField i])

/-- The inserter report: its 17 bytes. -/
def inserterLayout (a : Ancillary) : List Byte :=
  [flagField a.enable, byteOf a.line, a.defaultPair.first.setWidth 8, a.defaultPair.second.setWidth 8,
    byteOf a.lowMark, byteOf a.queue.length, byteOf (32 - a.queue.length)] ++
  (match a.queue with
    | [] => [0, 0]
    | pair :: _ => [pair.first.setWidth 8, pair.second.setWidth 8]) ++
  leBytes 4 a.sent.toNat ++ leBytes 4 a.defaults.toNat

/-! ### The layouts of R180 and of Tables 10-4, 11-7 and 11-8 -/

/-- The six counters of a port (R180). -/
def portCountersLayout (q : Port) : List Byte :=
  leBytes 4 q.counters.seen.toNat ++ leBytes 4 q.counters.captured.toNat ++ leBytes 4 q.counters.skipped.toNat ++
  leBytes 4 q.counters.aborted.toNat ++ leBytes 4 q.counters.dropped.toNat ++ leBytes 4 q.counters.reclaimed.toNat

/-- The four counters and the twelve repeat counts of a head, a repeat count of an absent position being 0 (R180). -/
def headCountersLayout (hd : Head) : List Byte :=
  leBytes 4 hd.boundaries.toNat ++ leBytes 4 hd.shortfalls.toNat ++ leBytes 4 hd.anc.sent.toNat ++
  leBytes 4 hd.anc.defaults.toNat ++
  (positions.map fun p => leBytes 4 (if hd.activeScene[p].isSome then hd.selection[p].repeats.toNat else 0)).flatten

/-- The nine counters of the link (R180). -/
def linkCountersLayout (c : LinkCounters) : List Byte :=
  leBytes 4 c.goodFrames.toNat ++ leBytes 4 c.crcErrors.toNat ++ leBytes 4 c.lengthErrors.toNat ++
  leBytes 4 c.gapErrors.toNat ++ leBytes 4 c.unknownKinds.toNat ++ leBytes 4 c.queueFull.toNat ++
  leBytes 4 c.discarded.toNat ++ leBytes 4 c.replays.toNat ++ leBytes 4 c.strayAcks.toNat

/-- Table 10-4, Table 11-8: a notice's code, the number of its object (0 for none), and its payload behind the
sequence. -/
def noticeLayout : Notice → Byte × Nat × List Byte
  | .ready result cause => (0x01, 0,
    [(match result with
      | .ready => 0
      | .faulted => 1),
      (match cause with
      | .pin => 0
      | .request => 1)])
  | .inputState p st m => (0x02, p.val,
    [byteOf p.val,
      (match st with
      | .noSignal => 0
      | .acquiring => 1
      | .locked => 2
      | .unsupported => 3)] ++ measurementField m)
  | .captureStarved p n => (0x03, p.val, [byteOf p.val] ++ leBytes 8 n.toNat)
  | .captureResumed p n skipped => (0x04, p.val, [byteOf p.val] ++ leBytes 8 n.toNat ++ leBytes 4 skipped.toNat)
  | .scenePresented h count => (0x05, h.val, [byteOf h.val] ++ leBytes 4 count.toNat)
  | .followState h st source error => (0x06, h.val,
    [byteOf h.val,
      (match st with
      | .freeRun => 0
      | .pulling => 1
      | .following => 2),
      (match source with
      | none => 255
      | some p => byteOf p.val)] ++ signedField error)
  | .fetchShortfall h count line => (0x07, h.val, [byteOf h.val] ++ leBytes 4 count.toNat ++ leBytes 2 line)
  | .uploadVerified i e => (0x08, i.val + 1,
    [idField i,
      (match e.kind with
      | .image => 0
      | .sprite => 1)] ++ leBytes 2 e.width ++ leBytes 2 e.height ++ leBytes 2 e.firstBlock ++
      leBytes 2 e.blockCount)
  | .uploadFailed i expected computed => (0x09, i.val + 1,
    [idField i] ++ leBytes 4 expected.toNat ++ leBytes 4 computed.toNat)
  | .uploadAbandoned i received => (0x0A, i.val + 1, [idField i] ++ leBytes 4 received)
  | .shapeShown h i count => (0x0B, h.val, [byteOf h.val, idField i] ++ leBytes 4 count.toNat)
  | .shapeFailed h i => (0x0C, h.val, [byteOf h.val, idField i])
  | .ancLow h level count => (0x0D, h.val, [byteOf h.val, byteOf level] ++ leBytes 4 count.toNat)

/-- A rectangle: x, y, w, h, 2 bytes each. -/
def rectField (r : Rect) : List Byte := leBytes 2 r.x ++ leBytes 2 r.y ++ leBytes 2 r.w ++ leBytes 2 r.h

/-- The on-loss field of Table 11-7. -/
def onLossField : OnLoss → Byte
  | .hold => 1
  | .fallback => 2

/-- Table 11-7, with the fields that the content kind gives: the kind, the content reference, policy, on-loss and
freeze, the fallback and the crop. -/
def recordFields (w : WindowRecord) (kind : Byte) (reference choices : List Byte) (fallback : Option Fallback)
    (crop : Option Rect) : List Byte :=
  [kind, byteOf ((if fallback.isSome then 1 else 0) + (if crop.isSome then 2 else 0) +
    (if w.border.isSome then 4 else 0))] ++
  reference ++ choices ++ [byteOf w.layer, byteOf w.opacity] ++
  (match fallback with
    | none => List.replicate 4 0
    | some (.image i) => [1, idField i, 0, 0]
    | some (.colour c) => [2] ++ colourField c) ++
  (match crop with
    | none => List.replicate 8 0
    | some r => rectField r) ++
  rectField w.destination ++
  (match w.border with
    | none => List.replicate 5 0
    | some b => [byteOf ((if b.left then 1 else 0) + (if b.right then 2 else 0) + (if b.top then 4 else 0) +
        (if b.bottom then 8 else 0)), byteOf b.width] ++ colourField b.colour)

/-- Table 11-7: the 35 bytes of a window record. -/
def recordLayout (w : WindowRecord) : List Byte :=
  match w.content with
  | .live source policy onLoss fallback crop freeze =>
    recordFields w 1 [byteOf source.val, 0, 0]
      [(match policy with
        | .latest => 1
        | .paced => 2), onLossField onLoss, flagField freeze] fallback crop
  | .pin pin onLoss fallback crop => recordFields w 2 [byteOf pin.val, 0, 0] [0, onLossField onLoss, 0] fallback crop
  | .image id crop => recordFields w 3 [idField id, 0, 0] [0, 0, 0] none crop
  | .fill c => recordFields w 4 (colourField c) [0, 0, 0] none none

/-- A record carries crop `c`. -/
def WindowRecord.Crops (w : WindowRecord) (c : Rect) : Prop :=
  (∃ source policy onLoss fallback freeze, w.content = .live source policy onLoss fallback (some c) freeze) ∨
  (∃ pin onLoss fallback, w.content = .pin pin onLoss fallback (some c)) ∨ ∃ id, w.content = .image id (some c)

/-! ### The two CRCs (R121, R153) -/

/-- R153: one byte into the register. -/
def crc16Register (r : BitVec 16) (b : Byte) : BitVec 16 :=
  Nat.iterate (fun r => if r.getLsbD 15 then (r <<< 1) ^^^ 0x1021 else r <<< 1) 8 (r ^^^ (b.setWidth 16 <<< 8))

/-- R121: one byte into the register. -/
def crc32Register (r : BitVec 32) (b : Byte) : BitVec 32 :=
  Nat.iterate (fun r => if r.getLsbD 0 then (r >>> 1) ^^^ 0xEDB88320 else r >>> 1) 8 (r ^^^ b.setWidth 32)

/-! ### The tests of validation (R81, R82) -/

/-- R81: a picture of size w by h scales onto a destination: in each direction the ratio is 1/8 to 4. -/
abbrev RatiosFit (w h : Nat) (dest : Rect) : Prop :=
  (w ≤ 4 * dest.w ∧ dest.w ≤ 8 * w) ∧ (h ≤ 4 * dest.h ∧ dest.h ≤ 8 * h)

/-- R80 to R82: the record `r` at position `p` of a scene fails a test of validation. -/
def State.FailsTest (s : State) (t : Timing) (sc : Scene) (p : Position) (r : WindowRecord) (why : Reason) :
    Prop :=
  match why with
  | .noTiming => False
  | .outside => t.activeWidth < r.destination.x + r.destination.w ∨ t.activeLines < r.destination.y + r.destination.h
  | .scale =>
    (∃ c, r.content.crop = some c ∧ ¬ RatiosFit c.w c.h r.destination) ∨
    ∃ i e, (r.content = .image i none ∨ r.content.fallback = some (.image i)) ∧ (s.entry i).info? = some e ∧
      ¬ RatiosFit e.width e.height r.destination
  | .imageBounds =>
    ∃ i c e, r.content = .image i (some c) ∧ (s.entry i).info? = some e ∧
      (e.width < c.x + c.w ∨ e.height < c.y + c.h)
  | .overlap =>
    ∃ q o, q < p ∧ sc[q] = some o ∧ o.layer = r.layer ∧
      r.destination.x < o.destination.x + o.destination.w ∧ o.destination.x < r.destination.x + r.destination.w ∧
      r.destination.y < o.destination.y + o.destination.h ∧ o.destination.y < r.destination.y + r.destination.h

/-! ### A pixel of a window (R90, R91, R93) -/

/-- R93: a border takes the pixel (i, j), counted from the destination's top-left corner. -/
abbrev Border.Takes (b : Border) (dest : Rect) (i j : Nat) : Prop :=
  (b.left = true ∧ i < b.width) ∨ (b.right = true ∧ dest.w ≤ i + b.width) ∨
  (b.top = true ∧ j < b.width) ∨ (b.bottom = true ∧ dest.h ≤ j + b.width)

/-- R91: the stored pixel that a region gives to pixel (i, j) of a destination. The picture's first byte is at
`base` and its lines are `width` pixels of 2 bytes; the chroma is that of the even-aligned pair. -/
def State.sampled (s : State) (base width : Nat) (region dest : Rect) (i j : Nat) : Triple :=
  let column := region.x + i * region.w / dest.w
  let line := region.y + j * region.h / dest.h
  ⟨s.dramByte (BitVec.ofNat 26 (base + 2 * (line * width + column))),
    s.dramByte (BitVec.ofNat 26 (base + 2 * (line * width + 2 * (column / 2)) + 1)),
    s.dramByte (BitVec.ofNat 26 (base + 2 * (line * width + 2 * (column / 2)) + 3))⟩

/-- R90, R91: pixel (i, j) of a library image, or of a region of it, drawn over a destination. -/
def State.imagePixel (s : State) (e : EntryInfo) (region : Option Rect) (dest : Rect) (i j : Nat) : Triple :=
  s.sampled (44236800 + 4096 * e.firstBlock) e.width (region.getD ⟨0, 0, e.width, e.height⟩) dest i j

/-- R92: pixel (i, j) of a fallback over a destination. -/
def State.fallbackPixel (s : State) (fallback : Option Fallback) (background : Triple) (dest : Rect)
    (i j : Nat) : Triple :=
  match fallback with
  | none => background
  | some (.colour c) => c
  | some (.image id) =>
    match (s.entry id).info? with
    | some e => s.imagePixel e none dest i j
    | none => background

/-! ### What holds after every command -/

/-- Memory keeps its canonical form. -/
abbrev MemoryOk (s : State) : Prop := Memory.wf s.dram

/-- R2, R4, R5, R25, R38: the free list holds exactly the FREE slots, each ready list exactly the READY slots
of its source and at most the hold depth of them, none twice, and a slot is FILLING for a port exactly when the
port's writer fills it. -/
abbrev PoolOk (s : State) : Prop :=
  s.pool.freeList.Nodup ∧
  (∀ i : SlotId, i ∈ s.pool.freeList ↔ s.slot i = .free) ∧
  (∀ p : PortId, (s.readyList p).Nodup ∧ (s.readyList p).length ≤ (s.port p).depth ∧
    1 ≤ (s.port p).depth ∧ (s.port p).depth ≤ 4) ∧
  (∀ (p : PortId) (i : SlotId), i ∈ s.readyList p ↔ (s.slot i).readySource = some p) ∧
  (∀ (p : PortId) (i : SlotId), (s.port p).writer.slot = some i ↔ (s.slot i).fillingPort = some p)

/-- R29, R31, Table 2-2: reference and locked measurements are in range, the detector's counts are below 3, and
every geometry that a slot holds fits a frame slot. -/
abbrev PortsOk (s : State) : Prop :=
  (∀ (p : PortId), ∀ m ∈ (s.port p).detector.lockedMeasurement, m.inRange = true) ∧
  (∀ (p : PortId), ∀ m ∈ (s.port p).detector.reference, m.inRange = true) ∧
  (∀ p : PortId, (s.port p).detector.matchCount < 3 ∧ (s.port p).detector.outOfRange < 3) ∧
  (∀ i : SlotId, ∀ g ∈ (s.slot i).geometry?, 2 * g.width * g.height ≤ Config.slotBytes)

/-- R16, R50: the reference count of a slot is the number of its holders, a HELD slot has at least one, and
neither an OFF head nor an absent position holds any. -/
abbrev ReferencesOk (s : State) : Prop :=
  (∀ i : SlotId, (s.slot i).refs = s.holds.count (some i)) ∧
  (∀ i : SlotId, match s.slot i with
    | .held f => 1 ≤ f.refs
    | .free => True
    | .filling _ _ => True
    | .ready _ => True) ∧
  (∀ (h : HeadId) (p : Position),
    (s.head h).state = .off ∨ (s.head h).activeScene[p] = none → s.selectionAt h p = .cleared)

/-- The number of the frame in a slot, 0 when it holds none. -/
def State.numberIn (s : State) (i : SlotId) : Nat := (((s.slot i).frame?).map fun f => f.number.toNat).getD 0

/-- The frame number that a writer fills its slot under. -/
def Writer.number : Writer → Option FrameNumber
  | .off => none
  | .armed => none
  | .filling _ _ n => some n

/-- The source and frame number that a slot holds. -/
def State.identityIn (s : State) (i : SlotId) : Option (PortId × FrameNumber) :=
  (s.slot i).frame?.map fun f => (f.source, f.number)

/-- R5, R6, R21, Table 5-1: each ready list is strictly increasing in frame number and no number in it exceeds its
port's; a fill is under the port's number, which is above them all; a pin and a window record the source and
number of the slot they hold, and a window that holds a frame has that frame's number as its last-shown number. -/
abbrev NumbersOk (s : State) : Prop :=
  (∀ p : PortId, (s.readyList p).Pairwise fun i j => s.numberIn i < s.numberIn j) ∧
  (∀ p : PortId, ∀ i ∈ s.readyList p, s.numberIn i ≤ (s.port p).frameNumber.toNat) ∧
  (∀ p : PortId, (s.port p).writer.number = none ∨ ((s.port p).writer.number = some (s.port p).frameNumber ∧
    ∀ i ∈ s.readyList p, s.numberIn i < (s.port p).frameNumber.toNat)) ∧
  (∀ k : PinId, ∀ e ∈ s.pin k, s.identityIn e.slot = some (e.source, e.number)) ∧
  (∀ (h : HeadId) (p : Position), ∀ c ∈ (s.selectionAt h p).current,
    s.identityIn c.slot = some (c.source, c.number) ∧ (s.selectionAt h p).lastShown = some c.number)

/-- No port has reached the last frame number (log entry 7). -/
abbrev NumbersRemain (s : State) : Prop := ∀ p : PortId, (s.port p).frameNumber ≠ BitVec.allOnes 64

/-- R50, R53, R54, R56: a head that is not OFF has a legal timing record; an OFF head has no present pending,
no frame in progress, FREE_RUN with run count 0, and no ancillary line; the records of both scenes are in the
ranges of Table 4-3 (R73). -/
abbrev HeadOk (hd : Head) : Prop :=
  (∀ t ∈ hd.timing, t.inRange = true) ∧
  (hd.state ≠ .off → hd.timing.isSome = true) ∧
  (hd.state = .off →
    hd.presentPending = false ∧ hd.frameLines = none ∧ hd.frame = none ∧ hd.follow.state = .freeRun ∧
    hd.follow.runCount = 0 ∧ hd.follow.phaseError = none ∧ hd.anc.contents = none) ∧
  (∀ n ∈ hd.frameLines, ∀ t ∈ hd.timing, t.activeLines + 8 ≤ n ∧ n ≤ 2048) ∧
  hd.follow.window ≤ 64 ∧ hd.follow.lead ≤ 255 ∧ hd.follow.runCount < 8 ∧
  hd.anc.queue.length ≤ Config.maxPairs ∧ 1 ≤ hd.anc.line ∧ hd.anc.line ≤ 8 ∧ hd.anc.lowMark ≤ 31 ∧
  (∀ p : Position, (∀ r ∈ hd.pendingScene[p], r.inRange = true) ∧ ∀ r ∈ hd.activeScene[p], r.inRange = true)

/-- `HeadOk` of both heads. -/
abbrev HeadsOk (s : State) : Prop := ∀ h : HeadId, HeadOk (s.head h)

/-- Table 3-4, R65: a head in FREE_RUN has no follow loss to take, and the source of a head in PULLING or FOLLOWING
is usable, unless a follow loss has arisen. -/
abbrev FollowOk (s : State) : Prop :=
  ∀ h : HeadId, ((s.head h).follow.state = .freeRun → (s.head h).follow.loss = .clear) ∧
    ((s.head h).follow.state ≠ .freeRun → (s.head h).follow.loss = .clear →
      ∃ p : PortId, (s.head h).follow.source = some p ∧ (s.port p).detector.isLocked = true ∧
        (s.port p).startedSinceLock = true ∧ (s.port p).latestFrameStart.isSome = true)

/-- R112, R115, R117, R121: the extents of the entries lie in the library and share no block, at most two
entries are RECEIVING or VERIFYING, and the verify queue holds the VERIFYING entries, none twice. -/
abbrev LibraryOk (s : State) : Prop :=
  (∀ i : LibId, ∀ e ∈ (s.entry i).info?, e.legal = true) ∧
  (∀ i j : LibId, i ≠ j → ∀ a ∈ (s.entry i).extent?, ∀ b ∈ (s.entry j).extent?, a.apart b = true) ∧
  s.library.uploads ≤ Config.maxUploads ∧
  s.library.verifyQueue.Nodup ∧
  (∀ i : LibId, i ∈ s.library.verifyQueue ↔ (s.entry i).isVerifying = true)

/-- R124: the use count of an entry is the number of records and cursor buffers that name it. (The use count
of an entry that is not VALID is 0.) -/
abbrev UsesOk (s : State) : Prop :=
  ∀ i : LibId, (s.entry i).useCount = (headIds.map fun h => (s.head h).uses).flatten.count (some i)

/-- R130 to R134: the loader queue holds at most one entry for a head and none for the head of the current job,
a back buffer is LOADING exactly while its head's job is the current one, and only then does a request wait. -/
abbrev LoaderOk (s : State) : Prop :=
  (s.loader.queue.map Prod.fst).Nodup ∧
  (∀ j ∈ s.loader.job, j.1 ∉ s.loader.queue.map Prod.fst) ∧
  (∀ (h : HeadId) (i : LibId), s.loader.job = some (h, i) ↔ (s.head h).cursor.back = .loading i) ∧
  (∀ h : HeadId, (s.head h).cursor.waiting ≠ none → s.loader.job.map Prod.fst = some h)

/-- The place of a stage in the order SENT, FIRST_SEND, NEW. -/
def Stage.rank : Stage → Nat
  | .sent => 0
  | .firstSend => 1
  | .new => 2

/-- R166, R167, R170: at most 16 entries, their sequence numbers consecutive up to the next one, SENT entries at the
head, at most one FIRST_SEND entry behind them and its copy on the line, NEW entries at the tail, resend due in SENT entries only; the
lost counts are at most 255; the resend timer runs exactly while a SENT entry is held; no two NEW entries of a
coalescable kind have the same kind and object. -/
abbrev NoticesOk (s : State) : Prop :=
  s.notices.entries.length ≤ Config.maxNotices ∧
  s.notices.entries.map NoticeEntry.sequence =
    (List.range s.notices.entries.length).map (fun k =>
      s.notices.next - BitVec.ofNat 16 (s.notices.entries.length - k)) ∧
  (s.notices.entries.map fun e => e.stage.rank).Pairwise (· ≤ ·) ∧
  (s.notices.entries.filter fun e => decide (e.stage = .firstSend)).length ≤ 1 ∧
  (∀ e ∈ s.notices.entries, e.stage = .firstSend → s.link.noticeOnLine = some e.sequence) ∧
  (∀ e ∈ s.notices.entries, (e.resendDue = true → e.stage = .sent) ∧ e.lost ≤ 255) ∧
  s.notices.lost ≤ 255 ∧
  s.notices.resendTimer = s.notices.entries.any NoticeEntry.isSent ∧
  ((s.notices.entries.filter fun e => decide (e.stage = .new) && e.notice.coalescable).map fun e =>
    (e.notice.code, e.notice.object)).Nodup

/-- R157, R158, R160: at most four outstanding requests with distinct tags, at most four pending immediate
answers, and at most eight replies remembered, none two of one tag. -/
abbrev LinkOk (s : State) : Prop :=
  s.link.outstanding.length ≤ Config.maxOutstanding ∧ s.link.outstanding.Nodup ∧
  s.link.pendingAnswers ≤ Config.maxImmediate ∧
  s.link.memory.length ≤ Config.maxReplies ∧ (s.link.memory.map MemoryEntry.tag).Nodup

/-- R176 to R178, Table 11-1: outside the ready state every block stands at its reset values. -/
abbrev BlocksOk (s : State) : Prop :=
  s.device.phase ≠ .ready →
    s.pool = State.reset.pool ∧ s.ports = State.reset.ports ∧ s.heads = State.reset.heads ∧
    s.library = State.reset.library ∧ s.loader = State.reset.loader

end Machine

end Sys2Proof
end

