-- ==== Sys2Proof/Certificates/Slice0/Obligations.lean ====
section
/-! DEFINITION. The statements about the model, in the order of the spec's chapters after the step itself.
A statement about an event carries the event's own data; a statement about a request carries its payload bytes. -/

open Sys2Proof Sys2Proof.Machine

/-! ### The step -/

/-- A step of a state whose queue has command `c` at its front is `exec c` of the state with the queue's rest.
Every command, in every state, answers a next state and leaves the queue of commands alone.
That an empty queue idles is the model's choice (log entry 3). -/
def Obligations.StepTakesFrontCommand : Prop :=
  (∀ (c : Instr) (s : State), step { s with pending := c :: s.pending } = exec c s) ∧
  (∀ (c : Instr) (s : State), ∃ t, exec c s = .next t ∧ t.pending = s.pending) ∧
  ∀ s : State, s.pending = [] → step s = .next s

/-! ### Reset and start-up (chapter 11) -/

/-- The reset values of R3, R49, R70, R129, R141, R150, R165 and R175, one block after another, and the machine
right after reset meets every invariant of the steps. The strap levels and the cause are the model's choice (log
entries 3 and 10). -/
def Obligations.ResetLeavesEveryBlockAtItsResetValues : Prop :=
  (State.reset.device.phase = .starting ∧
  ((∀ i, State.reset.slot i = .free) ∧ State.reset.pool.freeList = slotIds ∧
    (∀ p, State.reset.readyList p = []) ∧ ∀ i, State.reset.pin i = none) ∧
  (∀ p, (State.reset.port p).detector = .noSignal ∧ (State.reset.port p).startHistory = [] ∧
    (State.reset.port p).latest = none ∧ (State.reset.port p).latestFrameStart = none ∧
    (State.reset.port p).writer = .off ∧ (State.reset.port p).depth = 2 ∧
    (State.reset.port p).frameNumber = 0 ∧ (State.reset.port p).starved = false ∧
    (State.reset.port p).counters = ⟨0, 0, 0, 0, 0, 0⟩) ∧
  (∀ h, (State.reset.head h).state = .off ∧ (State.reset.head h).presentPending = false ∧
    (State.reset.head h).timing = none ∧ (State.reset.head h).boundaryCount = 0 ∧
    (State.reset.head h).frameLines = none ∧ (State.reset.head h).background = ⟨16, 128, 128⟩ ∧
    (State.reset.head h).muteColour = ⟨16, 128, 128⟩ ∧
    (State.reset.head h).follow = ⟨none, 2, 0, .freeRun, 0, none, .clear⟩ ∧
    (∀ p : Position, (State.reset.head h).pendingScene[p] = none ∧
      (State.reset.head h).activeScene[p] = none ∧ State.reset.selectionAt h p = ⟨none, none, 0⟩) ∧
    (State.reset.head h).cursor =
      ⟨false, 0, 0, none, ⟨235, 128, 128⟩, ⟨16, 128, 128⟩, none, .empty, none⟩ ∧
    (State.reset.head h).anc = ⟨false, 1, ⟨0, 0⟩, 4, [], none, 0, 0⟩ ∧
    (State.reset.head h).boundaries = 0 ∧ (State.reset.head h).shortfalls = 0) ∧
  ((∀ i, State.reset.entry i = .empty) ∧ State.reset.library.verifyQueue = [] ∧
    State.reset.library.freeRuns = [⟨0, 5584⟩] ∧ State.reset.loader = ⟨[], none⟩) ∧
  (State.reset.notices = ⟨[], 0, 0, false⟩ ∧ State.reset.link.receiver = .hunt ∧
    State.reset.link.requestQueue = [] ∧ State.reset.link.replyLine = [] ∧ State.reset.link.memory = [] ∧
    State.reset.link.transmitter = none ∧ State.reset.link.counters = ⟨0, 0, 0, 0, 0, 0, 0, 0, 0⟩ ∧
    State.reset.link.stopped = false)) ∧
  MemoryOk State.reset ∧ PoolOk State.reset ∧ PortsOk State.reset ∧ ReferencesOk State.reset ∧
  NumbersOk State.reset ∧ LibraryOk State.reset ∧ LoaderOk State.reset ∧ UsesOk State.reset ∧
  NoticesOk State.reset ∧ LinkOk State.reset ∧ HeadsOk State.reset ∧ FollowOk State.reset ∧
  BlocksOk State.reset

/-- RESET_PIN holds the part with every block at its reset values and the line rate of the straps; the release
begins start-up; the end of start-up leads to the ready state, or to FAULTED when a byte of DRAM failed, and
raises READY with the result and the cause, as sequence 0. The pixels and library bytes in DRAM stay until the
DRAM test.
The line rates of the four levels of the straps (Table 9-2). That the straps are sampled at both events of the pin
is the model's choice (log entry 10). -/
def Obligations.ResetAndStartUpRestoreThePart : Prop :=
  ((∀ (straps : Straps) (s : State), ∃ t, exec (.resetPin straps) s = .next t ∧ AtReset straps t ∧
    t.device = ⟨.held, .pin, s.device.boots⟩ ∧ t.dram = s.dram ∧ t.pending = s.pending) ∧
  (∀ (straps : Straps) (s : State), s.device.phase = .held →
    ∃ t, exec (.resetPinRelease straps) s = .next t ∧ AtReset straps t ∧
      t.device = ⟨.starting, .pin, s.device.boots⟩ ∧ t.dram = s.dram ∧ t.pending = s.pending) ∧
  (∀ s : State, s.device.phase = .starting →
    (∃ t, exec (.startUpEnd none) s = .next t ∧ t.device.phase = .ready ∧ t.device.cause = s.device.cause ∧
      t.notices = s.notices.raise (.ready .ready s.device.cause) ∧
      OnlyChanges [.device, .notices, .dram] s t) ∧
    (∀ a, ∃ t, exec (.startUpEnd (some a)) s = .next t ∧ t.device.phase = .faulted a ∧
      t.device.cause = s.device.cause ∧ t.notices = s.notices.raise (.ready .faulted s.device.cause) ∧
      OnlyChanges [.device, .notices, .dram] s t)) ∧
  ∀ n : Notice, NoticeQueue.reset.raise n = ⟨[⟨0, n, 0, .new, false⟩], 1, 0, false⟩) ∧
  (lineRate ⟨false, false⟩ = .rate115200 ∧ lineRate ⟨false, true⟩ = .rate460800 ∧
  lineRate ⟨true, false⟩ = .rate921600 ∧ lineRate ⟨true, true⟩ = .rate115200)

/-- RESET answers OK, in the ready state and in FAULTED, and the processor then takes no further request; the
device reset follows when the RESET reply has been transmitted in full. -/
def Obligations.ResetRequestResetsAfterItsReply : Prop :=
  (∀ (s : State) (r : Request) (rest : List Request), TakesServed s r rest 0x01 → r.payload = [] →
    ∃ t, exec .reset s = .next t ∧ OnlyChanges [.link] s t ∧
      t.link = { s.link with
        requestQueue := rest
        replyLine := s.link.replyLine ++ [⟨.reset, r.tag, r.code, ⟨.ok, []⟩⟩]
        stopped := true }) ∧
  (∀ (s : State) (c : Instr), s.link.stopped = true → ((requestCode c).isSome = true ∨ c = .unknownCommand) →
    exec c s = .next s) ∧
  ∀ (straps : Straps) (s : State) (e : ReplyEntry) (bytes : List Byte),
    s.link.transmitter = some ⟨.reply e, bytes⟩ → e.origin = .reset →
    ∃ t, exec (.transmitComplete straps) s = .next t ∧ AtReset straps t ∧
      t.device = ⟨.starting, .request, s.device.boots⟩ ∧ t.dram = s.dram ∧ t.pending = s.pending

/-! ### The command processor and the device requests (chapters 9 and 11) -/

/-- Table 11-5, all of it: each code with its payload lengths, and no other code. The processor refuses a code
outside the table with UNKNOWN_COMMAND, a payload length that the table does not allow with BAD_LENGTH, and, in
FAULTED, every other code than those of INFO, RESET, STATS_READ and ECHO with WRONG_STATE; nothing changes but the
request's reply. Code 0x10 is taken by CAPTURE_ON or CAPTURE_OFF according to its mode byte (log entry 17). -/
def Obligations.ProcessorRefusesWhatItCannotServe : Prop :=
  ((∀ (code : Byte) (rule : LengthRule), commandRule code = some rule ↔ (code, rule) ∈
      ([(0x01, .exactly 0), (0x02, .exactly 0), (0x03, .exactly 1), (0x04, .exactly 1), (0x05, .between 0 256),
        (0x10, .exactly 2), (0x11, .exactly 2), (0x12, .exactly 1), (0x13, .exactly 1), (0x14, .exactly 1),
        (0x18, .exactly 2), (0x19, .exactly 1), (0x1A, .exactly 1), (0x20, .exactly 37), (0x21, .exactly 2),
        (0x22, .exactly 2), (0x23, .exactly 3), (0x24, .exactly 1), (0x30, .exactly 13), (0x31, .exactly 1),
        (0x32, .exactly 1), (0x33, .exactly 2), (0x34, .exactly 7), (0x35, .exactly 4), (0x36, .exactly 1),
        (0x40, .exactly 10), (0x41, .between 6 253), (0x42, .exactly 1), (0x43, .exactly 1), (0x44, .exactly 1),
        (0x45, .exactly 0), (0x50, .exactly 2), (0x51, .exactly 5), (0x52, .exactly 2), (0x53, .exactly 7),
        (0x58, .exactly 6), (0x59, .oddBetween 3 33), (0x5A, .exactly 1), (0x5B, .exactly 1)] :
        List (Byte × LengthRule))) ∧
    ∀ k low high n : Nat, ((LengthRule.exactly k).allows n = true ↔ n = k) ∧
      ((LengthRule.between low high).allows n = true ↔ low ≤ n ∧ n ≤ high) ∧
      ((LengthRule.oddBetween low high).allows n = true ↔ (low ≤ n ∧ n ≤ high) ∧ n % 2 = 1)) ∧
  (∀ (s : State) (r : Request) (rest : List Request) (code : Byte), TakesServed s r rest code →
    commandRule code = none → Refuses .unknownCommand s r rest .unknownCommand) ∧
  (∀ (c : Instr) (s : State) (r : Request) (rest : List Request) (code : Byte) (rule : LengthRule),
    requestCode c = some code → TakesServed s r rest code → commandRule code = some rule →
    rule.allows r.payload.length = false → Refuses c s r rest .badLength) ∧
  ∀ (c : Instr) (s : State) (r : Request) (rest : List Request) (code : Byte) (rule : LengthRule) (a : Nat),
    requestCode c = some code → TakesServed s r rest code → s.device.phase = .faulted a →
    commandRule code = some rule → rule.allows r.payload.length = true →
    code ≠ 0x01 → code ≠ 0x02 → code ≠ 0x03 → code ≠ 0x05 →
    (c = .captureOn → byteAt r.payload 1 ≠ 0) → (c = .captureOff → byteAt r.payload 1 ≠ 1) →
    Refuses c s r rest .wrongState

/-- INFO's reply, field by field, in the ready state and in FAULTED; nothing else changes. The revision is a
free value (log entry 8). -/
def Obligations.InfoReturnsTheIdentity : Prop :=
  ∀ (s : State) (r : Request) (rest : List Request), TakesServed s r rest 0x02 → r.payload = [] →
    ∀ rate : Byte, (s.link.rate = .rate115200 → rate = 0) → (s.link.rate = .rate460800 → rate = 1) →
      (s.link.rate = .rate921600 → rate = 2) →
    (s.device.phase = .ready →
      Performs .info s r rest
        (.ok ([0x22, 0x04, Config.revision, 0, rate, 0, 0, 0, 0, 4, 2, 24, 8, 12, 64, 0xD0, 0x15, 16, 8])) []
        fun _ => True) ∧
    ∀ a, s.device.phase = .faulted a →
      Performs .info s r rest
        (.ok ([0x22, 0x04, Config.revision, 1, rate] ++ leBytes 4 a ++
          [4, 2, 24, 8, 12, 64, 0xD0, 0x15, 16, 8])) [] fun _ => True

/-- STATS_READ returns the counters of a port, a head or the link, each 4 bytes and in the order of R180, behind
the object byte, in the ready state and in FAULTED, and changes nothing.
STATS_CLEAR answers with the counters from before the clearing, in the layout of STATS_READ, sets the
counters of the object to 0 and leaves everything else as it was. -/
def Obligations.StatsReadAndClear : Prop :=
  (∀ (s : State) (r : Request) (rest : List Request), TakesServed s r rest 0x03 →
    (∀ p : PortId, r.payload = [byteOf p.val] →
      Performs .statsRead s r rest
        (.ok (byteOf p.val :: portCountersLayout (s.port p))) [] fun _ => True) ∧
    (∀ h : HeadId, r.payload = [byteOf (16 + h.val)] →
      Performs .statsRead s r rest
        (.ok (byteOf (16 + h.val) :: headCountersLayout (s.head h))) [] fun _ => True) ∧
    (r.payload = [0x20] →
      Performs .statsRead s r rest
        (.ok (0x20 :: linkCountersLayout s.link.counters)) [] fun _ => True) ∧
    ∀ b : Byte, r.payload = [b] → 3 < b.toNat → b ≠ 0x10 → b ≠ 0x11 → b ≠ 0x20 →
      Refuses .statsRead s r rest .badValue) ∧
  (∀ (s : State) (r : Request) (rest : List Request), Takes s r rest 0x04 →
    (∀ p : PortId, r.payload = [byteOf p.val] →
      Performs .statsClear s r rest (.ok (byteOf p.val :: portCountersLayout (s.port p))) [.ports] fun t =>
        OtherPorts p s t ∧ t.port p = { s.port p with counters := ⟨0, 0, 0, 0, 0, 0⟩ }) ∧
    (∀ h : HeadId, r.payload = [byteOf (16 + h.val)] →
      Performs .statsClear s r rest (.ok (byteOf (16 + h.val) :: headCountersLayout (s.head h))) [.heads] fun t =>
        OtherHeads h s t ∧
        (∀ p, t.selectionAt h p = { s.selectionAt h p with repeats := 0 }) ∧
        t.head h = { s.head h with
          boundaries := 0
          shortfalls := 0
          anc := { (s.head h).anc with sent := 0, defaults := 0 }
          selection := (t.head h).selection }) ∧
    (r.payload = [0x20] →
      ∃ t, exec .statsClear s = .next t ∧ OnlyChanges [.link] s t ∧
        t.link = { s.link with
          requestQueue := rest
          replyLine := s.link.replyLine ++
            [⟨.posted r.crc, r.tag, r.code, .ok (0x20 :: linkCountersLayout s.link.counters)⟩]
          counters := ⟨0, 0, 0, 0, 0, 0, 0, 0, 0⟩ }) ∧
    ∀ b : Byte, r.payload = [b] → 3 < b.toNat → b ≠ 0x10 → b ≠ 0x11 → b ≠ 0x20 →
      Refuses .statsClear s r rest .badValue)

/-- The layouts of the reports, field by field: Tables 11-9 and 11-10, and the 23 bytes that SCENE_READ adds for an
active position. Numbers are sent least significant byte first. PORT_STATUS has 79 bytes, HEAD_STATUS 36, sections
0 and 1 of STORE_STATUS 205 and section 2 from 98 to 122, LIB_LIST 24, the cursor report 24 and the inserter report
17. The codes of head, entry, slot, back buffer and job states, which no table gives, are the model's reading of the
order of naming (log entry 15).
PORT_STATUS, STORE_STATUS, HEAD_STATUS, LIB_LIST, LIB_SPACE and ANC_STATUS are answered from the state as it stands
and change nothing.
SCENE_READ returns a position of the pending scene (scene 0) or of the active scene (scene 1) with its
selection state, and changes nothing. The scene codes are the model's reading too (log entry 15), and so is the
answer of 36 zero bytes for an absent record (log entry 16).
ECHO returns its payload of at most 256 bytes, in the ready state and in FAULTED, and changes no state. -/
def Obligations.ReportsChangeNothing : Prop :=
  ((∀ n k : Nat, (byteOf n).toNat = n % 256 ∧ (leBytes k n).length = k ∧
      ∀ j, j < k → (leBytes k n).getD j 0 = byteOf (n / 256 ^ j)) ∧
    (∀ (q : Port) (n : Nat), portReport q n = portLayout q n ∧ (portReport q n).length = 79) ∧
    (∀ s : State,
      storeSlots s 0 = 0 :: (([0, 1, 2, 3, 4, 5, 6, 7, 8, 9, 10, 11] : List SlotId).map fun i =>
        slotLayout (s.slot i)).flatten ∧
      storeSlots s 1 = 1 :: (([12, 13, 14, 15, 16, 17, 18, 19, 20, 21, 22, 23] : List SlotId).map fun i =>
        slotLayout (s.slot i)).flatten ∧
      (storeSlots s 0).length = 205 ∧ (storeSlots s 1).length = 205 ∧ storeLists s = listsLayout s ∧
      (PoolOk s → 98 ≤ (storeLists s).length ∧ (storeLists s).length ≤ 122)) ∧
    (∀ hd : Head, headReport hd = headLayout hd ∧ (headReport hd).length = 36) ∧
    (∀ (s : State) (i : LibId), entryReport s i = entryLayout s i ∧ (entryReport s i).length = 24) ∧
    (∀ (s : State) (h : HeadId), cursorReport s h = cursorLayout s h (s.head h).cursor ∧
      (cursorReport s h).length = 24) ∧
    (∀ a : Ancillary, inserterReport a = inserterLayout a ∧ (inserterReport a).length = 17) ∧
    ∀ v : Selection, selectionReport v = selectionLayout v ∧ (selectionReport v).length = 23) ∧
  ((∀ (s : State) (r : Request) (rest : List Request) (p : PortId), Takes s r rest 0x14 →
    r.payload = [byteOf p.val] →
    Performs .portStatus s r rest (.ok (portReport (s.port p) (s.readyList p).length)) [] fun _ => True) ∧
  (∀ (s : State) (r : Request) (rest : List Request), Takes s r rest 0x1A →
    (r.payload = [0] → Performs .storeStatus s r rest (.ok (storeSlots s 0)) [] fun _ => True) ∧
    (r.payload = [1] → Performs .storeStatus s r rest (.ok (storeSlots s 1)) [] fun _ => True) ∧
    (r.payload = [2] → Performs .storeStatus s r rest (.ok (storeLists s)) [] fun _ => True)) ∧
  (∀ (s : State) (r : Request) (rest : List Request) (h : HeadId), Takes s r rest 0x36 →
    r.payload = [byteOf h.val] →
    Performs .headStatus s r rest (.ok (headReport (s.head h))) [] fun _ => True) ∧
  (∀ (s : State) (r : Request) (rest : List Request) (i : LibId), Takes s r rest 0x44 →
    r.payload = [libIdByte i] → Performs .libList s r rest (.ok (entryReport s i)) [] fun _ => True) ∧
  (∀ (s : State) (r : Request) (rest : List Request), Takes s r rest 0x45 → r.payload = [] →
    Performs .libSpace s r rest
      (.ok (leBytes 2 s.library.freeCount ++ leBytes 2 s.library.largestRun ++
        leBytes 2 s.library.largestRunFirst)) [] fun _ => True) ∧
  ∀ (s : State) (r : Request) (rest : List Request) (h : HeadId), Takes s r rest 0x5B →
    r.payload = [byteOf h.val] →
    Performs .ancStatus s r rest (.ok (inserterReport (s.head h).anc)) [] fun _ => True) ∧
  (∀ (s : State) (r : Request) (rest : List Request) (h : HeadId) (p : Position), Takes s r rest 0x23 →
    (r.payload = [byteOf h.val, 0, byteOf p.val] →
      (∀ w, (s.head h).pendingScene[p] = some w →
        Performs .sceneRead s r rest (.ok (1 :: w.bytes)) [] fun _ => True) ∧
      ((s.head h).pendingScene[p] = none →
        Performs .sceneRead s r rest (.ok (List.replicate 36 0)) [] fun _ => True)) ∧
    (r.payload = [byteOf h.val, 1, byteOf p.val] →
      (∀ w, (s.head h).activeScene[p] = some w →
        Performs .sceneRead s r rest (.ok (1 :: w.bytes ++ selectionReport (s.selectionAt h p))) []
          fun _ => True) ∧
      ((s.head h).activeScene[p] = none →
        Performs .sceneRead s r rest
          (.ok (List.replicate 36 0 ++ selectionReport (s.selectionAt h p))) [] fun _ => True)) ∧
    ∀ w : WindowRecord, w.bytes.length = 35) ∧
  (∀ (s : State) (r : Request) (rest : List Request), TakesServed s r rest 0x05 → r.payload.length ≤ 256 →
    Performs .echo s r rest (.ok r.payload) [] fun _ => True)

/-- A request refused by the block it names leaves everything as it was: its reply is all that changes. And a field
of a request outside its range is refused with BAD_VALUE: a port, head, pin, library id or section number, the mode
of code 0x10, the source of PIN_TAKE, the position of SCENE_PUT and SCENE_REMOVE, the source of SCENE_RESTART, the
scene and the position of SCENE_READ, the kind of LIB_OPEN and the id of CURSOR_SHAPE. (The fields of the other
requests stand in the statements about those requests.) Code 0x10 is taken by CAPTURE_ON or CAPTURE_OFF according to
its mode byte (log entry 17); that scenes and restart sources are coded 0 and 1 is the model's reading (log entry
15).
A request that names one head, whatever it does, leaves the other head as it was. -/
def Obligations.RequestsTouchOnlyWhatTheyName : Prop :=
  ((∀ (c : Instr) (code : Byte) (s t : State) (r : Request) (rest : List Request) (rep : Reply),
    requestCode c = some code → Takes s r rest code → exec c s = .next t →
    t.link.replyLine = s.link.replyLine ++ [⟨.posted r.crc, r.tag, r.code, rep⟩] →
    rep.status ≠ .ok → rep.status ≠ .accepted → OnlyChanges [.link] s t ∧ Answers s t r rest rep) ∧
  ∀ (c : Instr) (code : Byte) (s : State) (r : Request) (rest : List Request) (rule : LengthRule)
      (b₀ b₁ b₂ : Nat),
    requestCode c = some code → Takes s r rest code → commandRule code = some rule →
    rule.allows r.payload.length = true → b₀ = (byteAt r.payload 0).toNat → b₁ = (byteAt r.payload 1).toNat →
    b₂ = (byteAt r.payload 2).toNat → (c = .captureOn → b₁ ≠ 0) → (c = .captureOff → b₁ ≠ 1) →
    (code ∈ [0x10, 0x11, 0x12, 0x13, 0x14] ∧ 4 ≤ b₀) ∨ (code = 0x10 ∧ 2 ≤ b₁) ∨
      (code ∈ [0x18, 0x19] ∧ 8 ≤ b₀) ∨ (code = 0x18 ∧ 4 ≤ b₁) ∨ (code = 0x1A ∧ 3 ≤ b₀) ∨
      (codeNamesHead code = true ∧ 2 ≤ b₀) ∨ (code ∈ [0x20, 0x21] ∧ 12 ≤ b₁) ∨ (code = 0x22 ∧ 2 ≤ b₁) ∨
      (code = 0x23 ∧ (2 ≤ b₁ ∨ 12 ≤ b₂)) ∨ (code ∈ [0x40, 0x41, 0x42, 0x43, 0x44] ∧ (b₀ = 0 ∨ 64 < b₀)) ∨
      (code = 0x40 ∧ 2 ≤ b₁) ∨ (code = 0x50 ∧ (b₁ = 0 ∨ 64 < b₁)) →
    Refuses c s r rest .badValue) ∧
  (∀ (c : Instr) (code : Byte) (s t : State) (r : Request) (rest : List Request) (h : HeadId),
    requestCode c = some code → codeNamesHead code = true → Takes s r rest code →
    byteAt r.payload 0 = byteOf h.val → exec c s = .next t → OtherHeads h s t)

/-! ### Capture ports (chapters 1 and 2) -/

/-- When a measurement is in range, when it is identical to a reference (a period within 0.5% of the
reference's), and how the detector moves at a start: from NO_SIGNAL to ACQUIRING with no measurement; in the
other states by the measurement of the interval that ends, as the table of each state gives. A start that finds and
leaves the detector in another state than LOCKED feeds the detector alone: frame number, writer, counters, latest
frame start, depth, pool and heads stay. INPUT_STATE carries the measurement from ACQUIRING to UNSUPPORTED and from
UNSUPPORTED to ACQUIRING, and a measurement that leaves either state as it is raises no notice. (The period in whole
microseconds of a nanosecond time base is log entry 4.) -/
def Obligations.DetectorFollowsTheMeasurements : Prop :=
  (∀ m : Measurement, m.inRange = true ↔
    (64 ≤ m.width ∧ m.width ≤ 1280 ∧ m.width % 2 = 0) ∧
    ((m.interlaced = false ∧ 48 ≤ m.lines ∧ m.lines ≤ 720) ∨
      (m.interlaced = true ∧ 24 ≤ m.lines ∧ m.lines ≤ 360)) ∧ 10000 ≤ m.period ∧ m.period ≤ 50000) ∧
  (∀ m r : Measurement, m.identical r = true ↔ m.width = r.width ∧ m.lines = r.lines ∧
    m.interlaced = r.interlaced ∧ 1000 * (m.period - r.period) ≤ 5 * r.period ∧
    1000 * (r.period - m.period) ≤ 5 * r.period) ∧
  ∀ (s : State) (p : PortId) (level : FieldLevel) (width : Option Nat) (lines : Nat) (time : Time),
    s.device.phase = .ready →
    ∃ t, exec (.start p level width lines time) s = .next t ∧ OtherPorts p s t ∧
      OnlyChanges [.ports, .pool, .notices, .heads] s t ∧ (t.port p).lastStart = time ∧
      (t.port p).depth = (s.port p).depth ∧
      ((∀ l, (s.port p).detector ≠ .locked l) → (∀ l, (t.port p).detector ≠ .locked l) →
        (t.port p).frameNumber = (s.port p).frameNumber ∧ (t.port p).writer = (s.port p).writer ∧
        (t.port p).counters = (s.port p).counters ∧ (t.port p).starved = (s.port p).starved ∧
        (t.port p).latestFrameStart = (s.port p).latestFrameStart ∧ t.pool = s.pool ∧ t.heads = s.heads) ∧
      ((s.port p).detector = .noSignal → (t.port p).detector = .acquiring none 0 0 ∧
        (t.port p).startHistory = [level] ∧ (t.port p).latest = (s.port p).latest ∧
        t.notices = s.notices.raise (.inputState p .acquiring none) ∧ t.pool = s.pool) ∧
      ((s.port p).detector ≠ .noSignal →
        ∃ m : Measurement, (t.port p).latest = some m ∧ m.width = width.getD 0 ∧ m.lines = lines ∧
          m.period = (time - (s.port p).lastStart) / 1000 ∧
          (m.interlaced = true ↔ level = .second ∨ .second ∈ (s.port p).startHistory) ∧
          (t.port p).startHistory = (level :: (s.port p).startHistory).take 2 ∧
          (∀ r k o, (s.port p).detector = .acquiring (some r) k o → m.inRange = true → m.identical r = true →
            (t.port p).detector = if k + 1 < 3 then .acquiring (some r) (k + 1) 0 else .locked r) ∧
          (∀ r k o, (s.port p).detector = .acquiring r k o → m.inRange = true →
            (∀ r', r = some r' → m.identical r' = false) →
            (t.port p).detector = .acquiring (some m) 1 0) ∧
          (∀ r k o, (s.port p).detector = .acquiring r k o → m.inRange = false →
            (t.port p).detector = if o + 1 < 3 then .acquiring none 0 (o + 1) else .unsupported) ∧
          (∀ l, (s.port p).detector = .locked l → m.identical l = true →
            (t.port p).detector = .locked l) ∧
          (∀ l, (s.port p).detector = .locked l → m.identical l = false →
            (t.port p).detector = if m.inRange then .acquiring (some m) 1 0 else .acquiring none 0 1) ∧
          ((s.port p).detector = .unsupported →
            (t.port p).detector = if m.inRange then .acquiring (some m) 1 0 else .unsupported) ∧
          (∀ r k o, (s.port p).detector = .acquiring r k o →
            ((t.port p).detector = .unsupported →
              t.notices = s.notices.raise (.inputState p .unsupported (some m))) ∧
            ∀ r' k' o', (t.port p).detector = .acquiring r' k' o' → t.notices = s.notices) ∧
          ((s.port p).detector = .unsupported →
            ((t.port p).detector = .unsupported → t.notices = s.notices) ∧
            ∀ r k o, (t.port p).detector = .acquiring r k o →
              t.notices = s.notices.raise (.inputState p .acquiring (some m))))

/-- A numbered locked start offered to an ARMED writer makes a claim. It takes the head of the free list; else
the oldest frame of the port's ready list with refs 0, a reclaim; else the frame is skipped. The port, the pool
and the notices after each. The frame number after 2^64 - 1 is a free value (log entry 7). -/
def Obligations.LockedStartClaimsASlot : Prop :=
  (∀ n : FrameNumber, n ≠ BitVec.allOnes 64 → nextFrameNumber n = n + 1) ∧
  ∀ (s : State) (p : PortId) (level : FieldLevel) (width : Option Nat) (lines : Nat) (time : Time)
      (m : Measurement),
    LockedStart s p level width lines time m → (m.interlaced = false ∨ level = .first) →
    (s.port p).writer = .armed →
    ∀ (q : Port) (n : FrameNumber) (c : PortCounters) (g : Geometry) (stage : FillStage),
      n = nextFrameNumber (s.port p).frameNumber → c = (s.port p).counters →
      g = ⟨m.width, if m.interlaced then 2 * m.lines else m.lines, m.interlaced⟩ →
      stage = (if m.interlaced then .first else .progressive) →
      q = { (s.port p).afterLockedStart level m ((s.port p).measure level width lines time) time with
        frameNumber := n, latestFrameStart := some time, startedSinceLock := true } →
    (∀ i free, s.pool.freeList = i :: free →
      ∃ t, exec (.start p level width lines time) s = .next t ∧ OnlyChanges [.ports, .pool, .notices] s t ∧
        OtherPorts p s t ∧
        t.port p = { q with
          writer := .filling stage i n, starved := false, counters := { c with seen := c.seen + 1 } } ∧
        t.pool = { s.pool with slots := s.pool.slots.set i (.filling p g), freeList := free } ∧
        t.notices = if (s.port p).starved then
          (s.noticesAfterLock p m).raise (.captureResumed p n c.skipped) else s.noticesAfterLock p m) ∧
    (∀ l₁ i l₂ f, s.pool.freeList = [] → s.readyList p = l₁ ++ i :: l₂ →
      (∀ j ∈ l₁, (s.slot j).refs ≠ 0) → s.slot i = .ready f → f.refs = 0 →
      ∃ t, exec (.start p level width lines time) s = .next t ∧ OnlyChanges [.ports, .pool, .notices] s t ∧
        OtherPorts p s t ∧
        t.port p = { q with
          writer := .filling stage i n, starved := false
          counters := { c with
            seen := c.seen + 1, reclaimed := c.reclaimed + 1
            dropped := if f.shown then c.dropped else c.dropped + 1 } } ∧
        t.pool = { s.pool with
          slots := s.pool.slots.set i (.filling p g), ready := s.pool.ready.set p (l₁ ++ l₂) } ∧
        t.notices = if (s.port p).starved then
          (s.noticesAfterLock p m).raise (.captureResumed p n c.skipped) else s.noticesAfterLock p m) ∧
    (s.pool.freeList = [] → (∀ j ∈ s.readyList p, (s.slot j).refs ≠ 0) →
      ∃ t, exec (.start p level width lines time) s = .next t ∧ OnlyChanges [.ports, .notices] s t ∧
        OtherPorts p s t ∧
        t.port p = { q with
          starved := true, counters := { c with seen := c.seen + 1, skipped := c.skipped + 1 } } ∧
        t.notices = if (s.port p).starved then s.noticesAfterLock p m
          else (s.noticesAfterLock p m).raise (.captureStarved p n))

/-- A numbered locked start that meets a fill restarts it in the same slot under the new frame number; one that
meets an OFF writer is numbered and nothing else. A SECOND-field start is not numbered: it moves AWAIT_SECOND to
FILLING_SECOND and leaves every other writer as it is. -/
def Obligations.LockedStartMeetsTheWriter : Prop :=
  ∀ (s : State) (p : PortId) (level : FieldLevel) (width : Option Nat) (lines : Nat) (time : Time)
      (m : Measurement),
    LockedStart s p level width lines time m →
    ∀ (q q' : Port) (n : FrameNumber) (c : PortCounters) (g : Geometry) (stage : FillStage),
      n = nextFrameNumber (s.port p).frameNumber → c = (s.port p).counters →
      g = ⟨m.width, if m.interlaced then 2 * m.lines else m.lines, m.interlaced⟩ →
      stage = (if m.interlaced then .first else .progressive) →
      q = (s.port p).afterLockedStart level m ((s.port p).measure level width lines time) time →
      q' = { q with
        frameNumber := n, latestFrameStart := some time, startedSinceLock := true
        counters := { c with seen := c.seen + 1 } } →
    (∀ st i k, (m.interlaced = false ∨ level = .first) → (s.port p).writer = .filling st i k →
      ∃ t, exec (.start p level width lines time) s = .next t ∧ OnlyChanges [.ports, .pool, .notices] s t ∧
        OtherPorts p s t ∧
        t.port p = { q' with
          writer := .filling stage i n
          counters := { c with seen := c.seen + 1, aborted := c.aborted + 1 } } ∧
        t.pool = { s.pool with slots := s.pool.slots.set i (.filling p g) } ∧
        t.notices = s.noticesAfterLock p m) ∧
    ((m.interlaced = false ∨ level = .first) → (s.port p).writer = .off →
      ∃ t, exec (.start p level width lines time) s = .next t ∧ OnlyChanges [.ports, .notices] s t ∧
        OtherPorts p s t ∧ t.port p = q' ∧ t.notices = s.noticesAfterLock p m) ∧
    (m.interlaced = true → level = .second →
      ∃ t, exec (.start p level width lines time) s = .next t ∧ OnlyChanges [.ports, .notices] s t ∧
        OtherPorts p s t ∧ t.notices = s.noticesAfterLock p m ∧
        (∀ i k, (s.port p).writer = .filling .await i k →
          t.port p = { q with writer := .filling .second i k }) ∧
        ((∀ i k, (s.port p).writer ≠ .filling .await i k) → t.port p = q))

/-- When the detector leaves LOCKED, at a start whose measurement differs or at the expiry of the loss timer,
the fill, if any, is aborted and a follow loss is due at each head that follows the port; INPUT_STATE is
raised. The expiry also clears the detector, the start history and the latest frame start, from any state but
NO_SIGNAL; the latest measurement and the frame number are kept. That a follow loss is held as due until
FOLLOW_LOSS takes it is the model's choice (log entry 11). -/
def Obligations.LosingLockAbortsTheFill : Prop :=
  (∀ (s : State) (p : PortId) (level : FieldLevel) (width : Option Nat) (lines : Nat) (time : Time)
      (l m : Measurement), s.device.phase = .ready → (s.port p).detector = .locked l →
    m = (s.port p).measure level width lines time → m.identical l = false →
    ∃ t, exec (.start p level width lines time) s = .next t ∧
      OnlyChanges [.ports, .pool, .notices, .heads] s t ∧ OtherPorts p s t ∧
      AbortsFill s t p { s.port p with
        detector := if m.inRange then .acquiring (some m) 1 0 else .acquiring none 0 1
        startHistory := (level :: (s.port p).startHistory).take 2
        latest := some m
        lastStart := time
        startedSinceLock := false } .armed ∧
      FollowLossesArise s t p ∧ t.notices = s.notices.raise (.inputState p .acquiring (some m))) ∧
  ∀ (s : State) (p : PortId), s.device.phase = .ready → (s.port p).detector ≠ .noSignal →
    ∃ t, exec (.lossTimerExpiry p) s = .next t ∧ OnlyChanges [.ports, .pool, .notices, .heads] s t ∧
      OtherPorts p s t ∧ t.notices = s.notices.raise (.inputState p .noSignal none) ∧
      ∀ q : Port, q = { s.port p with
          detector := .noSignal, startHistory := [], latestFrameStart := none, startedSinceLock := false } →
        (∀ l, (s.port p).detector = .locked l → AbortsFill s t p q .armed ∧ FollowLossesArise s t p) ∧
        ((∀ l, (s.port p).detector ≠ .locked l) →
          t.port p = q ∧ t.pool = s.pool ∧ t.heads = s.heads)

/-- A fill end writes the pixels of the field or frame into the slot: progressive lines in order, first-field
lines to even lines and second-field lines to odd lines; every other byte of DRAM is unchanged. The fill end of
a first field awaits the second. The fill end of a frame makes the slot READY at the tail of the ready list,
while the list is below its hold depth. Byte k of what is written has its address spelled out, and so has the number
of bytes: 2 for each pixel of the frame, or of half of its lines. The order of bytes inside a slot is the model's
choice (log entry 6). -/
def Obligations.FillEndStoresTheFrame : Prop :=
  (∀ (i : SlotId) (g : Geometry) (k : Nat),
    (fillLength g .progressive = 2 * g.width * g.height ∧ fillLength g .first = 2 * g.width * (g.height / 2) ∧
      fillLength g .second = 2 * g.width * (g.height / 2)) ∧
    fillAddress i g.width .progressive k =
      BitVec.ofNat 26 (1843200 * i.val + k / (2 * g.width) * (2 * g.width) + k % (2 * g.width)) ∧
    fillAddress i g.width .first k =
      BitVec.ofNat 26 (1843200 * i.val + 2 * (k / (2 * g.width)) * (2 * g.width) + k % (2 * g.width)) ∧
    fillAddress i g.width .second k =
      BitVec.ofNat 26 (1843200 * i.val + (2 * (k / (2 * g.width)) + 1) * (2 * g.width) + k % (2 * g.width))) ∧
  ∀ (s : State) (p : PortId) (pixels : List Byte) (stage : FillStage) (i : SlotId) (n : FrameNumber)
      (g : Geometry),
    s.device.phase = .ready → (s.port p).writer = .filling stage i n → stage ≠ .await →
    s.slot i = .filling p g → 2 * g.width * g.height ≤ Config.slotBytes →
    ((s.readyList p).length < (s.port p).depth ∨ stage = .first) →
    ∃ t, exec (.fillEnd p pixels) s = .next t ∧ OnlyChanges [.ports, .pool, .dram] s t ∧ OtherPorts p s t ∧
      (∀ k, k < pixels.length → k < fillLength g stage →
        t.dramByte (fillAddress i g.width stage k) = pixels.getD k 0) ∧
      (∀ a, (∀ k, k < pixels.length → k < fillLength g stage → fillAddress i g.width stage k ≠ a) →
        SameByte s t a) ∧
      (stage = .first →
        t.port p = { s.port p with writer := .filling .await i n } ∧ t.pool = s.pool) ∧
      (stage ≠ .first →
        t.port p = { s.port p with
          writer := .armed
          counters := { (s.port p).counters with captured := (s.port p).counters.captured + 1 } } ∧
        t.pool = { s.pool with
          slots := s.pool.slots.set i (.ready ⟨p, n, g, 0, false⟩)
          ready := s.pool.ready.set p (s.readyList p ++ [i]) })

/-- A completion into a full ready list stores the last lines as any fill end does, and evicts the list's oldest
frame: FREE with refs 0, else HELD, and a drop is counted when the frame was never shown. The order of bytes inside a
slot is the model's choice (log entry 6). -/
def Obligations.CompletionEvictsTheOldest : Prop :=
  ∀ (s : State) (p : PortId) (pixels : List Byte) (stage : FillStage) (i j : SlotId) (l : List SlotId)
      (n : FrameNumber) (g : Geometry) (f : StoredFrame) (c : PortCounters),
    s.device.phase = .ready → (s.port p).writer = .filling stage i n →
    (stage = .progressive ∨ stage = .second) → s.slot i = .filling p g →
    2 * g.width * g.height ≤ Config.slotBytes → s.readyList p = j :: l →
    (s.readyList p).length = (s.port p).depth → s.slot j = .ready f → c = (s.port p).counters →
    ∃ t, exec (.fillEnd p pixels) s = .next t ∧ OnlyChanges [.ports, .pool, .dram] s t ∧ OtherPorts p s t ∧
      (∀ k, k < pixels.length → k < fillLength g stage →
        t.dramByte (fillAddress i g.width stage k) = pixels.getD k 0) ∧
      (∀ a, (∀ k, k < pixels.length → k < fillLength g stage → fillAddress i g.width stage k ≠ a) →
        SameByte s t a) ∧
      t.port p = { s.port p with
        writer := .armed
        counters := { c with
          captured := c.captured + 1, dropped := if f.shown then c.dropped else c.dropped + 1 } } ∧
      t.pool = { s.pool with
        slots := (s.pool.slots.set i (.ready ⟨p, n, g, 0, false⟩)).set j
          (if f.refs = 0 then .free else .held f)
        freeList := if f.refs = 0 then s.pool.freeList ++ [j] else s.pool.freeList
        ready := s.pool.ready.set p (l ++ [i]) }

/-- CAPTURE_ON arms an OFF writer and leaves any other as it is. CAPTURE_OFF turns the writer OFF, aborting a
fill. Both answer OK. -/
def Obligations.CaptureSwitchesTheWriter : Prop :=
  ∀ (s : State) (r : Request) (rest : List Request) (p : PortId), Takes s r rest 0x10 →
    (r.payload = [byteOf p.val, 1] →
      Performs .captureOn s r rest (.ok []) [.ports] fun t => OtherPorts p s t ∧
        ((s.port p).writer = .off → t.port p = { s.port p with writer := .armed }) ∧
        ((s.port p).writer ≠ .off → t.port p = s.port p)) ∧
    (r.payload = [byteOf p.val, 0] →
      Performs .captureOff s r rest (.ok []) [.ports, .pool] fun t => OtherPorts p s t ∧
        ((s.port p).writer = .armed → t.port p = { s.port p with writer := .off } ∧ t.pool = s.pool) ∧
        ((s.port p).writer ≠ .armed → AbortsFill s t p (s.port p) .off))

/-- PORT_DEPTH stores a depth of 1 to 4 and evicts the surplus of the ready list, oldest first, each slot FREE
or HELD by its refs and each unshown frame a drop; another depth is refused. PORT_FLUSH empties the ready list
in the same way and counts no drop. -/
def Obligations.DepthAndFlushShortenTheReadyList : Prop :=
  ∀ (s : State) (r : Request) (rest : List Request) (p : PortId), PoolOk s →
    (∀ d : Byte, Takes s r rest 0x11 → r.payload = [byteOf p.val, d] →
      (1 ≤ d.toNat ∧ d.toNat ≤ 4 →
        ∀ (out keep : List SlotId), s.readyList p = out ++ keep →
          out.length = (s.readyList p).length - d.toNat →
        Performs .portDepth s r rest (.ok []) [.ports, .pool] fun t => OtherPorts p s t ∧
          t.port p = { s.port p with
            depth := d.toNat
            counters := { (s.port p).counters with
              dropped := (s.port p).counters.dropped +
                BitVec.ofNat 32 (out.filter fun i => (s.slot i).frame?.any fun f => !f.shown).length } } ∧
          t.readyList p = keep ∧ Retires s t p out) ∧
      (d.toNat = 0 ∨ 4 < d.toNat → Refuses .portDepth s r rest .badValue)) ∧
    (Takes s r rest 0x12 → r.payload = [byteOf p.val] →
      Performs .portFlush s r rest (.ok []) [.pool] fun t =>
        t.readyList p = [] ∧ Retires s t p (s.readyList p))

/-- PORT_RESET returns a port to its reset values but for its frame number: the fill is aborted, the ready list
flushed, the counters are 0; the slots that become FREE join the free list, that of the fill first and then the
flushed ones, oldest first. INPUT_STATE is raised unless the detector was in NO_SIGNAL, and follow losses are due
when it was LOCKED (held as due until FOLLOW_LOSS takes them, log entry 11). Other ports, other lists and the pins
are unchanged. (The time of the last start is the model's own, log entry 22.) -/
def Obligations.PortResetRestoresThePort : Prop :=
  ∀ (s : State) (r : Request) (rest : List Request) (p : PortId), PoolOk s → Takes s r rest 0x13 →
    r.payload = [byteOf p.val] →
    Performs .portReset s r rest (.ok []) [.ports, .pool, .notices, .heads] fun t => OtherPorts p s t ∧
      t.port p = { State.reset.port p with
        frameNumber := (s.port p).frameNumber, lastStart := (s.port p).lastStart } ∧
      t.readyList p = [] ∧ (∀ q, q ≠ p → t.readyList q = s.readyList q) ∧ t.pool.pins = s.pool.pins ∧
      t.pool.freeList = s.pool.freeList ++ (s.port p).writer.slot.toList ++
        (s.readyList p).filter (fun i => decide ((s.slot i).refs = 0)) ∧
      (∀ i, (s.port p).writer.slot = some i → t.slot i = .free) ∧
      (∀ i ∈ s.readyList p, t.slot i = (s.slot i).retired) ∧
      (∀ i, (s.port p).writer.slot ≠ some i → i ∉ s.readyList p → t.slot i = s.slot i) ∧
      t.notices = (if (s.port p).detector = .noSignal then s.notices
        else s.notices.raise (.inputState p .noSignal none)) ∧
      (∀ l, (s.port p).detector = .locked l → FollowLossesArise s t p) ∧
      ((∀ l, (s.port p).detector ≠ .locked l) → t.heads = s.heads)

/-- PIN_TAKE pins the newest frame of a source's ready list: it takes a reference on it, records it, and then
releases the slot the pin held before. Pinning the frame already held changes nothing, and an empty list is
refused with NO_FRAME.
PIN_RELEASE empties a pin and releases its reference, which frees a HELD slot at its last reference; an empty
pin answers OK and nothing changes. -/
def Obligations.PinsTakeAndRelease : Prop :=
  (∀ (s : State) (r : Request) (rest : List Request) (i : PinId) (p : PortId), Takes s r rest 0x18 →
    r.payload = [byteOf i.val, byteOf p.val] →
    (s.readyList p = [] → Refuses .pinTake s r rest .noFrame) ∧
    ∀ (l : List SlotId) (j : SlotId) (f : StoredFrame), s.readyList p = l ++ [j] → s.slot j = .ready f →
      ∀ rep : Reply, rep = .ok ([byteOf i.val, byteOf j.val, byteOf f.source.val] ++ leBytes 8 f.number.toNat) →
      (∀ e, s.pin i = some e → e.slot = j → Performs .pinTake s r rest rep [] fun _ => True) ∧
      ((∀ e, s.pin i = some e → e.slot ≠ j) →
        Performs .pinTake s r rest rep [.pool] fun t =>
          t.pin i = some ⟨j, f.source, f.number⟩ ∧ (∀ k, k ≠ i → t.pin k = s.pin k) ∧
          t.slot j = .ready { f with refs := f.refs + 1, shown := true } ∧ t.pool.ready = s.pool.ready ∧
          (∀ e, s.pin i = some e → t.slot e.slot = (s.slot e.slot).released ∧
            (∀ k, k ≠ j → k ≠ e.slot → t.slot k = s.slot k) ∧
            t.pool.freeList = if (s.slot e.slot).freedByRelease then s.pool.freeList ++ [e.slot]
              else s.pool.freeList) ∧
          (s.pin i = none → (∀ k, k ≠ j → t.slot k = s.slot k) ∧ t.pool.freeList = s.pool.freeList))) ∧
  (∀ (s : State) (r : Request) (rest : List Request) (i : PinId), Takes s r rest 0x19 →
    r.payload = [byteOf i.val] →
    (s.pin i = none → Performs .pinRelease s r rest (.ok []) [] fun _ => True) ∧
    ∀ e, s.pin i = some e →
      Performs .pinRelease s r rest (.ok []) [.pool] fun t =>
        t.pin i = none ∧ (∀ k, k ≠ i → t.pin k = s.pin k) ∧ t.pool.ready = s.pool.ready ∧
        t.slot e.slot = (s.slot e.slot).released ∧ (∀ k, k ≠ e.slot → t.slot k = s.slot k) ∧
        t.pool.freeList = if (s.slot e.slot).freedByRelease then s.pool.freeList ++ [e.slot]
          else s.pool.freeList)

/-! ### Output heads (chapters 3 and 5) -/

/-- A boundary of a RUNNING or MUTED head increments its boundary count and its boundaries counter, takes a
pending present, fixes the drawn frame's choices, and, with no usable follow source and no follow loss to come, the
nominal total lines. A follow loss that comes before the boundary is taken first: an overdue one, or one whose source
has locked again (log entry 11). The other head is not touched, and an OFF head takes no boundary (log entry 2). With
the source not usable the follow state stays as it is (log entry 13). -/
def Obligations.BoundaryCountsAndBeginsAFrame : Prop :=
  (∀ (s : State) (h : HeadId) (time : Time), s.device.phase = .ready → (s.head h).state = .off →
    exec (.frameBoundary h time) s = .next s) ∧
  ∀ (s : State) (h : HeadId) (t₀ : Timing) (time : Time), Draws s h t₀ →
    ∃ t, exec (.frameBoundary h time) s = .next t ∧ OtherHeads h s t ∧
      OnlyChanges [.heads, .pool, .library, .notices] s t ∧
      t.head h = { s.head h with
        boundaryCount := (s.head h).boundaryCount + 1
        boundaries := (s.head h).boundaries + 1
        presentPending := false
        activeScene := if (s.head h).presentPending then (s.head h).pendingScene else (s.head h).activeScene
        frame := some ⟨decide ((s.head h).state = .muted), (s.head h).background, (s.head h).muteColour,
          (s.head h).cursor.visible, (s.head h).cursor.colourA, (s.head h).cursor.colourB, []⟩
        frameLines := (t.head h).frameLines
        follow := (t.head h).follow
        selection := (t.head h).selection
        cursor := (t.head h).cursor
        anc := (t.head h).anc } ∧
      ∀ f : Follow, s.BoundaryFinds h f → f.loss = .clear →
        (∀ p start, f.source = some p → ¬ s.UsableSource p start) →
        (t.head h).frameLines = some t₀.totalLines ∧ (t.head h).follow = f

/-- At a boundary with a usable follow source, or with a follow loss that is taken after it, the phase error is minus
the elapsed lines minus the lead, brought by whole frames into the range around 0; the frame's total lines are the
nominal lines plus the error clamped to the window, within the limits; the follow state and run count move by the 2-line tolerance. With the loss still to
be taken the elapsed lines are counted from the latest frame start that the source had before it left LOCKED. A head
whose source has locked again has taken its loss, so it enters PULLING. (Times are in nanoseconds, log entry 4; the
loss stays due until FOLLOW_LOSS or a later locking, log entry 11.) -/
def Obligations.BoundaryFollowsTheSource : Prop :=
  ∀ (s : State) (h : HeadId) (t₀ : Timing) (time start : Time) (f : Follow),
    Draws s h t₀ → t₀.inRange = true → s.BoundaryFinds h f →
    (f.loss = .due start ∨ (f.loss = .clear ∧ ∃ p, f.source = some p ∧ s.UsableSource p start)) →
    ∃ (t : State) (e k : Int), exec (.frameBoundary h time) s = .next t ∧
      e = -(((time - start) * t₀.pixelClock / (t₀.totalWidth * 1000000) : Nat) : Int) - (f.lead : Int) +
        k * (t₀.totalLines : Int) ∧
      -((t₀.totalLines / 2 : Nat) : Int) ≤ e ∧
      e ≤ (t₀.totalLines : Int) - 1 - ((t₀.totalLines / 2 : Nat) : Int) ∧
      (t.head h).frameLines = some (max ((t₀.activeLines : Int) + 8)
        (min 2048 ((t₀.totalLines : Int) + max (-(f.window : Int)) (min (f.window : Int) e)))).toNat ∧
      (t.head h).follow = { f with
        state := (t.head h).follow.state, runCount := (t.head h).follow.runCount, phaseError := some e } ∧
      (f.state = .freeRun → (t.head h).follow.state = .pulling ∧
        (t.head h).follow.runCount = if -2 ≤ e ∧ e ≤ 2 then 1 else 0) ∧
      (f.state = .pulling → -2 ≤ e ∧ e ≤ 2 → f.runCount + 1 < 8 →
        (t.head h).follow.state = .pulling ∧ (t.head h).follow.runCount = f.runCount + 1) ∧
      (f.state = .pulling → -2 ≤ e ∧ e ≤ 2 → 8 ≤ f.runCount + 1 →
        (t.head h).follow.state = .following ∧ (t.head h).follow.runCount = 0) ∧
      (f.state = .pulling → ¬(-2 ≤ e ∧ e ≤ 2) →
        (t.head h).follow.state = .pulling ∧ (t.head h).follow.runCount = 0) ∧
      (f.state = .following → ¬(-2 ≤ e ∧ e ≤ 2) → f.runCount + 1 < 8 →
        (t.head h).follow.state = .following ∧ (t.head h).follow.runCount = f.runCount + 1) ∧
      (f.state = .following → ¬(-2 ≤ e ∧ e ≤ 2) → 8 ≤ f.runCount + 1 →
        (t.head h).follow.state = .pulling ∧ (t.head h).follow.runCount = 0) ∧
      (f.state = .following → -2 ≤ e ∧ e ≤ 2 →
        (t.head h).follow.state = .following ∧ (t.head h).follow.runCount = 0)

/-- At a boundary, each LIVE window of the scene that the frame is drawn from (the pending one when a present is
pending), beginning with the selection state it has kept, or with none at a position that a swap changes without
continuity: with on-loss FALLBACK and its source not LOCKED it gives up its frame; else it takes the newest (LATEST)
or oldest (PACED) frame of the ready list that is newer than its last-shown number, and the frame is shown; else it
repeats its frame, if it has one. A frozen window repeats the frame it has, and with none chooses by LATEST. -/
def Obligations.LiveWindowsChooseTheirFrames : Prop :=
  ∀ (s : State) (h : HeadId) (t₀ : Timing) (time : Time) (a : Head), PoolOk s → Draws s h t₀ → a = s.head h →
    ∃ t, exec (.frameBoundary h time) s = .next t ∧
      ∀ (p : Position) (w : WindowRecord) (src : PortId) (policy : Policy) (onLoss : OnLoss)
        (fb : Option Fallback) (crop : Option Rect) (freeze : Bool) (v : Selection) (cands : List SlotId),
        (if a.presentPending then a.pendingScene[p] else a.activeScene[p]) = some w →
        w.content = .live src policy onLoss fb crop freeze →
        v = (if a.presentPending = true ∧ keepsContinuity a.activeScene[p] a.pendingScene[p] = false then
          ⟨none, none, 0⟩ else s.selectionAt h p) →
        cands = (s.readyList src).filter (fun i => match (s.slot i).frame?, v.lastShown with
          | some f, some n => decide (n.toNat < f.number.toNat)
          | some _, none => true
          | none, _ => false) →
        (freeze = true → v.current.isSome = true →
          t.selectionAt h p = { v with repeats := v.repeats + 1 }) ∧
        ((freeze = true → v.current = none) → onLoss = .fallback →
          (∀ l, (s.port src).detector ≠ .locked l) → t.selectionAt h p = { v with current := none }) ∧
        ((freeze = true → v.current = none) →
          (onLoss = .hold ∨ ∃ l, (s.port src).detector = .locked l) →
          (∀ i f, (if freeze = true ∨ policy = .latest then cands.getLast? else cands.head?) = some i →
            s.slot i = .ready f →
            t.selectionAt h p = ⟨some ⟨i, f.source, f.number⟩, some f.number, v.repeats⟩ ∧
            t.slot i = .ready { f with refs := (t.slot i).refs, shown := true }) ∧
          (cands = [] → v.current.isSome = true →
            t.selectionAt h p = { v with repeats := v.repeats + 1 }) ∧
          (cands = [] → v.current = none → t.selectionAt h p = v))

/-- At a boundary, each PIN window of the scene that the frame is drawn from (the pending one when a present is
pending; a swap clears its selection state first) follows its pin: an empty pin, or FALLBACK with the pin's source
not LOCKED, gives up its frame; the slot it already shows is kept; another slot of the pin becomes its current frame,
and is shown. IMAGE and FILL windows keep their state. -/
def Obligations.PinWindowsFollowTheirPins : Prop :=
  ∀ (s : State) (h : HeadId) (t₀ : Timing) (time : Time) (a : Head), PoolOk s → ReferencesOk s → Draws s h t₀ →
    a = s.head h →
    ∃ t, exec (.frameBoundary h time) s = .next t ∧
      ∀ (p : Position) (w : WindowRecord) (v : Selection),
        (if a.presentPending then a.pendingScene[p] else a.activeScene[p]) = some w →
        v = (if a.presentPending then ⟨none, none, 0⟩ else s.selectionAt h p) →
        (∀ pin onLoss fb crop, w.content = .pin pin onLoss fb crop →
          (s.pin pin = none → t.selectionAt h p = { v with current := none }) ∧
          (∀ e, s.pin pin = some e →
            (onLoss = .fallback → (∀ l, (s.port e.source).detector ≠ .locked l) →
              t.selectionAt h p = { v with current := none }) ∧
            ((onLoss = .hold ∨ ∃ l, (s.port e.source).detector = .locked l) →
              (v.slot = some e.slot → t.selectionAt h p = v) ∧
              (v.slot ≠ some e.slot → ∀ f, (s.slot e.slot).frame? = some f →
                t.selectionAt h p = ⟨some ⟨e.slot, f.source, f.number⟩, some f.number, v.repeats⟩ ∧
                (t.slot e.slot).frame? =
                  some { f with refs := (t.slot e.slot).refs, shown := true })))) ∧
        (∀ i crop, w.content = .image i crop → t.selectionAt h p = v) ∧
        (∀ c, w.content = .fill c → t.selectionAt h p = v)

/-- A position keeps continuity through a swap exactly when its old and new records are both LIVE with one source.
While a LIVE window keeps its source from one boundary to the next, through a swap or not, the last-shown number
never decreases.
At a swap, a position with continuity keeps its repeat count, or raises it by one where it goes on with the frame and
last-shown number it had. Every other position begins selection afresh: it has no repeats, and with no frame to
choose it has no current frame and no last-shown number. That is so where it is absent, IMAGE or FILL, a PIN window
whose pin is empty, a LIVE window whose source's ready list is empty, and a PIN or LIVE window with on-loss FALLBACK
whose source is not LOCKED. -/
def Obligations.ContinuityDecidesWhatAWindowKeeps : Prop :=
  (∀ old new : Option WindowRecord, keepsContinuity old new = true ↔
    ∃ (w w' : WindowRecord) (src : PortId) (policy policy' : Policy) (onLoss onLoss' : OnLoss)
      (fb fb' : Option Fallback) (crop crop' : Option Rect) (freeze freeze' : Bool),
      old = some w ∧ new = some w' ∧ w.content = .live src policy onLoss fb crop freeze ∧
      w'.content = .live src policy' onLoss' fb' crop' freeze') ∧
  (∀ (s : State) (h : HeadId) (t₀ : Timing) (time : Time), Draws s h t₀ →
    ∃ t, exec (.frameBoundary h time) s = .next t ∧
      ∀ (p : Position) (w w' : WindowRecord) (src : PortId) (policy policy' : Policy) (onLoss onLoss' : OnLoss)
        (fb fb' : Option Fallback) (crop crop' : Option Rect) (freeze freeze' : Bool) (n : FrameNumber),
        (s.head h).activeScene[p] = some w → w.content = .live src policy onLoss fb crop freeze →
        (t.head h).activeScene[p] = some w' → w'.content = .live src policy' onLoss' fb' crop' freeze' →
        (s.selectionAt h p).lastShown = some n →
        ∃ m, (t.selectionAt h p).lastShown = some m ∧ n.toNat ≤ m.toNat) ∧
  (∀ (s : State) (h : HeadId) (t₀ : Timing) (time : Time), Draws s h t₀ →
    (s.head h).presentPending = true →
    ∃ t, exec (.frameBoundary h time) s = .next t ∧ (t.head h).activeScene = (s.head h).pendingScene ∧
      ∀ (p : Position) (v u : Selection), v = s.selectionAt h p → u = t.selectionAt h p →
        (keepsContinuity (s.head h).activeScene[p] (s.head h).pendingScene[p] = true →
          u.repeats = v.repeats ∨ (v.current ≠ none ∧ u = { v with repeats := v.repeats + 1 })) ∧
        (keepsContinuity (s.head h).activeScene[p] (s.head h).pendingScene[p] = false →
          u.repeats = 0 ∧ ((s.head h).pendingScene[p] = none → u = ⟨none, none, 0⟩) ∧
          ∀ w, (s.head h).pendingScene[p] = some w →
            (∀ i crop, w.content = .image i crop → u = ⟨none, none, 0⟩) ∧
            (∀ c, w.content = .fill c → u = ⟨none, none, 0⟩) ∧
            (∀ pin onLoss fb crop, w.content = .pin pin onLoss fb crop →
              s.pin pin = none ∨ (onLoss = .fallback ∧
                ∀ e, s.pin pin = some e → ∀ l, (s.port e.source).detector ≠ .locked l) → u = ⟨none, none, 0⟩) ∧
            (∀ src policy onLoss fb crop freeze, w.content = .live src policy onLoss fb crop freeze →
              s.readyList src = [] ∨ (onLoss = .fallback ∧ ∀ l, (s.port src).detector ≠ .locked l) →
              u = ⟨none, none, 0⟩)))

/-- At a boundary the cursor shows a LOADED shape and latches a pending position, and an enabled inserter fixes
the frame's line from its oldest pair, which leaves the queue, or from the default pair, and counts it. -/
def Obligations.BoundaryMovesTheOverlays : Prop :=
  ∀ (s : State) (h : HeadId) (t₀ : Timing) (time : Time) (c : Cursor) (a : Ancillary), Draws s h t₀ →
    c = (s.head h).cursor → a = (s.head h).anc →
    ∃ t, exec (.frameBoundary h time) s = .next t ∧
      (∀ sh, c.back = .loaded sh →
        (t.head h).cursor.front = some sh ∧ (t.head h).cursor.back = .empty) ∧
      ((∀ sh, c.back ≠ .loaded sh) →
        (t.head h).cursor.front = c.front ∧ (t.head h).cursor.back = c.back) ∧
      (∀ x y, c.pendingPosition = some (x, y) → (t.head h).cursor.x = x ∧ (t.head h).cursor.y = y) ∧
      (c.pendingPosition = none → (t.head h).cursor.x = c.x ∧ (t.head h).cursor.y = c.y) ∧
      (t.head h).cursor = { c with
        x := (t.head h).cursor.x, y := (t.head h).cursor.y, pendingPosition := none
        front := (t.head h).cursor.front, back := (t.head h).cursor.back } ∧
      (a.enable = false → (t.head h).anc = { a with contents := none }) ∧
      (∀ pair rest, a.enable = true → a.queue = pair :: rest →
        (t.head h).anc = { a with queue := rest, contents := some (a.line, pair), sent := a.sent + 1 }) ∧
      (a.enable = true → a.queue = [] →
        (t.head h).anc = { a with contents := some (a.line, a.defaultPair), defaults := a.defaults + 1 })

/-- The notices of a boundary: FOLLOW_STATE with phase error 0 for a follow loss that comes first, and with the
boundary's error when the follow state changes then; SCENE_PRESENTED for a swap,
SHAPE_SHOWN for a cursor swap, ANC_LOW when the level after a removal equals the low mark; each carries the
count of this boundary, and no other notice is raised. Their order is the model's (log entry 12). -/
def Obligations.BoundaryRaisesItsNotices : Prop :=
  ∀ (s : State) (h : HeadId) (t₀ : Timing) (time : Time) (n : Count) (a : Ancillary) (f : Follow), Draws s h t₀ →
    n = (s.head h).boundaryCount + 1 → a = (s.head h).anc → s.BoundaryFinds h f →
    ∃ t, exec (.frameBoundary h time) s = .next t ∧
      ∀ (loss follow scene shape anc : List Notice),
        loss = (if f.state = (s.head h).follow.state then []
          else [.followState h .freeRun (s.head h).follow.source 0]) →
        follow = (if (t.head h).follow.state = f.state then []
          else [.followState h (t.head h).follow.state (s.head h).follow.source
            ((t.head h).follow.phaseError.getD 0)]) →
        scene = (if (s.head h).presentPending then [.scenePresented h n] else []) →
        shape = (match (s.head h).cursor.back with
          | .loaded sh => [.shapeShown h sh.id n]
          | .loading _ => []
          | .empty => []) →
        anc = (if a.enable = true ∧ a.queue.length = a.lowMark + 1 then [.ancLow h a.lowMark n] else []) →
        t.notices = (loss ++ follow ++ scene ++ shape ++ anc).foldl (fun q x => q.raise x) s.notices

/-- A fetch shortfall on an active line of a frame drawn composed counts once, is notified with its frame's
boundary count and its line, and makes each pixel that was not read in time the background colour; it changes
no scene, selection or reference. A frame drawn muted, and a head with no frame, take none (log entry 2). (The missed pixels
are the event's own data, log entry 18.) -/
def Obligations.ShortfallCountsAndShowsBackground : Prop :=
  (∀ (s : State) (h : HeadId) (line : Nat) (missed : List MissedPixel),
    ((s.head h).frame = none ∨ ∃ d, (s.head h).frame = some d ∧ d.muted = true) →
    exec (.fetchShortfall h line missed) s = .next s) ∧
  ∀ (s : State) (h : HeadId) (line : Nat) (missed hit : List MissedPixel) (t₀ : Timing) (d d' : DrawnFrame),
    s.device.phase = .ready → (s.head h).timing = some t₀ → (s.head h).frame = some d → d.muted = false →
    line < t₀.activeLines → hit = missed.filter (s.readsPixel h d line) → hit ≠ [] →
    (∀ m ∈ d.missed, m.1 ≠ line) → d' = { d with missed := d.missed ++ hit.map fun m => (line, m) } →
    ∃ t, exec (.fetchShortfall h line missed) s = .next t ∧ OtherHeads h s t ∧
      OnlyChanges [.heads, .notices] s t ∧
      t.head h = { s.head h with shortfalls := (s.head h).shortfalls + 1, frame := some d' } ∧
      t.notices = s.notices.raise (.fetchShortfall h (s.head h).boundaryCount line) ∧
      ∀ m ∈ hit, ∀ w, (s.head h).activeScene[m.position] = some w →
        ∀ beneath, t.windowPixel h d' m.position w m.column line beneath = d.background

/-- HEAD_FOLLOW stores the source, window and lead. With no source, or another than the stored one, the follow
state becomes FREE_RUN with run count 0, and a change of state raises FOLLOW_STATE with phase error 0 (and the
new source, log entry 21); with the stored source they are kept. A window over 64, and a source that is neither
a port nor none, are refused. A follow loss that is due takes the head to FREE_RUN in the same way; when none is
due the event changes nothing (log entry 11). -/
def Obligations.FollowSettingsAndLoss : Prop :=
  (∀ (s : State) (r : Request) (rest : List Request) (h : HeadId) (source : Option PortId) (w lead : Byte)
      (f : Follow), Takes s r rest 0x35 → f = (s.head h).follow →
    r.payload = [byteOf h.val, followSourceByte source, w, lead] →
    (64 < w.toNat → Refuses .headFollow s r rest .badValue) ∧
    (w.toNat ≤ 64 →
      Performs .headFollow s r rest (.ok []) [.heads, .notices] fun t => OtherHeads h s t ∧
        (source ≠ none → source = f.source →
          t.head h = { s.head h with follow := { f with window := w.toNat, lead := lead.toNat } } ∧
          t.notices = s.notices) ∧
        (source = none ∨ source ≠ f.source →
          t.head h = { s.head h with
            follow := ⟨source, w.toNat, lead.toNat, .freeRun, 0, f.phaseError, .clear⟩ } ∧
          t.notices = if f.state = .freeRun then s.notices
            else s.notices.raise (.followState h .freeRun source 0)))) ∧
  (∀ (s : State) (r : Request) (rest : List Request) (h : HeadId) (b w lead : Byte), Takes s r rest 0x35 →
    r.payload = [byteOf h.val, b, w, lead] → 4 ≤ b.toNat → b.toNat ≤ 254 →
    Refuses .headFollow s r rest .badValue) ∧
  ∀ (s : State) (h : HeadId) (f : Follow), s.device.phase = .ready → f = (s.head h).follow →
    (f.loss = .clear → exec (.followLoss h) s = .next s) ∧
    (f.loss ≠ .clear →
      ∃ t, exec (.followLoss h) s = .next t ∧ OtherHeads h s t ∧ OnlyChanges [.heads, .notices] s t ∧
        t.head h = { s.head h with
          follow := { f with state := .freeRun, runCount := 0, loss := .clear } } ∧
        t.notices = if f.state = .freeRun then s.notices
          else s.notices.raise (.followState h .freeRun f.source 0))

/-- HEAD_TIMING stores a record in range on an OFF head, and is refused with WRONG_STATE on another head and with
BAD_VALUE for a record out of range. HEAD_MUTE switches between RUNNING and MUTED, refused in OFF.
HEAD_BACKGROUND sets the two colours in every state. -/
def Obligations.HeadSettingsAreStored : Prop :=
  (∀ t₀ : Timing, t₀.inRange = true ↔
    (320 ≤ t₀.activeWidth ∧ t₀.activeWidth ≤ 1920 ∧ t₀.activeWidth % 2 = 0) ∧
    (240 ≤ t₀.activeLines ∧ t₀.activeLines ≤ 1080) ∧
    (t₀.activeWidth + 32 ≤ t₀.totalWidth ∧ t₀.totalWidth ≤ 4096) ∧
    (t₀.activeLines + 8 ≤ t₀.totalLines ∧ t₀.totalLines ≤ 2048) ∧
    25000 ≤ t₀.pixelClock ∧ t₀.pixelClock ≤ 165000) ∧
  (∀ (s : State) (r : Request) (rest : List Request) (h : HeadId) (t₀ : Timing), Takes s r rest 0x30 →
    r.payload = byteOf h.val :: (leBytes 2 t₀.activeWidth ++ leBytes 2 t₀.activeLines ++
      leBytes 2 t₀.totalWidth ++ leBytes 2 t₀.totalLines ++ leBytes 4 t₀.pixelClock) →
    t₀.activeWidth < 65536 → t₀.activeLines < 65536 → t₀.totalWidth < 65536 → t₀.totalLines < 65536 →
    t₀.pixelClock < 4294967296 →
    (t₀.inRange = false → Refuses .headTiming s r rest .badValue) ∧
    (t₀.inRange = true → (s.head h).state ≠ .off → Refuses .headTiming s r rest .wrongState) ∧
    (t₀.inRange = true → (s.head h).state = .off →
      Performs .headTiming s r rest (.ok []) [.heads] fun t => OtherHeads h s t ∧
        t.head h = { s.head h with timing := some t₀ })) ∧
  (∀ (s : State) (r : Request) (rest : List Request) (h : HeadId), Takes s r rest 0x33 →
    (∀ b : Byte, r.payload = [byteOf h.val, b] → 2 ≤ b.toNat → Refuses .headMute s r rest .badValue) ∧
    (∀ on : Bool, r.payload = [byteOf h.val, flagByte on] →
      ((s.head h).state = .off → Refuses .headMute s r rest .wrongState) ∧
      ((s.head h).state ≠ .off →
        Performs .headMute s r rest (.ok []) [.heads] fun t => OtherHeads h s t ∧
          t.head h = { s.head h with state := if on then .muted else .running }))) ∧
  ∀ (s : State) (r : Request) (rest : List Request) (h : HeadId) (c m : Triple), Takes s r rest 0x34 →
    r.payload = [byteOf h.val, c.y, c.cb, c.cr, m.y, m.cb, m.cr] →
    Performs .headBackground s r rest (.ok []) [.heads] fun t => OtherHeads h s t ∧
      t.head h = { s.head h with background := c, muteColour := m }

/-- HEAD_ON starts an OFF head whose active scene is valid for its timing record; its checks are taken in the
order of R54. -/
def Obligations.HeadOnStartsTheHead : Prop :=
  ∀ (s : State) (r : Request) (rest : List Request) (h : HeadId), Takes s r rest 0x31 →
    r.payload = [byteOf h.val] →
    ((s.head h).state ≠ .off ∨ (s.head h).timing = none → Refuses .headOn s r rest .wrongState) ∧
    ∀ t₀, (s.head h).state = .off → (s.head h).timing = some t₀ →
      (∀ k why, s.validate (some t₀) (s.head h).activeScene = some (k, why) →
        Performs .headOn s r rest ⟨.invalidScene, [byteOf k, why.byte]⟩ [] fun _ => True) ∧
      (s.validate (some t₀) (s.head h).activeScene = none →
        Performs .headOn s r rest (.ok []) [.heads] fun t => OtherHeads h s t ∧
          t.head h = { s.head h with
            state := .running
            boundaryCount := 0
            follow := { (s.head h).follow with
              state := .freeRun, runCount := 0, phaseError := none, loss := .clear } })

/-- HEAD_OFF of a RUNNING or MUTED head releases its windows' references and clears their state, applies a
pending present, ends its shape load, empties its ancillary queue and stops following, with the notices of
those steps in their order; what R56 says it keeps is kept. The record of a slot is the one that the releases of the
windows on it leave, each of which takes one reference (and frees a HELD slot with its last) and keeps source, number,
geometry and shown flag. A slot so freed joins the tail of the free list at that release, in ascending order of
window position. On an OFF head nothing changes. -/
def Obligations.HeadOffStopsTheHead : Prop :=
  ∀ (s : State) (r : Request) (rest : List Request) (h : HeadId) (a : Head), Takes s r rest 0x32 →
    r.payload = [byteOf h.val] → a = s.head h →
    (a.state = .off → Performs .headOff s r rest (.ok []) [] fun _ => True) ∧
    (a.state ≠ .off →
      Performs .headOff s r rest (.ok []) [.heads, .pool, .library, .loader, .notices] fun t =>
        OtherHeads h s t ∧
        t.head h = { a with
          state := .off
          presentPending := false
          frameLines := none
          frame := none
          activeScene := if a.presentPending then a.pendingScene else a.activeScene
          selection := Vector.replicate 12 ⟨none, none, 0⟩
          cursor := { a.cursor with back := .empty, waiting := none }
          anc := { a.anc with queue := [], contents := none }
          follow := { a.follow with
            state := .freeRun, runCount := 0, phaseError := none, loss := .clear } } ∧
        t.loader.queue = s.loader.queue.filter (fun e => decide (e.1 ≠ h)) ∧
        t.loader.job = s.loader.job.filter (fun e => decide (e.1 ≠ h)) ∧
        (∀ held : List SlotId, held = positions.filterMap (fun p => (s.selectionAt h p).slot) →
          (∀ i, t.slot i = Nat.iterate Slot.released (held.count i) (s.slot i) ∧
            (t.slot i).refs = (s.slot i).refs - held.count i) ∧
          t.pool.freeList = s.pool.freeList ++ s.freedInOrder held) ∧
        t.pool.ready = s.pool.ready ∧ t.pool.pins = s.pool.pins ∧
        (∀ i, (t.entry i).info? = (s.entry i).info?) ∧
        t.notices = (if a.follow.state = .freeRun then id
          else fun q => q.raise (.followState h .freeRun a.follow.source 0))
          (if a.presentPending then s.notices.raise (.scenePresented h a.boundaryCount) else s.notices))

/-! ### Scenes and the picture (chapter 4) -/

/-- SCENE_PUT places a record in the pending scene, SCENE_REMOVE makes a position absent and SCENE_RESTART
reloads all twelve (from the active scene, or empty); the use counts follow the records. With a present pending
all three are refused with BUSY; SCENE_PUT refuses a malformed record (WindowRecordsReadBack says which those are), and
one that names an entry, as IMAGE content or as fallback image, that is no VALID IMAGE. The two restart codes are the model's reading of the spec's order of naming (log entry 15). -/
def Obligations.PendingSceneEdits : Prop :=
  (∀ (w : WindowRecord) (i : LibId), w.names = some i ↔ (∃ crop, w.content = .image i crop) ∨
    (∃ src policy onLoss crop freeze, w.content = .live src policy onLoss (some (.image i)) crop freeze) ∨
    ∃ pin onLoss crop, w.content = .pin pin onLoss (some (.image i)) crop) ∧
  (∀ (x : Entry) (k : EntryKind) (e : EntryInfo), x.validOf k = some e ↔ e.kind = k ∧ ∃ uses, x = .valid e uses) ∧
  ∀ (s : State) (r : Request) (rest : List Request) (h : HeadId) (a : Head), a = (s.head h) → UsesOk s →
    (Takes s r rest 0x20 → ∀ (p : Position) (record : List Byte), record.length = 35 →
      r.payload = byteOf h.val :: byteOf p.val :: record →
      (readRecord record = none → Refuses .scenePut s r rest .badValue) ∧
      ∀ w, readRecord record = some w →
        (a.presentPending = true → Refuses .scenePut s r rest .busy) ∧
        (a.presentPending = false → (∃ i, w.names = some i ∧ (s.entry i).validOf .image = none) →
          Refuses .scenePut s r rest .notFound) ∧
        (a.presentPending = false → (∀ i, w.names = some i → (s.entry i).validOf .image ≠ none) →
          Performs .scenePut s r rest (.ok []) [.heads, .library] fun t => OtherHeads h s t ∧
            t.head h = { a with pendingScene := a.pendingScene.set p (some w) } ∧ UsesOk t ∧
            (∀ i, (t.entry i).info? = (s.entry i).info?))) ∧
    (Takes s r rest 0x21 → ∀ p : Position, r.payload = [byteOf h.val, byteOf p.val] →
      (a.presentPending = true → Refuses .sceneRemove s r rest .busy) ∧
      (a.presentPending = false →
        Performs .sceneRemove s r rest (.ok []) [.heads, .library] fun t => OtherHeads h s t ∧
          t.head h = { a with pendingScene := a.pendingScene.set p none } ∧ UsesOk t ∧
          (∀ i, (t.entry i).info? = (s.entry i).info?))) ∧
    (Takes s r rest 0x22 → ∀ empty : Bool, r.payload = [byteOf h.val, flagByte empty] →
      (a.presentPending = true → Refuses .sceneRestart s r rest .busy) ∧
      (a.presentPending = false →
        Performs .sceneRestart s r rest (.ok []) [.heads, .library] fun t => OtherHeads h s t ∧
          t.head h = { a with
            pendingScene := if empty then Vector.replicate 12 none else a.activeScene } ∧
          UsesOk t ∧ (∀ i, (t.entry i).info? = (s.entry i).info?)))

/-- SCENE_PRESENT: BUSY with a present pending; INVALID_SCENE with the failing position and reason, by the codes of
R183; on an OFF
head the pending scene becomes active at once, with cleared selection state; on another head the present is
pending and the reply ACCEPTED. -/
def Obligations.ScenePresentSwapsOrWaits : Prop :=
  (Reason.noTiming.byte = 1 ∧ Reason.outside.byte = 2 ∧ Reason.scale.byte = 3 ∧ Reason.imageBounds.byte = 4 ∧
    Reason.overlap.byte = 5) ∧
  ∀ (s : State) (r : Request) (rest : List Request) (h : HeadId) (a : Head), Takes s r rest 0x24 →
    r.payload = [byteOf h.val] → a = s.head h →
    (a.presentPending = true → Refuses .scenePresent s r rest .busy) ∧
    (a.presentPending = false →
      (∀ k why, s.validate a.timing a.pendingScene = some (k, why) →
        Performs .scenePresent s r rest ⟨.invalidScene, [byteOf k, why.byte]⟩ [] fun _ => True) ∧
      (s.validate a.timing a.pendingScene = none → a.state ≠ .off →
        Performs .scenePresent s r rest ⟨.accepted, []⟩ [.heads] fun t => OtherHeads h s t ∧
          t.head h = { a with presentPending := true }) ∧
      (s.validate a.timing a.pendingScene = none → a.state = .off → ReferencesOk s → UsesOk s →
        Performs .scenePresent s r rest (.ok []) [.heads, .library, .pool] fun t => OtherHeads h s t ∧
          t.head h = { a with
            activeScene := a.pendingScene, selection := Vector.replicate 12 ⟨none, none, 0⟩ } ∧
          t.pool = s.pool ∧ UsesOk t ∧ (∀ i, (t.entry i).info? = (s.entry i).info?)))

/-- A head with no timing record has no valid scene: NO_TIMING at 255. With one, a scene is valid exactly when no
record of it fails a test of R81 and R82, and a failure names the lowest position that fails one and the first of the
tests OUTSIDE, SCALE, IMAGE_BOUNDS and OVERLAP that it fails. So in a valid scene every destination lies in the active
area, and no two windows of one layer share a pixel. -/
def Obligations.ValidScenesFitAndDoNotOverlap : Prop :=
  ∀ (s : State) (sc : Scene), s.validate none sc = some (255, .noTiming) ∧
    ∀ t₀ : Timing,
      (s.validate (some t₀) sc = none ↔ ∀ p w why, sc[p] = some w → ¬ s.FailsTest t₀ sc p w why) ∧
      (∀ (k : Nat) (why : Reason), s.validate (some t₀) sc = some (k, why) ↔
        ∃ (p : Position) (w : WindowRecord), k = p.val ∧ sc[p] = some w ∧ s.FailsTest t₀ sc p w why ∧
          (∀ first : Reason, first.byte.toNat < why.byte.toNat → ¬ s.FailsTest t₀ sc p w first) ∧
          ∀ (q : Position) (v : WindowRecord) (other : Reason), q < p → sc[q] = some v →
            ¬ s.FailsTest t₀ sc q v other) ∧
      (s.validate (some t₀) sc = none →
        (∀ (p : Position) (w : WindowRecord), sc[p] = some w →
          w.destination.x + w.destination.w ≤ t₀.activeWidth ∧
          w.destination.y + w.destination.h ≤ t₀.activeLines) ∧
        ∀ (p q : Position) (w v : WindowRecord) (x y : Nat), p ≠ q → sc[p] = some w → sc[q] = some v →
          w.layer = v.layer → ¬(w.destination.has x y = true ∧ v.destination.has x y = true))

/-- The picture of a head: a frame drawn muted is the mute colour. A pixel of a frame drawn composed begins as the
background, and the windows whose destinations contain it are laid over it in ascending order of layer, each over
the value beneath it; with no such window it is the background. A visible cursor with a shape acts on the composed
value at its pixels, by the two bits of each, bits 7 and 6 of a byte first, and nowhere else. A blend is
floor((a W + (16 - a) B + 8) / 16) in each component, so that an opaque window hides what lies beneath; INVERT is 255
less each component. (The picture is a function of the state, log entry 18.) -/
def Obligations.PictureIsComposedFromTheScene : Prop :=
  (∀ (s : State) (h : HeadId) (d : DrawnFrame) (x y : Nat),
    (d.muted = true → s.activePixel h d x y = d.muteColour) ∧
    ((∀ (p : Position) (w : WindowRecord), (s.head h).activeScene[p] = some w →
        w.destination.has x y = false) → s.composed h d x y = d.background) ∧
    (HeadOk (s.head h) → ∀ windows : List (Position × WindowRecord),
      (∀ p w, (p, w) ∈ windows ↔ (s.head h).activeScene[p] = some w ∧
        w.destination.x ≤ x ∧ x < w.destination.x + w.destination.w ∧
        w.destination.y ≤ y ∧ y < w.destination.y + w.destination.h) →
      windows.Pairwise (fun a b => a.2.layer < b.2.layer) →
      s.composed h d x y =
        windows.foldl (fun beneath a => s.windowPixel h d a.1 a.2 x y beneath) d.background) ∧
    (d.muted = false → (s.head h).cursor.front = none ∨ d.cursorVisible = false →
      s.activePixel h d x y = s.composed h d x y) ∧
    (d.muted = false → d.cursorVisible = true → ∀ sh, (s.head h).cursor.front = some sh →
      (∀ sx sy : Nat, (x : Int) = (s.head h).cursor.x + sx → (y : Int) = (s.head h).cursor.y + sy →
        sx < sh.width → sy < sh.height →
        s.activePixel h d x y = cursorValue d
          ((byteAt sh.bytes (sy * (sh.width / 4) + sx / 4)).toNat / 2 ^ (6 - 2 * (sx % 4)) % 4)
          (s.composed h d x y)) ∧
      ((∀ sx sy : Nat, (x : Int) = (s.head h).cursor.x + sx → (y : Int) = (s.head h).cursor.y + sy →
        ¬(sx < sh.width ∧ sy < sh.height)) → s.activePixel h d x y = s.composed h d x y))) ∧
  (∀ (a : Nat) (w b : Triple), a ≤ 16 →
    (blend a w b).y.toNat = (a * w.y.toNat + (16 - a) * b.y.toNat + 8) / 16 ∧
    (blend a w b).cb.toNat = (a * w.cb.toNat + (16 - a) * b.cb.toNat + 8) / 16 ∧
    (blend a w b).cr.toNat = (a * w.cr.toNat + (16 - a) * b.cr.toNat + 8) / 16) ∧
  (∀ w b : Triple, blend 16 w b = w) ∧
  ∀ (d : DrawnFrame) (c : Triple), cursorValue d 0 c = c ∧ cursorValue d 1 c = d.colourA ∧
    cursorValue d 2 c = d.colourB ∧ (cursorValue d 3 c).y.toNat = 255 - c.y.toNat ∧
    (cursorValue d 3 c).cb.toNat = 255 - c.cb.toNat ∧ (cursorValue d 3 c).cr.toNat = 255 - c.cr.toNat

/-- What a window makes of pixel (i, j) of its destination over the value beneath it, always at its opacity: the
border's colour where a side of its border takes the pixel; else the flat colour of a FILL; the sampled pixel of an
IMAGE, from its crop or the whole image; for LIVE and PIN the sampled pixel of its current frame, from its crop within
the frame or the whole frame, unless it has no current frame, or the region is empty or out of ratio, when it shows
its fallback: an image drawn whole, a colour, or the background. The stored pixel is read at its own address, its
chroma from its even-aligned pair. A pixel of DRAM that was not read in time is the business of FETCH_SHORTFALL. (The
order of bytes inside a slot is log entry 6.) -/
def Obligations.WindowsDrawTheirContent : Prop :=
  ∀ (s : State) (h : HeadId) (d : DrawnFrame) (p : Position) (w : WindowRecord) (i j x y : Nat)
      (beneath : Triple), i < w.destination.w → j < w.destination.h → x = w.destination.x + i →
    y = w.destination.y + j →
    (∀ b, w.border = some b → b.Takes w.destination i j →
      s.windowPixel h d p w x y beneath = blend w.opacity b.colour beneath) ∧
    ((∀ b, w.border = some b → ¬ b.Takes w.destination i j) →
      (∀ c, w.content = .fill c → s.windowPixel h d p w x y beneath = blend w.opacity c beneath) ∧
      ((∀ m ∈ d.missed, m ≠ (y, ⟨p, x⟩)) →
        (∀ id crop e, w.content = .image id crop → (s.entry id).info? = some e →
          s.windowPixel h d p w x y beneath =
            blend w.opacity (s.imagePixel e crop w.destination i j) beneath) ∧
        ∀ (fb : Option Fallback) (crop : Option Rect),
          (∃ src policy onLoss freeze, w.content = .live src policy onLoss fb crop freeze) ∨
            (∃ pin onLoss, w.content = .pin pin onLoss fb crop) →
          ((s.selectionAt h p).current = none →
            s.windowPixel h d p w x y beneath =
              blend w.opacity (s.fallbackPixel fb d.background w.destination i j) beneath) ∧
          ∀ (c : CurrentFrame) (f : StoredFrame) (region : Rect), (s.selectionAt h p).current = some c →
            (s.slot c.slot).frame? = some f →
            region = (match crop with
              | none => ⟨0, 0, f.geometry.width, f.geometry.height⟩
              | some r => ⟨r.x, r.y, min (r.x + r.w) f.geometry.width - r.x,
                  min (r.y + r.h) f.geometry.height - r.y⟩) →
            (0 < region.w ∧ 0 < region.h ∧ RatiosFit region.w region.h w.destination →
              s.windowPixel h d p w x y beneath = blend w.opacity
                (s.sampled (1843200 * c.slot.val) f.geometry.width region w.destination i j) beneath) ∧
            (¬(0 < region.w ∧ 0 < region.h ∧ RatiosFit region.w region.h w.destination) →
              s.windowPixel h d p w x y beneath =
                blend w.opacity (s.fallbackPixel fb d.background w.destination i j) beneath)))

/-- One output frame as Figure 3-1 gives it, by pixel period k of line n, lines counted from 1 at the boundary:
vertical sync on lines 1 to 3, horizontal sync on the 16 periods behind the active width of every line; the active
lines at the end of the frame carry the active pixels; blanking is black, but for the ancillary line, which carries
the 32 cells of its pair, each of floor(active width / 32) periods, at luma 180 or 16, and blank periods after them.
The cells of Table 8-2: run-in 1, 0, 1, 0, 1, 0, 1, 0; start code 1, 1, 0, 1; the two characters, bit 7 first, each
with odd parity in bit 7; 0, 0, 0, 0. An OFF head drives inactive syncs and black. (That the blanking level is black,
and that the signal is a function of the state, is log entry 18.) -/
def Obligations.SignalFollowsTheFrameFigure : Prop :=
  (∀ (s : State) (h : HeadId) (n k total : Nat) (t₀ : Timing) (d : DrawnFrame), HeadOk (s.head h) →
    (s.head h).timing = some t₀ → (s.head h).frameLines = some total → (s.head h).frame = some d →
    1 ≤ n → n ≤ total → k < t₀.totalWidth →
    ((s.headSignal h n k).vsync = true ↔ n ≤ 3) ∧
    ((s.headSignal h n k).hsync = true ↔ t₀.activeWidth ≤ k ∧ k < t₀.activeWidth + 16) ∧
    (t₀.activeWidth ≤ k → (s.headSignal h n k).pixel = ⟨16, 128, 128⟩) ∧
    (k < t₀.activeWidth →
      (∀ line, n = (total - t₀.activeLines) + 1 + line →
        line < t₀.activeLines ∧ (s.headSignal h n k).pixel = s.activePixel h d k line) ∧
      (n ≤ total - t₀.activeLines →
        ((∀ pair, (s.head h).anc.contents ≠ some (n, pair)) →
          (s.headSignal h n k).pixel = ⟨16, 128, 128⟩) ∧
        ∀ (pair : CharPair) (cell : Nat), (s.head h).anc.contents = some (n, pair) →
          cell = k / (t₀.activeWidth / 32) →
          (32 ≤ cell → (s.headSignal h n k).pixel = ⟨16, 128, 128⟩) ∧
          ((ancCells pair)[cell]? = some true → (s.headSignal h n k).pixel = ⟨180, 128, 128⟩) ∧
          ((ancCells pair)[cell]? = some false → (s.headSignal h n k).pixel = ⟨16, 128, 128⟩)))) ∧
  (∀ (s : State) (h : HeadId) (n k : Nat), HeadOk (s.head h) → (s.head h).state = .off →
    s.headSignal h n k = ⟨false, false, ⟨16, 128, 128⟩⟩) ∧
  (∀ p : CharPair, (ancCells p).length = 32 ∧
    (ancCells p).take 12 = [true, false, true, false, true, false, true, false, true, true, false, true] ∧
    (∀ k, k < 8 → (ancCells p).getD (12 + k) false = (parityByte p.first).getLsbD (7 - k) ∧
      (ancCells p).getD (20 + k) false = (parityByte p.second).getLsbD (7 - k)) ∧
    (ancCells p).drop 28 = [false, false, false, false]) ∧
  ∀ c : BitVec 7, ((List.range 8).filter fun k => (parityByte c).getLsbD k).length % 2 = 1 ∧
    (parityByte c).setWidth 7 = c

/-- The 35 bytes of a window record, field by field as Table 11-7 gives them, and the ranges of Table 4-3. 35 bytes
read as a record exactly when they are those of a record in range. So a record in range reads back as itself, and
every other 35 bytes are refused: a field out of range, and a byte that is not zero where kind or presence carry no
field. -/
def Obligations.WindowRecordsReadBack : Prop :=
  (∀ w : WindowRecord, w.bytes = recordLayout w ∧ w.bytes.length = 35) ∧
  (∀ w : WindowRecord, w.inRange = true ↔
    (∀ c, w.Crops c → (c.x ≤ 1279 ∧ c.y ≤ 719) ∧ (1 ≤ c.w ∧ c.w ≤ 1280) ∧ (1 ≤ c.h ∧ c.h ≤ 720) ∧
      c.x + c.w ≤ 1280 ∧ c.y + c.h ≤ 720) ∧
    (w.destination.x ≤ 1919 ∧ w.destination.y ≤ 1079) ∧ (8 ≤ w.destination.w ∧ w.destination.w ≤ 1920) ∧
    (8 ≤ w.destination.h ∧ w.destination.h ≤ 1080) ∧ w.layer ≤ 15 ∧ (1 ≤ w.opacity ∧ w.opacity ≤ 16) ∧
    ∀ b, w.border = some b → (b.left = true ∨ b.right = true ∨ b.top = true ∨ b.bottom = true) ∧
      1 ≤ b.width ∧ b.width ≤ 8) ∧
  ∀ (bytes : List Byte) (w : WindowRecord), bytes.length = 35 →
    (readRecord bytes = some w ↔ w.inRange = true ∧ w.bytes = bytes)

/-! ### The image library (chapter 6) -/

/-- The sizes of Table 6-3, the byte total and the block count of R113, and the bytes of kind and id.
LIB_OPEN of an EMPTY entry, with fewer than two uploads in progress, places the entry at the lowest block
from which enough consecutive blocks are free, and makes it RECEIVING with nothing received; with no such run
it is refused with NO_SPACE. The checks before are those of R117.
LIB_SPACE tells the truth: the free block count with the blocks of the entries makes 5,584, a run of n blocks
is free exactly when n is at most the largest run, and the reported first block is the lowest of such a run. -/
def Obligations.LibOpenPlacesByFirstFit : Prop :=
  (∀ w h : Nat,
    (sizeInRange .image w h = true ↔ (16 ≤ w ∧ w ≤ 1280 ∧ w % 2 = 0) ∧ 16 ≤ h ∧ h ≤ 720) ∧
    (sizeInRange .sprite w h = true ↔ (8 ≤ w ∧ w ≤ 64 ∧ w % 4 = 0) ∧ 8 ≤ h ∧ h ≤ 64)) ∧
  (∀ e : EntryInfo, (e.kind = .image → e.byteTotal = e.width * e.height * 2) ∧
    (e.kind = .sprite → e.byteTotal = e.width * e.height / 4) ∧
    e.blockCount = e.byteTotal / 4096 + if e.byteTotal % 4096 = 0 then 0 else 1) ∧
  (EntryKind.image.byte = 0 ∧ EntryKind.sprite.byte = 1 ∧ ∀ i : LibId, (libIdByte i).toNat = i.val + 1) ∧
  (∀ (s : State) (r : Request) (rest : List Request) (i : LibId) (k : EntryKind) (w h : Nat) (check : BitVec 32)
      (e : EntryInfo), Takes s r rest 0x40 → w < 65536 → h < 65536 →
    r.payload = libIdByte i :: k.byte :: (leBytes 2 w ++ leBytes 2 h ++ leBytes 4 check.toNat) →
    e = ⟨k, w, h, check, 0⟩ → LibraryOk s →
    (sizeInRange k w h = false → Refuses .libOpen s r rest .badValue) ∧
    (sizeInRange k w h = true → s.entry i ≠ .empty → Refuses .libOpen s r rest .wrongState) ∧
    (sizeInRange k w h = true → s.entry i = .empty → 2 ≤ s.library.uploads →
      Refuses .libOpen s r rest .limit) ∧
    (sizeInRange k w h = true → s.entry i = .empty → s.library.uploads < 2 →
      ((∀ b, ¬ s.library.runFree b e.blockCount) → Refuses .libOpen s r rest .noSpace) ∧
      ∀ b, s.library.runFree b e.blockCount → (∀ b', b' < b → ¬ s.library.runFree b' e.blockCount) →
        Performs .libOpen s r rest (.ok (leBytes 2 b ++ leBytes 2 e.blockCount)) [.library] fun t =>
          OtherEntries i s t ∧ t.entry i = .receiving { e with firstBlock := b } 0)) ∧
  (∀ s : State, LibraryOk s →
    s.library.freeCount + (s.library.extents.map Extent.count).sum = 5584 ∧
    (∀ n, 1 ≤ n → (n ≤ s.library.largestRun ↔ ∃ b, s.library.runFree b n)) ∧
    (1 ≤ s.library.largestRun → s.library.runFree s.library.largestRunFirst s.library.largestRun ∧
      ∀ b, b < s.library.largestRunFirst → ¬ s.library.runFree b s.library.largestRun))

/-- LIB_DATA at the received count stores its bytes at their places in the entry's blocks and advances the
count; no other byte of DRAM changes. Another offset is refused with OUT_OF_ORDER and the count, bytes past the
total with BAD_LENGTH, and an entry that is not RECEIVING with WRONG_STATE. -/
def Obligations.LibDataStoresTheStream : Prop :=
  ∀ (s : State) (r : Request) (rest : List Request) (i : LibId) (off : Nat) (data : List Byte),
    Takes s r rest 0x41 → r.payload = libIdByte i :: (leBytes 4 off ++ data) → off < 4294967296 →
    1 ≤ data.length → data.length ≤ 248 →
    ((∀ e n, s.entry i ≠ .receiving e n) → Refuses .libData s r rest .wrongState) ∧
    ∀ e n, s.entry i = .receiving e n → e.legal = true →
      (off ≠ n → Performs .libData s r rest ⟨.outOfOrder, leBytes 4 n⟩ [] fun _ => True) ∧
      (off = n → e.byteTotal < n + data.length → Refuses .libData s r rest .badLength) ∧
      (off = n → n + data.length ≤ e.byteTotal →
        Performs .libData s r rest (.ok (leBytes 4 (n + data.length))) [.library, .dram] fun t =>
          OtherEntries i s t ∧ t.entry i = .receiving e (n + data.length) ∧
          (∀ k, k < data.length →
            t.dramByte (BitVec.ofNat 26 (44236800 + (e.firstBlock + (n + k) / 4096) * 4096 + (n + k) % 4096)) =
              data.getD k 0) ∧
          ∀ a, (∀ k, k < data.length → a ≠
              BitVec.ofNat 26 (44236800 + (e.firstBlock + (n + k) / 4096) * 4096 + (n + k) % 4096)) →
            SameByte s t a)

/-- The rest of an entry's life: LIB_CLOSE of a complete upload queues it for verification; the verify result
makes the entry at the head of the verify queue VALID with use count 0 when its CRC-32 is the expected one, else
EMPTY; the inactivity timer abandons a RECEIVING entry; LIB_DELETE empties a RECEIVING entry or an unused VALID
one. The CRC-32 is the one of R121, over the byte total's bytes from the start of the extent. Each with its reply or
notice, and every other case refused as R120 and R123 give. An expiry or a result with
nothing to act on changes nothing (log entry 2). -/
def Obligations.UploadsEndAsTheyShould : Prop :=
  (∀ bytes : List Byte, crc32 bytes = bytes.foldl crc32Register 0xFFFFFFFF ^^^ 0xFFFFFFFF) ∧
  (∀ (s : State) (e : EntryInfo), (s.entryBytes e).length = e.byteTotal ∧
    ∀ k, k < e.byteTotal →
      (s.entryBytes e).getD k 0 = s.dramByte (BitVec.ofNat 26 (44236800 + 4096 * e.firstBlock + k))) ∧
  (∀ (s : State) (r : Request) (rest : List Request) (i : LibId), Takes s r rest 0x42 →
    r.payload = [libIdByte i] →
    ((∀ e n, s.entry i ≠ .receiving e n) → Refuses .libClose s r rest .wrongState) ∧
    ∀ e n, s.entry i = .receiving e n →
      (n < e.byteTotal → Refuses .libClose s r rest .badLength) ∧
      (e.byteTotal ≤ n →
        Performs .libClose s r rest ⟨.accepted, []⟩ [.library] fun t => t.entry i = .verifying e ∧
          (∀ j, j ≠ i → t.entry j = s.entry j) ∧
          t.library.verifyQueue = s.library.verifyQueue ++ [i])) ∧
  (∀ s : State, s.device.phase = .ready →
    (s.library.verifyQueue = [] → exec .verifyResult s = .next s) ∧
    ∀ i rest e, s.library.verifyQueue = i :: rest → s.entry i = .verifying e →
      ∃ t, exec .verifyResult s = .next t ∧ OnlyChanges [.library, .notices] s t ∧
        (∀ j, j ≠ i → t.entry j = s.entry j) ∧ t.library.verifyQueue = rest ∧
        (crc32 (s.entryBytes e) = e.check →
          t.entry i = .valid e 0 ∧ t.notices = s.notices.raise (.uploadVerified i e)) ∧
        (crc32 (s.entryBytes e) ≠ e.check →
          t.entry i = .empty ∧
          t.notices = s.notices.raise (.uploadFailed i e.check (crc32 (s.entryBytes e))))) ∧
  (∀ (s : State) (i : LibId), s.device.phase = .ready →
    ((∀ e n, s.entry i ≠ .receiving e n) → exec (.inactivityTimerExpiry i) s = .next s) ∧
    ∀ e n, s.entry i = .receiving e n →
      ∃ t, exec (.inactivityTimerExpiry i) s = .next t ∧ OnlyChanges [.library, .notices] s t ∧
        OtherEntries i s t ∧ t.entry i = .empty ∧ t.notices = s.notices.raise (.uploadAbandoned i n)) ∧
  ∀ (s : State) (r : Request) (rest : List Request) (i : LibId), Takes s r rest 0x43 →
    r.payload = [libIdByte i] →
    (s.entry i = .empty → Refuses .libDelete s r rest .notFound) ∧
    (∀ e, s.entry i = .verifying e → Refuses .libDelete s r rest .busy) ∧
    (∀ e n, s.entry i = .valid e n → 0 < n →
      Performs .libDelete s r rest ⟨.inUse, [byteOf n]⟩ [] fun _ => True) ∧
    ((∃ e n, s.entry i = .receiving e n) ∨ (∃ e, s.entry i = .valid e 0) →
      Performs .libDelete s r rest (.ok []) [.library] fun t => OtherEntries i s t ∧ t.entry i = .empty)

/-! ### The cursor and the shape loader (chapter 7) -/

/-- CURSOR_SHAPE of a VALID SPRITE is ACCEPTED and placed by the head's job: at the tail of the loader queue, in
place of its queued id, or as the waiting request behind its running load. Any other entry is NOT_FOUND. -/
def Obligations.CursorShapeIsPlacedByTheJob : Prop :=
  ∀ (s : State) (r : Request) (rest : List Request) (h : HeadId) (i : LibId), Takes s r rest 0x50 →
    r.payload = [byteOf h.val, libIdByte i] →
    ((s.entry i).validOf .sprite = none → Refuses .cursorShape s r rest .notFound) ∧
    ((s.entry i).validOf .sprite ≠ none → ∀ running : Bool,
      (running = true ↔ ∃ j, s.loader.job = some (h, j)) →
      (running = true →
        PerformsReporting .cursorShape s r rest .accepted (fun t => cursorReport t h) [.heads] fun t =>
          OtherHeads h s t ∧
          t.head h = { s.head h with cursor := { (s.head h).cursor with waiting := some i } }) ∧
      (running = false → (∀ j, (h, j) ∉ s.loader.queue) →
        PerformsReporting .cursorShape s r rest .accepted (fun t => cursorReport t h) [.loader] fun t =>
          t.loader = ⟨s.loader.queue ++ [(h, i)], s.loader.job⟩) ∧
      (running = false → (∃ j, (h, j) ∈ s.loader.queue) →
        PerformsReporting .cursorShape s r rest .accepted (fun t => cursorReport t h) [.loader] fun t =>
          t.loader = ⟨s.loader.queue.map (fun e => if e.1 = h then (h, i) else e), s.loader.job⟩))

/-- A job start takes the oldest queued entry of an idle loader: a VALID SPRITE begins loading into the head's
back buffer, whose earlier shape is replaced, and counts one use; anything else ends with SHAPE_FAILED. A
completion leaves the copy LOADED and hands the head's waiting request to the tail of the queue; that the copy is of
the entry's bytes at the completion is log entry 14. A start without a queued entry or with a job running, and a
completion without a job, change nothing (log entry 2). -/
def Obligations.ShapeLoaderServesTheQueue : Prop :=
  (∀ (s : State) (h : HeadId) (i : LibId) (queue : List (HeadId × LibId)), s.device.phase = .ready →
    s.loader = ⟨(h, i) :: queue, none⟩ → UsesOk s →
    ((s.entry i).validOf .sprite = none →
      ∃ t, exec .jobStart s = .next t ∧ OnlyChanges [.loader, .notices] s t ∧ t.loader = ⟨queue, none⟩ ∧
        t.notices = s.notices.raise (.shapeFailed h i)) ∧
    ((s.entry i).validOf .sprite ≠ none →
      ∃ t, exec .jobStart s = .next t ∧ OnlyChanges [.loader, .heads, .library] s t ∧
        t.loader = ⟨queue, some (h, i)⟩ ∧ OtherHeads h s t ∧
        t.head h = { s.head h with cursor := { (s.head h).cursor with back := .loading i } } ∧
        UsesOk t ∧ ∀ j, (t.entry j).info? = (s.entry j).info?)) ∧
  (∀ s : State, s.device.phase = .ready → (s.loader.queue = [] ∨ s.loader.job ≠ none) →
    exec .jobStart s = .next s) ∧
  (∀ s : State, s.device.phase = .ready → s.loader.job = none → exec .shapeLoadCompletion s = .next s) ∧
  ∀ (s : State) (h : HeadId) (i : LibId) (e : EntryInfo), s.device.phase = .ready →
    s.loader.job = some (h, i) → (s.entry i).info? = some e →
    ∃ t, exec .shapeLoadCompletion s = .next t ∧ OnlyChanges [.loader, .heads] s t ∧ OtherHeads h s t ∧
      t.head h = { s.head h with cursor := { (s.head h).cursor with
        back := .loaded ⟨i, e.width, e.height, s.entryBytes e⟩, waiting := none } } ∧
      (∀ j, (s.head h).cursor.waiting = some j → t.loader = ⟨s.loader.queue ++ [(h, j)], none⟩) ∧
      ((s.head h).cursor.waiting = none → t.loader = ⟨s.loader.queue, none⟩)

/-- CURSOR_MOVE makes a position within range the pending position; CURSOR_SHOW sets, clears or keeps visible;
CURSOR_PALETTE sets the two colours. Each answers OK with the cursor report, taken after its change, and
changes nothing else. -/
def Obligations.CursorSettingsAreStored : Prop :=
  ∀ (s : State) (r : Request) (rest : List Request) (h : HeadId) (c : Cursor), c = (s.head h).cursor →
    (∀ x y : BitVec 16, Takes s r rest 0x51 →
      r.payload = byteOf h.val :: (leBytes 2 x.toNat ++ leBytes 2 y.toNat) →
      ∀ width height : Int,
        (width, height) = (match (s.head h).timing with
          | some t₀ => ((t₀.activeWidth : Int), (t₀.activeLines : Int))
          | none => (1920, 1080)) →
        (¬(-63 ≤ x.toInt ∧ x.toInt ≤ width - 1 ∧ -63 ≤ y.toInt ∧ y.toInt ≤ height - 1) →
          Refuses .cursorMove s r rest .badValue) ∧
        (-63 ≤ x.toInt ∧ x.toInt ≤ width - 1 ∧ -63 ≤ y.toInt ∧ y.toInt ≤ height - 1 →
          PerformsReporting .cursorMove s r rest .ok (fun t => cursorReport t h) [.heads] fun t =>
            OtherHeads h s t ∧ t.head h = { s.head h with
              cursor := { c with pendingPosition := some (x.toInt, y.toInt) } })) ∧
    (∀ mode : Byte, Takes s r rest 0x52 → r.payload = [byteOf h.val, mode] →
      (2 < mode.toNat → Refuses .cursorShow s r rest .badValue) ∧
      (mode.toNat ≤ 2 →
        PerformsReporting .cursorShow s r rest .ok (fun t => cursorReport t h) [.heads] fun t =>
          OtherHeads h s t ∧ t.head h = { s.head h with
            cursor := { c with visible := if mode = 2 then c.visible else decide (mode = 1) } })) ∧
    ∀ a b : Triple, Takes s r rest 0x53 → r.payload = [byteOf h.val, a.y, a.cb, a.cr, b.y, b.cb, b.cr] →
      PerformsReporting .cursorPalette s r rest .ok (fun t => cursorReport t h) [.heads] fun t =>
        OtherHeads h s t ∧ t.head h = { s.head h with cursor := { c with colourA := a, colourB := b } }

/-! ### The ancillary inserter (chapter 8) -/

/-- ANC_CONFIG stores its four items together or refuses them; ANC_PUSH appends all of its pairs, refuses an
8-bit character, and refuses what would pass 32 pairs; ANC_FLUSH empties the queue. Each answers OK with the
inserter report, taken after its change, and changes nothing else of the head. -/
def Obligations.InserterRequestsActOnTheQueue : Prop :=
  ∀ (s : State) (r : Request) (rest : List Request) (h : HeadId) (a : Ancillary), a = (s.head h).anc →
    (∀ enable line first second mark : Byte, Takes s r rest 0x58 →
      r.payload = [byteOf h.val, enable, line, first, second, mark] →
      (1 < enable.toNat ∨ line.toNat = 0 ∨ 8 < line.toNat ∨ 127 < first.toNat ∨ 127 < second.toNat ∨
          31 < mark.toNat → Refuses .ancConfig s r rest .badValue) ∧
      (enable.toNat ≤ 1 → 1 ≤ line.toNat → line.toNat ≤ 8 → first.toNat ≤ 127 → second.toNat ≤ 127 →
          mark.toNat ≤ 31 →
        PerformsReporting .ancConfig s r rest .ok (fun t => inserterReport (t.head h).anc) [.heads] fun t =>
          OtherHeads h s t ∧ t.head h = { s.head h with anc := { a with
            enable := decide (enable = 1), line := line.toNat
            defaultPair := ⟨first.setWidth 7, second.setWidth 7⟩, lowMark := mark.toNat } })) ∧
    (∀ pairs : List CharPair, Takes s r rest 0x59 → 1 ≤ pairs.length → pairs.length ≤ 16 →
      r.payload = byteOf h.val :: (pairs.map CharPair.bytes).flatten →
      (32 < a.queue.length + pairs.length → Refuses .ancPush s r rest .ancFull) ∧
      (a.queue.length + pairs.length ≤ 32 →
        PerformsReporting .ancPush s r rest .ok (fun t => inserterReport (t.head h).anc) [.heads] fun t =>
          OtherHeads h s t ∧
          t.head h = { s.head h with anc := { a with queue := a.queue ++ pairs } })) ∧
    (∀ chars : List Byte, Takes s r rest 0x59 → r.payload = byteOf h.val :: chars → 2 ≤ chars.length →
      chars.length ≤ 32 → chars.length % 2 = 0 → (∃ b ∈ chars, 127 < b.toNat) →
      Refuses .ancPush s r rest .badValue) ∧
    (Takes s r rest 0x5A → r.payload = [byteOf h.val] →
      PerformsReporting .ancFlush s r rest .ok (fun t => inserterReport (t.head h).anc) [.heads] fun t =>
        OtherHeads h s t ∧ t.head h = { s.head h with anc := { a with queue := [] } })

/-! ### The control link (chapter 9) -/

/-- The frame the part sends is the frame it would read: after the start byte its bytes, and no fewer, make a
good frame with the same kind, tag, code, status and payload. -/
def Obligations.FramesReadBack : Prop :=
  ∀ (kind tag code status : Byte) (payload : List Byte), payload.length ≤ 256 →
    parseFrame (frameTail kind tag code status payload) =
      .good ⟨kind, tag, code, status, payload, crc16 (frameBody kind tag code status payload)⟩ ∧
    (frameBytes kind tag code status payload).length = payload.length + 9 ∧
    ∀ k, k < (frameTail kind tag code status payload).length →
      parseFrame ((frameTail kind tag code status payload).take k) = .inLength ∨
      parseFrame ((frameTail kind tag code status payload).take k) = .inBody ∨
      parseFrame ((frameTail kind tag code status payload).take k) = .inCheck

/-- R157 and R163: a good REQUEST frame is counted and checked in order: NOT_READY while STARTING, BAD_VALUE for
a non-zero status, TAG_IN_USE for an outstanding tag, the stored reply for a repeat, QUEUE_FULL with four
outstanding, else admission at the tail of the request queue. -/
def Obligations.AdmissionChecksInOrder : Prop :=
  ∀ (s : State) (b : Byte) (f : Frame), Completes s b f → f.kind = 0x01 →
    ∃ t, exec (.request b) s = .next t ∧ OnlyChanges [.link] s t ∧
      (s.device.phase = .starting →
        t.link = s.link.afterGood.answered ⟨.immediate, f.tag, f.code, ⟨.notReady, []⟩⟩ id) ∧
      (s.device.phase ≠ .starting →
        (f.status ≠ 0 →
          t.link = s.link.afterGood.answered ⟨.immediate, f.tag, f.code, ⟨.badValue, []⟩⟩ id) ∧
        (f.status = 0 → f.tag ∈ s.link.outstanding →
          t.link = s.link.afterGood.answered ⟨.immediate, f.tag, f.code, ⟨.tagInUse, []⟩⟩ id) ∧
        (f.status = 0 → f.tag ∉ s.link.outstanding →
          (∀ l₁ m l₂, s.link.memory = l₁ ++ m :: l₂ → m.tag = f.tag → m.crc = f.crc →
            (∀ x ∈ l₁, ¬(x.tag = f.tag ∧ x.crc = f.crc)) →
            t.link = s.link.afterGood.answered ⟨.replayed, m.tag, m.code, m.reply⟩
              fun c => { c with replays := c.replays + 1 }) ∧
          ((∀ m ∈ s.link.memory, ¬(m.tag = f.tag ∧ m.crc = f.crc)) →
            (4 ≤ s.link.outstanding.length →
              t.link = s.link.afterGood.answered ⟨.immediate, f.tag, f.code, ⟨.queueFull, []⟩⟩
                fun c => { c with queueFull := c.queueFull + 1 }) ∧
            (s.link.outstanding.length < 4 →
              t.link = { s.link.afterGood with
                requestQueue := s.link.requestQueue ++ [⟨f.tag, f.code, f.payload, f.crc⟩] }))))

/-- R156 and R172: a well-formed acknowledgement of a SENT notice retires it and every older one, and the resend
timer runs on only while a SENT entry remains; any other acknowledgement is a stray one and changes no notice.
A good frame of another kind is only counted. -/
def Obligations.AcknowledgementsRetireNotices : Prop :=
  (∀ (s : State) (b : Byte) (f : Frame), Completes s b f → f.kind = 0x02 →
    (∀ n l₁ e l₂, f.status = 0 → f.payload = leBytes 2 n → s.notices.entries = l₁ ++ e :: l₂ →
      e.sequence = BitVec.ofNat 16 n → e.stage = .sent → (∀ x ∈ l₁, x.sequence ≠ e.sequence) →
      ∃ t, exec (.noticeAck b) s = .next t ∧ OnlyChanges [.link, .notices] s t ∧ t.link = s.link.afterGood ∧
        t.notices = { s.notices with
          entries := l₂, resendTimer := l₂.any fun x => decide (x.stage = .sent) }) ∧
    ((f.status ≠ 0 ∨ f.payload.length ≠ 2 ∨
        ∀ x ∈ s.notices.entries, x.stage = .sent → x.sequence ≠ BitVec.ofNat 16 (u16At f.payload 0)) →
      ∃ t, exec (.noticeAck b) s = .next t ∧ OnlyChanges [.link] s t ∧
        t.link = { s.link.afterGood with counters := { s.link.afterGood.counters with
          strayAcks := s.link.counters.strayAcks + 1 } })) ∧
  ∀ (s : State) (b : Byte) (f : Frame), Completes s b f → f.kind ≠ 0x01 → f.kind ≠ 0x02 →
    ∃ t, exec (.unknownKindFrame b) s = .next t ∧ OnlyChanges [.link] s t ∧
      t.link = { s.link with
        receiver := .hunt
        counters := { s.link.counters with unknownKinds := s.link.counters.unknownKinds + 1 } }

/-- R154 and R155: a byte in HUNT other than 0xA5 is passed over, 0xA5 begins a frame, a byte that does not
complete or break a frame joins it; a gap in a frame discards it and is counted, and in HUNT there is none (log
entry 2).
R155: a length error and a CRC error are counted, the receiver returns to HUNT, and the bytes taken after the
false start byte are then received again, in their order, exactly as bytes arriving in HUNT are: frames found
among them are taken, and errors among them treated in the same way. (That all of it happens inside the step is
log entry 9.) -/
def Obligations.ReceiverTakesBytesAndReceivesAgain : Prop :=
  ((∀ (s : State) (b : Byte), s.device.phase ≠ .held → s.link.receiver = .hunt →
    ∃ t, exec (.receivedByte b) s = .next t ∧ OnlyChanges [.link] s t ∧
      t.link = { s.link with receiver := if b = 0xA5 then .inFrame [] else .hunt }) ∧
  (∀ (s : State) (b : Byte) (held : List Byte), s.device.phase ≠ .held →
    s.link.receiver = .inFrame held →
    (parseFrame (held ++ [b]) = .inLength ∨ parseFrame (held ++ [b]) = .inBody ∨
      parseFrame (held ++ [b]) = .inCheck) →
    ∃ t, exec (.receivedByte b) s = .next t ∧ OnlyChanges [.link] s t ∧
      t.link = { s.link with receiver := .inFrame (held ++ [b]) }) ∧
  (∀ (s : State) (held : List Byte), s.device.phase ≠ .held → s.link.receiver = .inFrame held →
    ∃ t, exec .gapError s = .next t ∧ OnlyChanges [.link] s t ∧
      t.link = { s.link with
        receiver := .hunt
        counters := { s.link.counters with gapErrors := s.link.counters.gapErrors + 1 } }) ∧
  ∀ s : State, s.link.receiver = .hunt → exec .gapError s = .next s) ∧
  (∀ (s u : State) (b : Byte) (bytes : List Byte), s.device.phase ≠ .held →
    (byteEvent s.link.receiver b = .lengthError bytes → OnlyChanges [.link] s u →
      u.link = { s.link with
        receiver := .hunt
        counters := { s.link.counters with lengthErrors := s.link.counters.lengthErrors + 1 } } →
      exec (.lengthError b) s = .next (bytes.foldl State.receive u)) ∧
    (byteEvent s.link.receiver b = .crcError bytes → OnlyChanges [.link] s u →
      u.link = { s.link with
        receiver := .hunt
        counters := { s.link.counters with crcErrors := s.link.counters.crcErrors + 1 } } →
      exec (.crcError b) s = .next (bytes.foldl State.receive u)))

/-- R162 and R169: the idle transmitter begins the frame at the head of the reply line; with an empty reply line
the oldest SENT notice with resend due, or else the oldest NEW one, which becomes FIRST_SEND; a busy transmitter
begins nothing (log entry 2). The bytes are those of the frame: Table 11-3 with the CRC-16 of R153 over offsets 1 to
the end of the payload, the status codes of Table 11-6, and the code, object and payload of each notice as Tables 10-4
and 11-8 give them, with the lengths of Table 11-8. -/
def Obligations.TransmitterChoosesItsFrame : Prop :=
  (∀ (kind tag code status : Byte) (payload covered : List Byte),
    covered = leBytes 2 (4 + payload.length) ++ [kind, tag, code, status] ++ payload →
    frameBytes kind tag code status payload =
      [0xA5] ++ covered ++ leBytes 2 (covered.foldl crc16Register 0xFFFF).toNat) ∧
  (∀ (st : Status) (b : Byte), st.byte = b ↔ (st, b) ∈
    ([(.ok, 0x00), (.accepted, 0x01), (.unknownCommand, 0x10), (.badLength, 0x11), (.badValue, 0x12),
      (.wrongState, 0x13), (.busy, 0x14), (.notFound, 0x15), (.inUse, 0x16), (.noSpace, 0x17), (.noFrame, 0x18),
      (.invalidScene, 0x19), (.outOfOrder, 0x1A), (.tagInUse, 0x1B), (.queueFull, 0x1C), (.notReady, 0x1D),
      (.limit, 0x1E), (.ancFull, 0x1F)] : List (Status × Byte))) ∧
  (∀ n : Notice, (n.code, n.object, n.bytes) = noticeLayout n ∧
    (n.code, 2 + n.bytes.length) ∈
      ([(0x01, 4), (0x02, 14), (0x03, 11), (0x04, 15), (0x05, 7), (0x06, 7), (0x07, 9), (0x08, 12), (0x09, 11),
        (0x0A, 7), (0x0B, 8), (0x0C, 4), (0x0D, 8)] : List (Byte × Nat))) ∧
  ∀ s : State, s.device.phase ≠ .held → NoticesOk s →
    (s.link.transmitter ≠ none → exec .transmitBegin s = .next s) ∧
    (s.link.transmitter = none →
      (∀ e l, s.link.replyLine = e :: l →
        ∃ t, exec .transmitBegin s = .next t ∧ OnlyChanges [.link] s t ∧
          t.link = { s.link with
            replyLine := l
            transmitter := some ⟨.reply e, frameBytes (if e.origin = .replayed then 0x82 else 0x81) e.tag
              e.code e.reply.status.byte e.reply.payload⟩ }) ∧
      (s.link.replyLine = [] → ∀ l₁ e l₂, s.notices.entries = l₁ ++ e :: l₂ →
        ((e.stage = .sent ∧ e.resendDue = true ∧ ∀ x ∈ l₁, x.resendDue = false) ∨
          (e.stage = .new ∧ (∀ x ∈ s.notices.entries, x.resendDue = false) ∧
            ∀ x ∈ l₁, x.stage ≠ .new)) →
        ∃ t, exec .transmitBegin s = .next t ∧ OnlyChanges [.link, .notices] s t ∧
          t.link = { s.link with
            transmitter := some ⟨.notice e.sequence, frameBytes 0x83 0 e.notice.code (byteOf e.lost)
              (leBytes 2 e.sequence.toNat ++ e.notice.bytes)⟩ } ∧
          t.notices = { s.notices with
            entries := l₁ ++ { e with
              stage := if e.stage = .new then .firstSend else .sent, resendDue := false } :: l₂ }) ∧
      (s.link.replyLine = [] →
        (∀ x ∈ s.notices.entries, x.resendDue = false ∧ x.stage ≠ .new) →
        exec .transmitBegin s = .next s))

/-- R160, R162 and R170: the end of a frame. A posted reply is stored in the reply memory in place of one of its
tag, or else, of eight, in place of the oldest; an immediate answer ends; the first copy of a notice makes it
SENT and starts the resend timer; the end of a copy whose entry has been retired changes no notice. An idle
transmitter ends nothing (log entry 2).
R171: at the expiry of the resend timer every SENT entry whose copy is not on the line becomes due, nothing
else changes, and the timer runs on. A stopped timer does not expire (log entry 2). -/
def Obligations.FramesEndAndNoticesAreResent : Prop :=
  (∀ (straps : Straps) (s : State) (bytes : List Byte),
    (s.link.transmitter = none → exec (.transmitComplete straps) s = .next s) ∧
    (∀ e crc, s.link.transmitter = some ⟨.reply e, bytes⟩ → e.origin = .posted crc →
      ∃ t, exec (.transmitComplete straps) s = .next t ∧ OnlyChanges [.link] s t ∧
        ∀ (kept : List MemoryEntry),
          kept = (if ∃ m ∈ s.link.memory, m.tag = e.tag then
              s.link.memory.filter (fun m => decide (m.tag ≠ e.tag))
            else if 8 ≤ s.link.memory.length then s.link.memory.drop 1 else s.link.memory) →
          t.link = { s.link with
            transmitter := none, memory := kept ++ [⟨e.tag, e.code, crc, e.reply⟩] }) ∧
    (∀ e, s.link.transmitter = some ⟨.reply e, bytes⟩ → (e.origin = .immediate ∨ e.origin = .replayed) →
      ∃ t, exec (.transmitComplete straps) s = .next t ∧ OnlyChanges [.link] s t ∧
        t.link = { s.link with transmitter := none }) ∧
    ∀ n, s.link.transmitter = some ⟨.notice n, bytes⟩ → NoticesOk s →
      ∃ t, exec (.transmitComplete straps) s = .next t ∧ OnlyChanges [.link, .notices] s t ∧
        t.link = { s.link with transmitter := none } ∧
        (∀ l₁ e l₂, s.notices.entries = l₁ ++ e :: l₂ → e.sequence = n → e.stage ≠ .new →
          t.notices = { s.notices with
            entries := l₁ ++ { e with stage := .sent } :: l₂, resendTimer := true }) ∧
        ((∀ e ∈ s.notices.entries, e.sequence ≠ n) → t.notices = s.notices)) ∧
  (∀ s : State, (s.notices.resendTimer = false → exec .resendTimerExpiry s = .next s) ∧
    (s.notices.resendTimer = true →
      ∃ t, exec .resendTimerExpiry s = .next t ∧ OnlyChanges [.notices] s t ∧
        t.notices = { s.notices with
          entries := s.notices.entries.map fun e =>
            if e.stage = .sent ∧ s.link.transmitter.map Sending.owner ≠ some (.notice e.sequence) then
              { e with resendDue := true } else e }))

/-! ### Notices (chapter 10) -/

/-- R167: a notice of a coalescable kind replaces the payload of the NEW entry of its kind and object, which keeps
its place, number and lost count; the coalescable kinds are four. -/
def Obligations.NoticesCoalesce : Prop :=
  (∀ n : Notice, n.coalescable = true ↔ n.code = 0x02 ∨ n.code = 0x06 ∨ n.code = 0x07 ∨ n.code = 0x0D) ∧
  ∀ (n : Notice) (q : NoticeQueue) (l₁ l₂ : List NoticeEntry) (e : NoticeEntry), n.coalescable = true →
    q.entries = l₁ ++ e :: l₂ → e.stage = .new → e.notice.code = n.code → e.notice.object = n.object →
    (∀ x ∈ l₁ ++ l₂, ¬(x.stage = .new ∧ x.notice.code = n.code ∧ x.notice.object = n.object)) →
    q.raise n = { q with entries := l₁ ++ { e with notice := n } :: l₂ }

/-- R168: a notice that is not coalesced joins the tail as NEW with the next sequence, resend due no and the
current lost count, which returns to 0; with 16 entries held it is lost, and the lost count goes up to 255. -/
def Obligations.NoticesAppendOrAreLost : Prop :=
  (BitVec.ofNat 16 65535 + 1 = 0) ∧
  ∀ (n : Notice) (q : NoticeQueue),
    (n.coalescable = false ∨ ∀ x ∈ q.entries,
      ¬(x.stage = .new ∧ x.notice.code = n.code ∧ x.notice.object = n.object)) →
    (q.entries.length < 16 →
      q.raise n = { q with
        entries := q.entries ++ [⟨q.next, n, q.lost, .new, false⟩], next := q.next + 1, lost := 0 }) ∧
    (q.entries.length = 16 → q.lost ≤ 255 → q.raise n = { q with lost := min 255 (q.lost + 1) })

/-! ### What holds after every step -/

/-- Memory keeps its canonical form. -/
def Obligations.StepsKeepMemoryCanonical : Prop :=
  ∀ s t : State, MemoryOk s → step s = .next t → MemoryOk t

/-- Slots, free list, ready lists and writers agree.
Locked measurements are in range and every stored geometry fits its slot. -/
def Obligations.StepsKeepThePoolAndThePorts : Prop :=
  (∀ s t : State, PoolOk s → step s = .next t → PoolOk t) ∧
  (∀ s t : State, PortsOk s → step s = .next t → PortsOk t)

/-- R16: every slot's reference count is the number of windows and pins that hold it.
Frame numbers keep their order and their owners: each ready list is strictly increasing, a fill is under a number above
every frame of its list, and what a pin or a window records of its frame is the slot's own. This holds of a port that
has not reached the last frame number, whose successor is a free value (log entry 7). -/
def Obligations.StepsKeepReferencesCounted : Prop :=
  (∀ s t : State, PoolOk s ∧ ReferencesOk s → step s = .next t → PoolOk t ∧ ReferencesOk t) ∧
  ∀ s t : State, PoolOk s ∧ ReferencesOk s ∧ NumbersOk s → NumbersRemain s → step s = .next t →
    PoolOk t ∧ ReferencesOk t ∧ NumbersOk t

/-- The blocks of the library's entries never overlap, and at most two uploads are in progress. -/
def Obligations.StepsKeepTheLibrary : Prop :=
  ∀ s t : State, LibraryOk s → step s = .next t → LibraryOk t

/-- R124: every entry's use count is the number of records and cursor buffers that name it. -/
def Obligations.StepsKeepUsesCounted : Prop :=
  ∀ s t : State, LoaderOk s ∧ UsesOk s → step s = .next t → LoaderOk t ∧ UsesOk t

/-- The notice queue and the link keep their bounds and orders, and no two NEW notices of one coalescable kind and
object stand in the queue. -/
def Obligations.StepsKeepTheQueues : Prop :=
  ∀ s t : State, NoticesOk s ∧ LinkOk s → step s = .next t → NoticesOk t ∧ LinkOk t

/-- A head that runs has legal timing and legal frame lengths, an OFF head has nothing in progress, and every record
of a scene is in the ranges of Table 4-3.
A head in FREE_RUN has no follow loss to take, and a head in PULLING or FOLLOWING has a usable source until a follow
loss arises (log entry 11).
Outside the ready state every block stays at its reset values. -/
def Obligations.StepsKeepHeadsAndResetBlocks : Prop :=
  (∀ s t : State, HeadsOk s → step s = .next t → HeadsOk t) ∧
  (∀ s t : State, FollowOk s → step s = .next t → FollowOk t) ∧
  (∀ s t : State, BlocksOk s → step s = .next t → BlocksOk t)
end

