-- ==== Sys2Proof/Laws/State.lean ====
section
/-! SUPPORT. What each update of the state leaves as it was, field by field, and what reading the updated part
gives. -/

namespace Sys2Proof.Machine

/-! ### modPort -/

@[simp] theorem State.modPort_device (s : State) (p : PortId) (f : Port → Port) :
    (s.modPort p f).device = s.device := rfl

@[simp] theorem State.modPort_link (s : State) (p : PortId) (f : Port → Port) :
    (s.modPort p f).link = s.link := rfl

@[simp] theorem State.modPort_notices (s : State) (p : PortId) (f : Port → Port) :
    (s.modPort p f).notices = s.notices := rfl

@[simp] theorem State.modPort_pool (s : State) (p : PortId) (f : Port → Port) :
    (s.modPort p f).pool = s.pool := rfl

@[simp] theorem State.modPort_heads (s : State) (p : PortId) (f : Port → Port) :
    (s.modPort p f).heads = s.heads := rfl

@[simp] theorem State.modPort_library (s : State) (p : PortId) (f : Port → Port) :
    (s.modPort p f).library = s.library := rfl

@[simp] theorem State.modPort_loader (s : State) (p : PortId) (f : Port → Port) :
    (s.modPort p f).loader = s.loader := rfl

@[simp] theorem State.modPort_dram (s : State) (p : PortId) (f : Port → Port) :
    (s.modPort p f).dram = s.dram := rfl

@[simp] theorem State.modPort_pending (s : State) (p : PortId) (f : Port → Port) :
    (s.modPort p f).pending = s.pending := rfl

/-! ### modHead -/

@[simp] theorem State.modHead_device (s : State) (h : HeadId) (f : Head → Head) :
    (s.modHead h f).device = s.device := rfl

@[simp] theorem State.modHead_link (s : State) (h : HeadId) (f : Head → Head) :
    (s.modHead h f).link = s.link := rfl

@[simp] theorem State.modHead_notices (s : State) (h : HeadId) (f : Head → Head) :
    (s.modHead h f).notices = s.notices := rfl

@[simp] theorem State.modHead_pool (s : State) (h : HeadId) (f : Head → Head) :
    (s.modHead h f).pool = s.pool := rfl

@[simp] theorem State.modHead_ports (s : State) (h : HeadId) (f : Head → Head) :
    (s.modHead h f).ports = s.ports := rfl

@[simp] theorem State.modHead_library (s : State) (h : HeadId) (f : Head → Head) :
    (s.modHead h f).library = s.library := rfl

@[simp] theorem State.modHead_loader (s : State) (h : HeadId) (f : Head → Head) :
    (s.modHead h f).loader = s.loader := rfl

@[simp] theorem State.modHead_dram (s : State) (h : HeadId) (f : Head → Head) :
    (s.modHead h f).dram = s.dram := rfl

@[simp] theorem State.modHead_pending (s : State) (h : HeadId) (f : Head → Head) :
    (s.modHead h f).pending = s.pending := rfl

/-! ### setSlot -/

@[simp] theorem State.setSlot_device (s : State) (i : SlotId) (v : Slot) :
    (s.setSlot i v).device = s.device := rfl

@[simp] theorem State.setSlot_link (s : State) (i : SlotId) (v : Slot) :
    (s.setSlot i v).link = s.link := rfl

@[simp] theorem State.setSlot_notices (s : State) (i : SlotId) (v : Slot) :
    (s.setSlot i v).notices = s.notices := rfl

@[simp] theorem State.setSlot_ports (s : State) (i : SlotId) (v : Slot) :
    (s.setSlot i v).ports = s.ports := rfl

@[simp] theorem State.setSlot_heads (s : State) (i : SlotId) (v : Slot) :
    (s.setSlot i v).heads = s.heads := rfl

@[simp] theorem State.setSlot_library (s : State) (i : SlotId) (v : Slot) :
    (s.setSlot i v).library = s.library := rfl

@[simp] theorem State.setSlot_loader (s : State) (i : SlotId) (v : Slot) :
    (s.setSlot i v).loader = s.loader := rfl

@[simp] theorem State.setSlot_dram (s : State) (i : SlotId) (v : Slot) :
    (s.setSlot i v).dram = s.dram := rfl

@[simp] theorem State.setSlot_pending (s : State) (i : SlotId) (v : Slot) :
    (s.setSlot i v).pending = s.pending := rfl

/-! ### setFreeList -/

@[simp] theorem State.setFreeList_device (s : State) (l : List SlotId) :
    (s.setFreeList l).device = s.device := rfl

@[simp] theorem State.setFreeList_link (s : State) (l : List SlotId) :
    (s.setFreeList l).link = s.link := rfl

@[simp] theorem State.setFreeList_notices (s : State) (l : List SlotId) :
    (s.setFreeList l).notices = s.notices := rfl

@[simp] theorem State.setFreeList_ports (s : State) (l : List SlotId) :
    (s.setFreeList l).ports = s.ports := rfl

@[simp] theorem State.setFreeList_heads (s : State) (l : List SlotId) :
    (s.setFreeList l).heads = s.heads := rfl

@[simp] theorem State.setFreeList_library (s : State) (l : List SlotId) :
    (s.setFreeList l).library = s.library := rfl

@[simp] theorem State.setFreeList_loader (s : State) (l : List SlotId) :
    (s.setFreeList l).loader = s.loader := rfl

@[simp] theorem State.setFreeList_dram (s : State) (l : List SlotId) :
    (s.setFreeList l).dram = s.dram := rfl

@[simp] theorem State.setFreeList_pending (s : State) (l : List SlotId) :
    (s.setFreeList l).pending = s.pending := rfl

/-! ### setReady -/

@[simp] theorem State.setReady_device (s : State) (p : PortId) (l : List SlotId) :
    (s.setReady p l).device = s.device := rfl

@[simp] theorem State.setReady_link (s : State) (p : PortId) (l : List SlotId) :
    (s.setReady p l).link = s.link := rfl

@[simp] theorem State.setReady_notices (s : State) (p : PortId) (l : List SlotId) :
    (s.setReady p l).notices = s.notices := rfl

@[simp] theorem State.setReady_ports (s : State) (p : PortId) (l : List SlotId) :
    (s.setReady p l).ports = s.ports := rfl

@[simp] theorem State.setReady_heads (s : State) (p : PortId) (l : List SlotId) :
    (s.setReady p l).heads = s.heads := rfl

@[simp] theorem State.setReady_library (s : State) (p : PortId) (l : List SlotId) :
    (s.setReady p l).library = s.library := rfl

@[simp] theorem State.setReady_loader (s : State) (p : PortId) (l : List SlotId) :
    (s.setReady p l).loader = s.loader := rfl

@[simp] theorem State.setReady_dram (s : State) (p : PortId) (l : List SlotId) :
    (s.setReady p l).dram = s.dram := rfl

@[simp] theorem State.setReady_pending (s : State) (p : PortId) (l : List SlotId) :
    (s.setReady p l).pending = s.pending := rfl

/-! ### setPin -/

@[simp] theorem State.setPin_device (s : State) (i : PinId) (v : Option PinEntry) :
    (s.setPin i v).device = s.device := rfl

@[simp] theorem State.setPin_link (s : State) (i : PinId) (v : Option PinEntry) :
    (s.setPin i v).link = s.link := rfl

@[simp] theorem State.setPin_notices (s : State) (i : PinId) (v : Option PinEntry) :
    (s.setPin i v).notices = s.notices := rfl

@[simp] theorem State.setPin_ports (s : State) (i : PinId) (v : Option PinEntry) :
    (s.setPin i v).ports = s.ports := rfl

@[simp] theorem State.setPin_heads (s : State) (i : PinId) (v : Option PinEntry) :
    (s.setPin i v).heads = s.heads := rfl

@[simp] theorem State.setPin_library (s : State) (i : PinId) (v : Option PinEntry) :
    (s.setPin i v).library = s.library := rfl

@[simp] theorem State.setPin_loader (s : State) (i : PinId) (v : Option PinEntry) :
    (s.setPin i v).loader = s.loader := rfl

@[simp] theorem State.setPin_dram (s : State) (i : PinId) (v : Option PinEntry) :
    (s.setPin i v).dram = s.dram := rfl

@[simp] theorem State.setPin_pending (s : State) (i : PinId) (v : Option PinEntry) :
    (s.setPin i v).pending = s.pending := rfl

/-! ### setEntry -/

@[simp] theorem State.setEntry_device (s : State) (i : LibId) (v : Entry) :
    (s.setEntry i v).device = s.device := rfl

@[simp] theorem State.setEntry_link (s : State) (i : LibId) (v : Entry) :
    (s.setEntry i v).link = s.link := rfl

@[simp] theorem State.setEntry_notices (s : State) (i : LibId) (v : Entry) :
    (s.setEntry i v).notices = s.notices := rfl

@[simp] theorem State.setEntry_pool (s : State) (i : LibId) (v : Entry) :
    (s.setEntry i v).pool = s.pool := rfl

@[simp] theorem State.setEntry_ports (s : State) (i : LibId) (v : Entry) :
    (s.setEntry i v).ports = s.ports := rfl

@[simp] theorem State.setEntry_heads (s : State) (i : LibId) (v : Entry) :
    (s.setEntry i v).heads = s.heads := rfl

@[simp] theorem State.setEntry_loader (s : State) (i : LibId) (v : Entry) :
    (s.setEntry i v).loader = s.loader := rfl

@[simp] theorem State.setEntry_dram (s : State) (i : LibId) (v : Entry) :
    (s.setEntry i v).dram = s.dram := rfl

@[simp] theorem State.setEntry_pending (s : State) (i : LibId) (v : Entry) :
    (s.setEntry i v).pending = s.pending := rfl

/-! ### setVerifyQueue -/

@[simp] theorem State.setVerifyQueue_device (s : State) (q : List LibId) :
    (s.setVerifyQueue q).device = s.device := rfl

@[simp] theorem State.setVerifyQueue_link (s : State) (q : List LibId) :
    (s.setVerifyQueue q).link = s.link := rfl

@[simp] theorem State.setVerifyQueue_notices (s : State) (q : List LibId) :
    (s.setVerifyQueue q).notices = s.notices := rfl

@[simp] theorem State.setVerifyQueue_pool (s : State) (q : List LibId) :
    (s.setVerifyQueue q).pool = s.pool := rfl

@[simp] theorem State.setVerifyQueue_ports (s : State) (q : List LibId) :
    (s.setVerifyQueue q).ports = s.ports := rfl

@[simp] theorem State.setVerifyQueue_heads (s : State) (q : List LibId) :
    (s.setVerifyQueue q).heads = s.heads := rfl

@[simp] theorem State.setVerifyQueue_loader (s : State) (q : List LibId) :
    (s.setVerifyQueue q).loader = s.loader := rfl

@[simp] theorem State.setVerifyQueue_dram (s : State) (q : List LibId) :
    (s.setVerifyQueue q).dram = s.dram := rfl

@[simp] theorem State.setVerifyQueue_pending (s : State) (q : List LibId) :
    (s.setVerifyQueue q).pending = s.pending := rfl

/-! ### modLink -/

@[simp] theorem State.modLink_device (s : State) (f : Link → Link) :
    (s.modLink f).device = s.device := rfl

@[simp] theorem State.modLink_notices (s : State) (f : Link → Link) :
    (s.modLink f).notices = s.notices := rfl

@[simp] theorem State.modLink_pool (s : State) (f : Link → Link) :
    (s.modLink f).pool = s.pool := rfl

@[simp] theorem State.modLink_ports (s : State) (f : Link → Link) :
    (s.modLink f).ports = s.ports := rfl

@[simp] theorem State.modLink_heads (s : State) (f : Link → Link) :
    (s.modLink f).heads = s.heads := rfl

@[simp] theorem State.modLink_library (s : State) (f : Link → Link) :
    (s.modLink f).library = s.library := rfl

@[simp] theorem State.modLink_loader (s : State) (f : Link → Link) :
    (s.modLink f).loader = s.loader := rfl

@[simp] theorem State.modLink_dram (s : State) (f : Link → Link) :
    (s.modLink f).dram = s.dram := rfl

@[simp] theorem State.modLink_pending (s : State) (f : Link → Link) :
    (s.modLink f).pending = s.pending := rfl

/-! ### raise -/

@[simp] theorem State.raise_device (s : State) (n : Notice) :
    (s.raise n).device = s.device := rfl

@[simp] theorem State.raise_link (s : State) (n : Notice) :
    (s.raise n).link = s.link := rfl

@[simp] theorem State.raise_pool (s : State) (n : Notice) :
    (s.raise n).pool = s.pool := rfl

@[simp] theorem State.raise_ports (s : State) (n : Notice) :
    (s.raise n).ports = s.ports := rfl

@[simp] theorem State.raise_heads (s : State) (n : Notice) :
    (s.raise n).heads = s.heads := rfl

@[simp] theorem State.raise_library (s : State) (n : Notice) :
    (s.raise n).library = s.library := rfl

@[simp] theorem State.raise_loader (s : State) (n : Notice) :
    (s.raise n).loader = s.loader := rfl

@[simp] theorem State.raise_dram (s : State) (n : Notice) :
    (s.raise n).dram = s.dram := rfl

@[simp] theorem State.raise_pending (s : State) (n : Notice) :
    (s.raise n).pending = s.pending := rfl

/-! ### writeByte -/

@[simp] theorem State.writeByte_device (s : State) (a : DramAddress) (b : Byte) :
    (s.writeByte a b).device = s.device := rfl

@[simp] theorem State.writeByte_link (s : State) (a : DramAddress) (b : Byte) :
    (s.writeByte a b).link = s.link := rfl

@[simp] theorem State.writeByte_notices (s : State) (a : DramAddress) (b : Byte) :
    (s.writeByte a b).notices = s.notices := rfl

@[simp] theorem State.writeByte_pool (s : State) (a : DramAddress) (b : Byte) :
    (s.writeByte a b).pool = s.pool := rfl

@[simp] theorem State.writeByte_ports (s : State) (a : DramAddress) (b : Byte) :
    (s.writeByte a b).ports = s.ports := rfl

@[simp] theorem State.writeByte_heads (s : State) (a : DramAddress) (b : Byte) :
    (s.writeByte a b).heads = s.heads := rfl

@[simp] theorem State.writeByte_library (s : State) (a : DramAddress) (b : Byte) :
    (s.writeByte a b).library = s.library := rfl

@[simp] theorem State.writeByte_loader (s : State) (a : DramAddress) (b : Byte) :
    (s.writeByte a b).loader = s.loader := rfl

@[simp] theorem State.writeByte_pending (s : State) (a : DramAddress) (b : Byte) :
    (s.writeByte a b).pending = s.pending := rfl

/-! ### Inside the slot manager -/

@[simp] theorem State.setSlot_pool_freeList (s : State) (i : SlotId) (v : Slot) :
    (s.setSlot i v).pool.freeList = s.pool.freeList := rfl

@[simp] theorem State.setSlot_pool_ready (s : State) (i : SlotId) (v : Slot) :
    (s.setSlot i v).pool.ready = s.pool.ready := rfl

@[simp] theorem State.setSlot_pool_pins (s : State) (i : SlotId) (v : Slot) :
    (s.setSlot i v).pool.pins = s.pool.pins := rfl

@[simp] theorem State.setFreeList_pool_slots (s : State) (l : List SlotId) :
    (s.setFreeList l).pool.slots = s.pool.slots := rfl

@[simp] theorem State.setFreeList_pool_ready (s : State) (l : List SlotId) :
    (s.setFreeList l).pool.ready = s.pool.ready := rfl

@[simp] theorem State.setFreeList_pool_pins (s : State) (l : List SlotId) :
    (s.setFreeList l).pool.pins = s.pool.pins := rfl

@[simp] theorem State.setReady_pool_slots (s : State) (p : PortId) (l : List SlotId) :
    (s.setReady p l).pool.slots = s.pool.slots := rfl

@[simp] theorem State.setReady_pool_freeList (s : State) (p : PortId) (l : List SlotId) :
    (s.setReady p l).pool.freeList = s.pool.freeList := rfl

@[simp] theorem State.setReady_pool_pins (s : State) (p : PortId) (l : List SlotId) :
    (s.setReady p l).pool.pins = s.pool.pins := rfl

@[simp] theorem State.setPin_pool_slots (s : State) (i : PinId) (v : Option PinEntry) :
    (s.setPin i v).pool.slots = s.pool.slots := rfl

@[simp] theorem State.setPin_pool_freeList (s : State) (i : PinId) (v : Option PinEntry) :
    (s.setPin i v).pool.freeList = s.pool.freeList := rfl

@[simp] theorem State.setPin_pool_ready (s : State) (i : PinId) (v : Option PinEntry) :
    (s.setPin i v).pool.ready = s.pool.ready := rfl

@[simp] theorem State.setFreeList_freeList (s : State) (l : List SlotId) :
    (s.setFreeList l).pool.freeList = l := rfl

@[simp] theorem State.setVerifyQueue_queue (s : State) (q : List LibId) :
    (s.setVerifyQueue q).library.verifyQueue = q := rfl

@[simp] theorem State.setVerifyQueue_entries (s : State) (q : List LibId) :
    (s.setVerifyQueue q).library.entries = s.library.entries := rfl

@[simp] theorem State.setEntry_verifyQueue (s : State) (i : LibId) (v : Entry) :
    (s.setEntry i v).library.verifyQueue = s.library.verifyQueue := rfl

@[simp] theorem State.modLink_link (s : State) (f : Link → Link) : (s.modLink f).link = f s.link := rfl

@[simp] theorem State.raise_notices (s : State) (n : Notice) : (s.raise n).notices = s.notices.raise n := rfl

/-! ### Reading what was written -/

@[simp] theorem State.port_modPort_same (s : State) (p : PortId) (f : Port → Port) :
    (s.modPort p f).port p = f (s.port p) := by
  simp [State.port, State.modPort]

@[simp] theorem State.port_modPort_other (s : State) {p q : PortId} (f : Port → Port) (h : q ≠ p) :
    (s.modPort p f).port q = s.port q := by
  have hv : p.val ≠ q.val := fun e => h (Fin.ext e.symm)
  simp [State.port, State.modPort, Vector.getElem_set_ne, hv]

@[simp] theorem State.head_modHead_same (s : State) (h : HeadId) (f : Head → Head) :
    (s.modHead h f).head h = f (s.head h) := by
  simp [State.head, State.modHead]

@[simp] theorem State.head_modHead_other (s : State) {h g : HeadId} (f : Head → Head) (hg : g ≠ h) :
    (s.modHead h f).head g = s.head g := by
  have hv : h.val ≠ g.val := fun e => hg (Fin.ext e.symm)
  simp [State.head, State.modHead, Vector.getElem_set_ne, hv]

@[simp] theorem State.slot_setSlot_same (s : State) (i : SlotId) (v : Slot) : (s.setSlot i v).slot i = v := by
  simp [State.slot, State.setSlot]

@[simp] theorem State.slot_setSlot_other (s : State) {i j : SlotId} (v : Slot) (h : j ≠ i) :
    (s.setSlot i v).slot j = s.slot j := by
  have hv : i.val ≠ j.val := fun e => h (Fin.ext e.symm)
  simp [State.slot, State.setSlot, Vector.getElem_set_ne, hv]

@[simp] theorem State.readyList_setReady_same (s : State) (p : PortId) (l : List SlotId) :
    (s.setReady p l).readyList p = l := by
  simp [State.readyList, State.setReady]

@[simp] theorem State.readyList_setReady_other (s : State) {p q : PortId} (l : List SlotId) (h : q ≠ p) :
    (s.setReady p l).readyList q = s.readyList q := by
  have hv : p.val ≠ q.val := fun e => h (Fin.ext e.symm)
  simp [State.readyList, State.setReady, Vector.getElem_set_ne, hv]

@[simp] theorem State.pin_setPin_same (s : State) (i : PinId) (v : Option PinEntry) :
    (s.setPin i v).pin i = v := by
  simp [State.pin, State.setPin]

@[simp] theorem State.pin_setPin_other (s : State) {i j : PinId} (v : Option PinEntry) (h : j ≠ i) :
    (s.setPin i v).pin j = s.pin j := by
  have hv : i.val ≠ j.val := fun e => h (Fin.ext e.symm)
  simp [State.pin, State.setPin, Vector.getElem_set_ne, hv]

@[simp] theorem State.entry_setEntry_same (s : State) (i : LibId) (v : Entry) :
    (s.setEntry i v).entry i = v := by
  simp [State.entry, State.setEntry]

@[simp] theorem State.entry_setEntry_other (s : State) {i j : LibId} (v : Entry) (h : j ≠ i) :
    (s.setEntry i v).entry j = s.entry j := by
  have hv : i.val ≠ j.val := fun e => h (Fin.ext e.symm)
  simp [State.entry, State.setEntry, Vector.getElem_set_ne, hv]

/-! ### Accessors across updates of other parts -/

@[simp] theorem State.head_modPort (s : State) (p : PortId) (f : Port → Port) (g : HeadId) :
    (s.modPort p f).head g = s.head g := rfl

@[simp] theorem State.slot_modPort (s : State) (p : PortId) (f : Port → Port) (j : SlotId) :
    (s.modPort p f).slot j = s.slot j := rfl

@[simp] theorem State.readyList_modPort (s : State) (p : PortId) (f : Port → Port) (o : PortId) :
    (s.modPort p f).readyList o = s.readyList o := rfl

@[simp] theorem State.pin_modPort (s : State) (p : PortId) (f : Port → Port) (j : PinId) :
    (s.modPort p f).pin j = s.pin j := rfl

@[simp] theorem State.entry_modPort (s : State) (p : PortId) (f : Port → Port) (j : LibId) :
    (s.modPort p f).entry j = s.entry j := rfl

@[simp] theorem State.port_modHead (s : State) (h : HeadId) (f : Head → Head) (o : PortId) :
    (s.modHead h f).port o = s.port o := rfl

@[simp] theorem State.slot_modHead (s : State) (h : HeadId) (f : Head → Head) (j : SlotId) :
    (s.modHead h f).slot j = s.slot j := rfl

@[simp] theorem State.readyList_modHead (s : State) (h : HeadId) (f : Head → Head) (o : PortId) :
    (s.modHead h f).readyList o = s.readyList o := rfl

@[simp] theorem State.pin_modHead (s : State) (h : HeadId) (f : Head → Head) (j : PinId) :
    (s.modHead h f).pin j = s.pin j := rfl

@[simp] theorem State.entry_modHead (s : State) (h : HeadId) (f : Head → Head) (j : LibId) :
    (s.modHead h f).entry j = s.entry j := rfl

@[simp] theorem State.port_setSlot (s : State) (i : SlotId) (v : Slot) (o : PortId) :
    (s.setSlot i v).port o = s.port o := rfl

@[simp] theorem State.head_setSlot (s : State) (i : SlotId) (v : Slot) (g : HeadId) :
    (s.setSlot i v).head g = s.head g := rfl

@[simp] theorem State.readyList_setSlot (s : State) (i : SlotId) (v : Slot) (o : PortId) :
    (s.setSlot i v).readyList o = s.readyList o := rfl

@[simp] theorem State.pin_setSlot (s : State) (i : SlotId) (v : Slot) (j : PinId) :
    (s.setSlot i v).pin j = s.pin j := rfl

@[simp] theorem State.entry_setSlot (s : State) (i : SlotId) (v : Slot) (j : LibId) :
    (s.setSlot i v).entry j = s.entry j := rfl

@[simp] theorem State.port_setFreeList (s : State) (l : List SlotId) (o : PortId) :
    (s.setFreeList l).port o = s.port o := rfl

@[simp] theorem State.head_setFreeList (s : State) (l : List SlotId) (g : HeadId) :
    (s.setFreeList l).head g = s.head g := rfl

@[simp] theorem State.slot_setFreeList (s : State) (l : List SlotId) (j : SlotId) :
    (s.setFreeList l).slot j = s.slot j := rfl

@[simp] theorem State.readyList_setFreeList (s : State) (l : List SlotId) (o : PortId) :
    (s.setFreeList l).readyList o = s.readyList o := rfl

@[simp] theorem State.pin_setFreeList (s : State) (l : List SlotId) (j : PinId) :
    (s.setFreeList l).pin j = s.pin j := rfl

@[simp] theorem State.entry_setFreeList (s : State) (l : List SlotId) (j : LibId) :
    (s.setFreeList l).entry j = s.entry j := rfl

@[simp] theorem State.port_setReady (s : State) (p : PortId) (l : List SlotId) (o : PortId) :
    (s.setReady p l).port o = s.port o := rfl

@[simp] theorem State.head_setReady (s : State) (p : PortId) (l : List SlotId) (g : HeadId) :
    (s.setReady p l).head g = s.head g := rfl

@[simp] theorem State.slot_setReady (s : State) (p : PortId) (l : List SlotId) (j : SlotId) :
    (s.setReady p l).slot j = s.slot j := rfl

@[simp] theorem State.pin_setReady (s : State) (p : PortId) (l : List SlotId) (j : PinId) :
    (s.setReady p l).pin j = s.pin j := rfl

@[simp] theorem State.entry_setReady (s : State) (p : PortId) (l : List SlotId) (j : LibId) :
    (s.setReady p l).entry j = s.entry j := rfl

@[simp] theorem State.port_setPin (s : State) (i : PinId) (v : Option PinEntry) (o : PortId) :
    (s.setPin i v).port o = s.port o := rfl

@[simp] theorem State.head_setPin (s : State) (i : PinId) (v : Option PinEntry) (g : HeadId) :
    (s.setPin i v).head g = s.head g := rfl

@[simp] theorem State.slot_setPin (s : State) (i : PinId) (v : Option PinEntry) (j : SlotId) :
    (s.setPin i v).slot j = s.slot j := rfl

@[simp] theorem State.readyList_setPin (s : State) (i : PinId) (v : Option PinEntry) (o : PortId) :
    (s.setPin i v).readyList o = s.readyList o := rfl

@[simp] theorem State.entry_setPin (s : State) (i : PinId) (v : Option PinEntry) (j : LibId) :
    (s.setPin i v).entry j = s.entry j := rfl

@[simp] theorem State.port_setEntry (s : State) (i : LibId) (v : Entry) (o : PortId) :
    (s.setEntry i v).port o = s.port o := rfl

@[simp] theorem State.head_setEntry (s : State) (i : LibId) (v : Entry) (g : HeadId) :
    (s.setEntry i v).head g = s.head g := rfl

@[simp] theorem State.slot_setEntry (s : State) (i : LibId) (v : Entry) (j : SlotId) :
    (s.setEntry i v).slot j = s.slot j := rfl

@[simp] theorem State.readyList_setEntry (s : State) (i : LibId) (v : Entry) (o : PortId) :
    (s.setEntry i v).readyList o = s.readyList o := rfl

@[simp] theorem State.pin_setEntry (s : State) (i : LibId) (v : Entry) (j : PinId) :
    (s.setEntry i v).pin j = s.pin j := rfl

@[simp] theorem State.port_setVerifyQueue (s : State) (q : List LibId) (o : PortId) :
    (s.setVerifyQueue q).port o = s.port o := rfl

@[simp] theorem State.head_setVerifyQueue (s : State) (q : List LibId) (g : HeadId) :
    (s.setVerifyQueue q).head g = s.head g := rfl

@[simp] theorem State.slot_setVerifyQueue (s : State) (q : List LibId) (j : SlotId) :
    (s.setVerifyQueue q).slot j = s.slot j := rfl

@[simp] theorem State.readyList_setVerifyQueue (s : State) (q : List LibId) (o : PortId) :
    (s.setVerifyQueue q).readyList o = s.readyList o := rfl

@[simp] theorem State.pin_setVerifyQueue (s : State) (q : List LibId) (j : PinId) :
    (s.setVerifyQueue q).pin j = s.pin j := rfl

@[simp] theorem State.entry_setVerifyQueue (s : State) (q : List LibId) (j : LibId) :
    (s.setVerifyQueue q).entry j = s.entry j := rfl

@[simp] theorem State.port_modLink (s : State) (f : Link → Link) (o : PortId) :
    (s.modLink f).port o = s.port o := rfl

@[simp] theorem State.head_modLink (s : State) (f : Link → Link) (g : HeadId) :
    (s.modLink f).head g = s.head g := rfl

@[simp] theorem State.slot_modLink (s : State) (f : Link → Link) (j : SlotId) :
    (s.modLink f).slot j = s.slot j := rfl

@[simp] theorem State.readyList_modLink (s : State) (f : Link → Link) (o : PortId) :
    (s.modLink f).readyList o = s.readyList o := rfl

@[simp] theorem State.pin_modLink (s : State) (f : Link → Link) (j : PinId) :
    (s.modLink f).pin j = s.pin j := rfl

@[simp] theorem State.entry_modLink (s : State) (f : Link → Link) (j : LibId) :
    (s.modLink f).entry j = s.entry j := rfl

@[simp] theorem State.port_raise (s : State) (n : Notice) (o : PortId) :
    (s.raise n).port o = s.port o := rfl

@[simp] theorem State.head_raise (s : State) (n : Notice) (g : HeadId) :
    (s.raise n).head g = s.head g := rfl

@[simp] theorem State.slot_raise (s : State) (n : Notice) (j : SlotId) :
    (s.raise n).slot j = s.slot j := rfl

@[simp] theorem State.readyList_raise (s : State) (n : Notice) (o : PortId) :
    (s.raise n).readyList o = s.readyList o := rfl

@[simp] theorem State.pin_raise (s : State) (n : Notice) (j : PinId) :
    (s.raise n).pin j = s.pin j := rfl

@[simp] theorem State.entry_raise (s : State) (n : Notice) (j : LibId) :
    (s.raise n).entry j = s.entry j := rfl

@[simp] theorem State.port_writeByte (s : State) (a : DramAddress) (b : Byte) (o : PortId) :
    (s.writeByte a b).port o = s.port o := rfl

@[simp] theorem State.head_writeByte (s : State) (a : DramAddress) (b : Byte) (g : HeadId) :
    (s.writeByte a b).head g = s.head g := rfl

@[simp] theorem State.slot_writeByte (s : State) (a : DramAddress) (b : Byte) (j : SlotId) :
    (s.writeByte a b).slot j = s.slot j := rfl

@[simp] theorem State.readyList_writeByte (s : State) (a : DramAddress) (b : Byte) (o : PortId) :
    (s.writeByte a b).readyList o = s.readyList o := rfl

@[simp] theorem State.pin_writeByte (s : State) (a : DramAddress) (b : Byte) (j : PinId) :
    (s.writeByte a b).pin j = s.pin j := rfl

@[simp] theorem State.entry_writeByte (s : State) (a : DramAddress) (b : Byte) (j : LibId) :
    (s.writeByte a b).entry j = s.entry j := rfl

end Sys2Proof.Machine
end

