-- ==== Sys2Proof/Laws/Frames.lean ====
section
/-! SUPPORT. Which parts of the state each shared operation can change: one lemma for each operation, and the
rules by which they combine. -/

namespace Sys2Proof.Machine

/-! ### The calculus of frames -/

theorem OnlyChanges.refl (l : List Part) (s : State) : OnlyChanges l s s := by
  intro p _; cases p <;> rfl

theorem Part.same_trans {p : Part} {s t u : State} (h₁ : p.same s t) (h₂ : p.same t u) : p.same s u := by
  cases p <;> exact Eq.trans h₂ h₁

theorem OnlyChanges.trans {l : List Part} {s t u : State} (h₁ : OnlyChanges l s t) (h₂ : OnlyChanges l t u) :
    OnlyChanges l s u := fun p hp => Part.same_trans (h₁ p hp) (h₂ p hp)

theorem OnlyChanges.weaken {l m : List Part} {s t : State} (h : OnlyChanges l s t) (hl : l ⊆ m) :
    OnlyChanges m s t := fun p hp => h p fun hm => hp (hl hm)

/-- A fold of operations that each change only some parts changes only those. -/
theorem OnlyChanges.foldl {α : Type} {l : List Part} (f : State → α → State)
    (hf : ∀ s a, OnlyChanges l s (f s a)) (as : List α) : ∀ s, OnlyChanges l s (as.foldl f s) := by
  induction as with
  | nil => exact fun s => OnlyChanges.refl l s
  | cons a as ih => exact fun s => (hf s a).trans (ih (f s a))

theorem OnlyChanges.ite {l : List Part} {s t u : State} {c : Prop} [Decidable c]
    (ht : OnlyChanges l s t) (hu : OnlyChanges l s u) : OnlyChanges l s (if c then t else u) := by
  split <;> assumption

/-! ### Updates -/

theorem State.modPort_only (s : State) (p : PortId) (f : Port → Port) :
    OnlyChanges [.ports] s (s.modPort p f) := by
  intro x hx; cases x <;> first | rfl | simp at hx

theorem State.modHead_only (s : State) (h : HeadId) (f : Head → Head) :
    OnlyChanges [.heads] s (s.modHead h f) := by
  intro x hx; cases x <;> first | rfl | simp at hx

theorem State.setSlot_only (s : State) (i : SlotId) (v : Slot) : OnlyChanges [.pool] s (s.setSlot i v) := by
  intro x hx; cases x <;> first | rfl | simp at hx

theorem State.setFreeList_only (s : State) (l : List SlotId) : OnlyChanges [.pool] s (s.setFreeList l) := by
  intro x hx; cases x <;> first | rfl | simp at hx

theorem State.setReady_only (s : State) (p : PortId) (l : List SlotId) :
    OnlyChanges [.pool] s (s.setReady p l) := by
  intro x hx; cases x <;> first | rfl | simp at hx

theorem State.setPin_only (s : State) (i : PinId) (v : Option PinEntry) :
    OnlyChanges [.pool] s (s.setPin i v) := by
  intro x hx; cases x <;> first | rfl | simp at hx

theorem State.setEntry_only (s : State) (i : LibId) (v : Entry) : OnlyChanges [.library] s (s.setEntry i v) := by
  intro x hx; cases x <;> first | rfl | simp at hx

theorem State.setVerifyQueue_only (s : State) (q : List LibId) :
    OnlyChanges [.library] s (s.setVerifyQueue q) := by
  intro x hx; cases x <;> first | rfl | simp at hx

theorem State.setLoader_only (s : State) (l : Loader) : OnlyChanges [.loader] s { s with loader := l } := by
  intro x hx; cases x <;> first | rfl | simp at hx

theorem State.setNotices_only (s : State) (q : NoticeQueue) :
    OnlyChanges [.notices] s { s with notices := q } := by
  intro x hx; cases x <;> first | rfl | simp at hx

theorem State.modLink_only (s : State) (f : Link → Link) : OnlyChanges [.link] s (s.modLink f) := by
  intro x hx; cases x <;> first | rfl | simp at hx

theorem State.raise_only (s : State) (n : Notice) : OnlyChanges [.notices] s (s.raise n) := by
  intro x hx; cases x <;> first | rfl | simp at hx

theorem State.writeByte_only (s : State) (a : DramAddress) (b : Byte) :
    OnlyChanges [.dram] s (s.writeByte a b) := by
  intro x hx; cases x <;> first | rfl | simp at hx

theorem State.writeBytes_only (addr : Nat → DramAddress) (bs : List Byte) :
    ∀ (k : Nat) (s : State), OnlyChanges [.dram] s (State.writeBytes addr k bs s) := by
  induction bs with
  | nil => exact fun k s => OnlyChanges.refl _ s
  | cons b bs ih => exact fun k s => (s.writeByte_only _ _).trans (ih _ _)

/-! ### Counters and the link -/

theorem State.countPort_only (s : State) (p : PortId) (f : PortCounters → PortCounters) :
    OnlyChanges [.ports] s (s.countPort p f) := s.modPort_only p _

theorem State.countLink_only (s : State) (f : LinkCounters → LinkCounters) :
    OnlyChanges [.link] s (s.countLink f) := s.modLink_only _

theorem State.setReceiver_only (s : State) (r : Receiver) : OnlyChanges [.link] s (s.setReceiver r) :=
  s.modLink_only _

theorem State.answerNow_only (s : State) (e : ReplyEntry) (f : LinkCounters → LinkCounters) :
    OnlyChanges [.link] s (s.answerNow e f) := by
  unfold State.answerNow
  split
  · exact (s.modLink_only _).trans (State.countLink_only _ _)
  · exact s.countLink_only _

theorem State.admission_only (s : State) (f : Frame) : OnlyChanges [.link] s (s.admission f) := by
  unfold State.admission
  repeat' split
  all_goals first | exact s.answerNow_only _ _ | exact s.modLink_only _

theorem State.acknowledge_only (s : State) (f : Frame) : OnlyChanges [.link, .notices] s (s.acknowledge f) := by
  unfold State.acknowledge State.strayAck
  repeat' split
  all_goals first
    | exact (s.setNotices_only _).weaken (by decide)
    | exact (s.countLink_only _).weaken (by decide)

theorem State.takeFrame_only (s : State) (f : Frame) : OnlyChanges [.link, .notices] s (s.takeFrame f) := by
  unfold State.takeFrame
  split
  · exact ((s.countLink_only _).trans (State.admission_only _ _)).weaken (by decide)
  · split
    · exact ((s.countLink_only _).weaken (by decide)).trans (State.acknowledge_only _ _)
    · exact (s.countLink_only _).weaken (by decide)

theorem State.examineAgain_only (bs : List Byte) :
    ∀ (k : Nat) (s : State), OnlyChanges [.link, .notices] s (State.examineAgain k bs s) := by
  induction bs with
  | nil => intro k s; cases k <;> exact OnlyChanges.refl _ s
  | cons b bs ih =>
    intro k s
    cases k with
    | succ k => exact ih k s
    | zero =>
      unfold State.examineAgain
      split
      · split
        · exact (s.setReceiver_only _).weaken (by decide)
        · exact (s.setReceiver_only _).weaken (by decide)
        · exact (s.setReceiver_only _).weaken (by decide)
        · exact ((s.countLink_only _).weaken (by decide)).trans (ih _ _)
        · exact ((s.countLink_only _).weaken (by decide)).trans (ih _ _)
        · exact (s.takeFrame_only _).trans (ih _ _)
      · exact ih _ _

theorem State.transmitNext_only (s : State) : OnlyChanges [.link, .notices] s s.transmitNext := by
  intro x hx
  unfold State.transmitNext
  repeat' split
  all_goals cases x <;> first | rfl | simp at hx

theorem State.post_only (s : State) (r : Request) (rep : Reply) : OnlyChanges [.link] s (s.post r rep) :=
  s.modLink_only _

/-! ### The slot manager -/

theorem State.freeSlot_only (s : State) (i : SlotId) : OnlyChanges [.pool] s (s.freeSlot i) :=
  (s.setSlot_only _ _).trans (State.setFreeList_only _ _)

theorem State.retireSlot_only (s : State) (i : SlotId) : OnlyChanges [.pool] s (s.retireSlot i) := by
  unfold State.retireSlot
  repeat' split
  all_goals first | exact s.freeSlot_only _ | exact s.setSlot_only _ _ | exact OnlyChanges.refl _ s

theorem State.countDrop_only (s : State) (p : PortId) (i : SlotId) : OnlyChanges [.ports] s (s.countDrop p i) := by
  unfold State.countDrop
  repeat' split
  all_goals first | exact OnlyChanges.refl _ s | exact s.countPort_only _ _

theorem State.evictOldest_only (s : State) (p : PortId) : OnlyChanges [.pool, .ports] s (s.evictOldest p) := by
  unfold State.evictOldest
  split
  · exact OnlyChanges.refl _ s
  · exact (((s.countDrop_only _ _).weaken (by decide)).trans
      ((State.setReady_only _ _ _).weaken (by decide))).trans ((State.retireSlot_only _ _).weaken (by decide))

theorem State.evict_only (n : Nat) (p : PortId) : ∀ s, OnlyChanges [.pool, .ports] s (State.evict n p s) := by
  induction n with
  | zero => exact fun s => OnlyChanges.refl _ s
  | succ n ih => exact fun s => (s.evictOldest_only p).trans (ih _)

theorem State.evictSurplus_only (s : State) (p : PortId) : OnlyChanges [.pool, .ports] s (s.evictSurplus p) :=
  State.evict_only _ _ _

theorem State.flush_only (s : State) (p : PortId) : OnlyChanges [.pool] s (s.flush p) :=
  (s.setReady_only _ _).trans (OnlyChanges.foldl _ (fun s i => s.retireSlot_only i) _ _)

theorem State.grant_only (s : State) (p : PortId) (g : Geometry) (n : FrameNumber) (i : SlotId) :
    OnlyChanges [.pool, .ports, .notices] s (s.grant p g n i) := by
  unfold State.grant
  dsimp only
  split
  · exact (((s.setSlot_only _ _).weaken (by decide)).trans ((State.modPort_only _ _ _).weaken (by decide))).trans
      ((State.raise_only _ _).weaken (by decide))
  · exact (s.setSlot_only _ _).weaken (by decide)

theorem State.skip_only (s : State) (p : PortId) (n : FrameNumber) :
    OnlyChanges [.ports, .notices] s (s.skip p n) := by
  unfold State.skip
  dsimp only
  split
  · exact (s.countPort_only _ _).weaken (by decide)
  · exact (((s.countPort_only _ _).weaken (by decide)).trans ((State.modPort_only _ _ _).weaken (by decide))).trans
      ((State.raise_only _ _).weaken (by decide))

theorem State.claim_only (s : State) (p : PortId) (g : Geometry) (n : FrameNumber) :
    OnlyChanges [.pool, .ports, .notices] s (s.claim p g n).2 := by
  unfold State.claim
  split
  · exact ((s.setFreeList_only _).weaken (by decide)).trans (State.grant_only _ _ _ _ _)
  · split
    · exact ((((s.countDrop_only _ _).weaken (by decide)).trans ((State.countPort_only _ _ _).weaken (by decide))).trans
        ((State.setReady_only _ _ _).weaken (by decide))).trans (State.grant_only _ _ _ _ _)
    · exact (s.skip_only _ _).weaken (by decide)

theorem State.complete_only (s : State) (p : PortId) (i : SlotId) (n : FrameNumber) :
    OnlyChanges [.pool, .ports] s (s.complete p i n) := by
  unfold State.complete
  split
  · exact ((((s.setSlot_only _ _).weaken (by decide)).trans ((State.setReady_only _ _ _).weaken (by decide))).trans
      ((State.countPort_only _ _ _).weaken (by decide))).trans (State.evictSurplus_only _ _)
  all_goals exact OnlyChanges.refl _ s

theorem State.abortFill_only (s : State) (p : PortId) (w : Writer) :
    OnlyChanges [.pool, .ports] s (s.abortFill p w) := by
  unfold State.abortFill
  split
  · exact (((s.freeSlot_only _).weaken (by decide)).trans ((State.countPort_only _ _ _).weaken (by decide))).trans
      ((State.modPort_only _ _ _).weaken (by decide))
  all_goals exact OnlyChanges.refl _ s

theorem State.takeRef_only (s : State) (i : SlotId) : OnlyChanges [.pool] s (s.takeRef i) := by
  unfold State.takeRef
  split <;> first | exact s.setSlot_only _ _ | exact OnlyChanges.refl _ s

theorem State.releaseRef_only (s : State) (i : SlotId) : OnlyChanges [.pool] s (s.releaseRef i) := by
  unfold State.releaseRef
  repeat' split
  all_goals first | exact s.setSlot_only _ _ | exact s.freeSlot_only _ | exact OnlyChanges.refl _ s

theorem State.releaseOpt_only (s : State) (i : Option SlotId) : OnlyChanges [.pool] s (s.releaseOpt i) := by
  unfold State.releaseOpt
  split <;> first | exact s.releaseRef_only _ | exact OnlyChanges.refl _ s

/-! ### Capture ports -/

theorem State.leaveLocked_only (s : State) (p : PortId) (start : Option Time) :
    OnlyChanges [.pool, .ports, .heads] s (s.leaveLocked p start) :=
  (((s.abortFill_only p _).weaken (by decide)).trans ((State.modHead_only _ _ _).weaken (by decide))).trans
    ((State.modHead_only _ _ _).weaken (by decide))

theorem State.claimFor_only (s : State) (p : PortId) (m : Measurement) :
    OnlyChanges [.pool, .ports, .notices] s (s.claimFor p m) := by
  unfold State.claimFor
  have h := s.claim_only p m.geometry (s.port p).frameNumber
  split
  · rename_i e
    rw [e] at h
    exact h.trans ((State.modPort_only _ _ _).weaken (by decide))
  · rename_i e
    rw [e] at h
    exact h

theorem State.restart_only (s : State) (p : PortId) (m : Measurement) (i : SlotId) :
    OnlyChanges [.pool, .ports] s (s.restart p m i) :=
  (((s.setSlot_only _ _).weaken (by decide)).trans ((State.countPort_only _ _ _).weaken (by decide))).trans
    ((State.modPort_only _ _ _).weaken (by decide))

theorem State.offerToWriter_only (s : State) (p : PortId) (m : Measurement) (b : Bool) :
    OnlyChanges [.pool, .ports, .notices] s (s.offerToWriter p m b) := by
  unfold State.offerToWriter
  repeat' split
  all_goals first
    | exact OnlyChanges.refl _ s
    | exact s.claimFor_only _ _
    | exact (s.restart_only _ _ _).weaken (by decide)
    | exact (s.modPort_only _ _).weaken (by decide)

theorem State.lockedStart_only (s : State) (p : PortId) (m : Measurement) (l : FieldLevel) (t : Time) :
    OnlyChanges [.pool, .ports, .notices] s (s.lockedStart p m l t) := by
  unfold State.lockedStart
  split
  · exact ((s.modPort_only _ _).weaken (by decide)).trans (State.offerToWriter_only _ _ _ _)
  · exact s.offerToWriter_only _ _ _

theorem State.measuredStart_only (s : State) (p : PortId) (l : FieldLevel) (m : Measurement) (t : Time) :
    OnlyChanges [.pool, .ports, .notices, .heads] s (s.measuredStart p l m t) := by
  unfold State.measuredStart
  dsimp only
  have h := (s.modPort_only p fun q => q.afterMeasure l m t).weaken (m := [.pool, .ports, .notices, .heads])
    (by decide)
  repeat' split
  all_goals first
    | exact h
    | exact h.trans ((State.raise_only _ _).weaken (by decide))
    | exact h.trans ((State.leaveLocked_only _ _ _).weaken (by decide))
    | exact (h.trans ((State.raise_only _ _).weaken (by decide))).trans
        ((State.leaveLocked_only _ _ _).weaken (by decide))

theorem State.firstStart_only (s : State) (p : PortId) (l : FieldLevel) (t : Time) :
    OnlyChanges [.ports, .notices] s (s.firstStart p l t) :=
  ((s.modPort_only _ _).weaken (by decide)).trans ((State.raise_only _ _).weaken (by decide))

theorem State.takeStart_only (s : State) (p : PortId) (l : FieldLevel) (w : Option Nat) (n : Nat) (t : Time) :
    OnlyChanges [.pool, .ports, .notices, .heads] s (s.takeStart p l w n t) := by
  unfold State.takeStart
  split
  · exact (s.firstStart_only _ _ _).weaken (by decide)
  all_goals
    dsimp only
    have h := s.measuredStart_only p l ((s.port p).measure l w n t) t
    split
    · exact h.trans ((State.lockedStart_only _ _ _ _ _).weaken (by decide))
    · exact h

theorem State.writePixels_only (s : State) (i : SlotId) (st : FillStage) (px : List Byte) :
    OnlyChanges [.dram] s (s.writePixels i st px) := by
  unfold State.writePixels
  split <;> first | exact State.writeBytes_only _ _ _ _ | exact OnlyChanges.refl _ s

theorem State.completeFill_only (s : State) (p : PortId) (i : SlotId) (n : FrameNumber) :
    OnlyChanges [.pool, .ports] s (s.completeFill p i n) :=
  (s.complete_only p i n).trans ((State.modPort_only _ _ _).weaken (by decide))

theorem State.takeFillEnd_only (s : State) (p : PortId) (px : List Byte) :
    OnlyChanges [.pool, .ports, .dram] s (s.takeFillEnd p px) := by
  unfold State.takeFillEnd
  split
  · exact ((s.writePixels_only _ _ _).weaken (by decide)).trans ((State.completeFill_only _ _ _ _).weaken (by decide))
  · exact ((s.writePixels_only _ _ _).weaken (by decide)).trans ((State.modPort_only _ _ _).weaken (by decide))
  · exact ((s.writePixels_only _ _ _).weaken (by decide)).trans ((State.completeFill_only _ _ _ _).weaken (by decide))
  all_goals exact OnlyChanges.refl _ s

theorem State.loseSignal_only (s : State) (p : PortId) :
    OnlyChanges [.pool, .ports, .notices, .heads] s (s.loseSignal p) := by
  unfold State.loseSignal
  dsimp only
  have h := ((s.modPort_only p Port.loseSignal).weaken (m := [.pool, .ports, .notices, .heads]) (by decide)).trans
    ((State.raise_only _ (.inputState p .noSignal none)).weaken (by decide))
  split
  · exact h.trans ((State.leaveLocked_only _ _ _).weaken (by decide))
  · exact h

theorem State.captureOn_only (s : State) (p : PortId) : OnlyChanges [.ports] s (s.captureOn p) := by
  unfold State.captureOn
  split <;> first | exact s.modPort_only _ _ | exact OnlyChanges.refl _ s

theorem State.captureOff_only (s : State) (p : PortId) : OnlyChanges [.pool, .ports] s (s.captureOff p) := by
  unfold State.captureOff
  split
  · exact OnlyChanges.refl _ s
  · exact (s.modPort_only _ _).weaken (by decide)
  · exact s.abortFill_only _ _

theorem State.resetDetector_only (s : State) (p : PortId) :
    OnlyChanges [.pool, .ports, .notices, .heads] s (s.resetDetector p) := by
  unfold State.resetDetector
  dsimp only
  split
  · exact (s.loseSignal_only p).trans ((State.modPort_only _ _ _).weaken (by decide))
  · exact ((s.modPort_only _ _).weaken (by decide)).trans ((State.modPort_only _ _ _).weaken (by decide))

theorem State.resetPort_only (s : State) (p : PortId) :
    OnlyChanges [.pool, .ports, .notices, .heads] s (s.resetPort p) :=
  ((((s.captureOff_only p).weaken (by decide)).trans ((State.flush_only _ _).weaken (by decide))).trans
    (State.resetDetector_only _ _)).trans ((State.modPort_only _ _ _).weaken (by decide))

theorem State.movePin_only (s : State) (i : PinId) (e : PinEntry) : OnlyChanges [.pool] s (s.movePin i e) :=
  ((s.takeRef_only _).trans (State.setPin_only _ _ _)).trans (State.releaseOpt_only _ _)

theorem State.emptyPin_only (s : State) (i : PinId) : OnlyChanges [.pool] s (s.emptyPin i) :=
  (s.setPin_only _ _).trans (State.releaseOpt_only _ _)

/-! ### Library and scenes -/

theorem State.addUse_only (s : State) (i : LibId) : OnlyChanges [.library] s (s.addUse i) := by
  unfold State.addUse
  split <;> first | exact s.setEntry_only _ _ | exact OnlyChanges.refl _ s

theorem State.dropUse_only (s : State) (i : LibId) : OnlyChanges [.library] s (s.dropUse i) := by
  unfold State.dropUse
  split <;> first | exact s.setEntry_only _ _ | exact OnlyChanges.refl _ s

theorem State.addUseOf_only (s : State) (i : Option LibId) : OnlyChanges [.library] s (s.addUseOf i) := by
  unfold State.addUseOf
  split <;> first | exact s.addUse_only _ | exact OnlyChanges.refl _ s

theorem State.dropUseOf_only (s : State) (i : Option LibId) : OnlyChanges [.library] s (s.dropUseOf i) := by
  unfold State.dropUseOf
  split <;> first | exact s.dropUse_only _ | exact OnlyChanges.refl _ s

theorem State.abandon_only (s : State) (i : LibId) : OnlyChanges [.library, .notices] s (s.abandon i) := by
  unfold State.abandon
  split
  · exact ((s.setEntry_only _ _).weaken (by decide)).trans ((State.raise_only _ _).weaken (by decide))
  all_goals exact OnlyChanges.refl _ s

theorem State.verified_only (s : State) (i : LibId) (q : List LibId) :
    OnlyChanges [.library, .notices] s (s.verified i q) := by
  unfold State.verified
  split
  · dsimp only
    split
    all_goals exact (((s.setVerifyQueue_only _).weaken (by decide)).trans
      ((State.setEntry_only _ _ _).weaken (by decide))).trans ((State.raise_only _ _).weaken (by decide))
  all_goals exact OnlyChanges.refl _ s

theorem State.addSceneUses_only (s : State) (sc : Scene) : OnlyChanges [.library] s (s.addSceneUses sc) :=
  OnlyChanges.foldl _ (fun s _ => s.addUseOf_only _) _ _

theorem State.dropSceneUses_only (s : State) (sc : Scene) : OnlyChanges [.library] s (s.dropSceneUses sc) :=
  OnlyChanges.foldl _ (fun s _ => s.dropUseOf_only _) _ _

theorem State.setSelection_only (s : State) (h : HeadId) (p : Position) (v : Selection) :
    OnlyChanges [.heads] s (s.setSelection h p v) := s.modHead_only _ _

theorem State.swapPosition_only (h : HeadId) (s : State) (p : Position) :
    OnlyChanges [.heads, .pool] s (State.swapPosition h s p) := by
  unfold State.swapPosition
  split
  · exact OnlyChanges.refl _ s
  · exact ((s.setSelection_only _ _ _).weaken (by decide)).trans ((State.releaseOpt_only _ _).weaken (by decide))

theorem State.swap_only (s : State) (h : HeadId) : OnlyChanges [.heads, .pool, .library] s (s.swap h) :=
  ((((OnlyChanges.foldl _ (State.swapPosition_only h) _ s).weaken (by decide)).trans
    ((State.modHead_only _ _ _).weaken (by decide))).trans ((State.addSceneUses_only _ _).weaken (by decide))).trans
    ((State.dropSceneUses_only _ _).weaken (by decide))

theorem State.swapOff_only (s : State) (h : HeadId) : OnlyChanges [.heads, .pool, .library] s (s.swapOff h) :=
  (s.swap_only h).trans ((State.modHead_only _ _ _).weaken (by decide))

theorem State.swapAtBoundary_only (s : State) (h : HeadId) :
    OnlyChanges [.heads, .pool, .library, .notices] s (s.swapAtBoundary h) := by
  unfold State.swapAtBoundary
  split
  · exact (((s.swap_only h).weaken (by decide)).trans ((State.modHead_only _ _ _).weaken (by decide))).trans
      ((State.raise_only _ _).weaken (by decide))
  · exact OnlyChanges.refl _ s

theorem State.putPending_only (s : State) (h : HeadId) (p : Position) (r : Option WindowRecord) :
    OnlyChanges [.heads, .library] s (s.putPending h p r) :=
  (((s.modHead_only _ _).weaken (by decide)).trans ((State.addUseOf_only _ _).weaken (by decide))).trans
    ((State.dropUseOf_only _ _).weaken (by decide))

theorem State.reloadPending_only (s : State) (h : HeadId) (sc : Scene) :
    OnlyChanges [.heads, .library] s (s.reloadPending h sc) :=
  (((s.modHead_only _ _).weaken (by decide)).trans ((State.addSceneUses_only _ _).weaken (by decide))).trans
    ((State.dropSceneUses_only _ _).weaken (by decide))

/-! ### Selection -/

theorem State.adoptFrame_only (s : State) (h : HeadId) (p : Position) (i : SlotId) :
    OnlyChanges [.heads, .pool] s (s.adoptFrame h p i) :=
  (((s.takeRef_only _).weaken (by decide)).trans ((State.setSelection_only _ _ _ _).weaken (by decide))).trans
    ((State.releaseOpt_only _ _).weaken (by decide))

theorem State.giveUpFrame_only (s : State) (h : HeadId) (p : Position) :
    OnlyChanges [.heads, .pool] s (s.giveUpFrame h p) :=
  ((s.setSelection_only _ _ _).weaken (by decide)).trans ((State.releaseOpt_only _ _).weaken (by decide))

theorem State.repeatFrame_only (s : State) (h : HeadId) (p : Position) :
    OnlyChanges [.heads, .pool] s (s.repeatFrame h p) := (s.setSelection_only _ _ _).weaken (by decide)

theorem State.chooseLive_only (s : State) (h : HeadId) (p : Position) (q : PortId) (pol : Policy) (o : OnLoss) :
    OnlyChanges [.heads, .pool] s (s.chooseLive h p q pol o) := by
  unfold State.chooseLive
  repeat' split
  all_goals first
    | exact s.giveUpFrame_only _ _
    | exact s.adoptFrame_only _ _ _
    | exact s.repeatFrame_only _ _
    | exact OnlyChanges.refl _ s

theorem State.selectWindow_only (s : State) (h : HeadId) (p : Position) (r : WindowRecord) :
    OnlyChanges [.heads, .pool] s (s.selectWindow h p r) := by
  unfold State.selectWindow State.selectLive State.selectPin
  repeat' split
  all_goals first
    | exact s.repeatFrame_only _ _
    | exact s.chooseLive_only _ _ _ _ _
    | exact s.giveUpFrame_only _ _
    | exact s.adoptFrame_only _ _ _
    | exact OnlyChanges.refl _ s

theorem State.selectPosition_only (h : HeadId) (s : State) (p : Position) :
    OnlyChanges [.heads, .pool] s (State.selectPosition h s p) := by
  unfold State.selectPosition
  split
  · exact s.selectWindow_only _ _ _
  · exact OnlyChanges.refl _ s

theorem State.selectAll_only (s : State) (h : HeadId) : OnlyChanges [.heads, .pool] s (s.selectAll h) :=
  OnlyChanges.foldl _ (State.selectPosition_only h) _ s

/-! ### Cursor, shape loader and inserter -/

theorem State.modCursor_only (s : State) (h : HeadId) (f : Cursor → Cursor) :
    OnlyChanges [.heads] s (s.modCursor h f) := s.modHead_only _ _

theorem State.placeShape_only (s : State) (h : HeadId) (i : LibId) :
    OnlyChanges [.loader, .heads] s (s.placeShape h i) := by
  unfold State.placeShape
  split
  · exact (s.setLoader_only _).weaken (by decide)
  · exact (s.setLoader_only _).weaken (by decide)
  · exact (s.modCursor_only _ _).weaken (by decide)

theorem State.beginJob_only (s : State) (h : HeadId) (i : LibId) :
    OnlyChanges [.loader, .heads, .library] s (s.beginJob h i) :=
  ((((s.setLoader_only _).weaken (by decide)).trans ((State.modCursor_only _ _ _).weaken (by decide))).trans
    ((State.addUse_only _ _).weaken (by decide))).trans ((State.dropUseOf_only _ _).weaken (by decide))

theorem State.startJob_only (s : State) : OnlyChanges [.loader, .heads, .library, .notices] s s.startJob := by
  unfold State.startJob
  split
  · dsimp only
    split
    · exact ((s.setLoader_only _).weaken (by decide)).trans ((State.beginJob_only _ _ _).weaken (by decide))
    · exact ((s.setLoader_only _).weaken (by decide)).trans ((State.raise_only _ _).weaken (by decide))
  all_goals exact OnlyChanges.refl _ s

theorem State.queueWaiting_only (s : State) (h : HeadId) : OnlyChanges [.loader, .heads] s (s.queueWaiting h) := by
  unfold State.queueWaiting
  split
  · exact OnlyChanges.refl _ s
  · exact ((s.setLoader_only _).weaken (by decide)).trans ((State.modCursor_only _ _ _).weaken (by decide))

theorem State.finishJob_only (s : State) : OnlyChanges [.loader, .heads] s s.finishJob := by
  unfold State.finishJob
  repeat' split
  all_goals first
    | exact OnlyChanges.refl _ s
    | exact (((s.setLoader_only _).weaken (by decide)).trans ((State.modCursor_only _ _ _).weaken (by decide))).trans
        (State.queueWaiting_only _ _)

theorem State.swapCursor_only (s : State) (h : HeadId) :
    OnlyChanges [.heads, .library, .notices] s (s.swapCursor h) := by
  unfold State.swapCursor
  split
  · exact (((s.modCursor_only _ _).weaken (by decide)).trans ((State.dropUseOf_only _ _).weaken (by decide))).trans
      ((State.raise_only _ _).weaken (by decide))
  all_goals exact OnlyChanges.refl _ s

theorem State.cursorBoundary_only (s : State) (h : HeadId) :
    OnlyChanges [.heads, .library, .notices] s (s.cursorBoundary h) :=
  (s.swapCursor_only h).trans ((State.modCursor_only _ _ _).weaken (by decide))

theorem State.cancelShapes_only (s : State) (h : HeadId) :
    OnlyChanges [.loader, .heads, .library] s (s.cancelShapes h) :=
  (((s.setLoader_only _).weaken (by decide)).trans ((State.modCursor_only _ _ _).weaken (by decide))).trans
    ((State.dropUseOf_only _ _).weaken (by decide))

theorem State.modAnc_only (s : State) (h : HeadId) (f : Ancillary → Ancillary) :
    OnlyChanges [.heads] s (s.modAnc h f) := s.modHead_only _ _

theorem State.ancBoundary_only (s : State) (h : HeadId) : OnlyChanges [.heads, .notices] s (s.ancBoundary h) := by
  unfold State.ancBoundary
  dsimp only
  split
  · exact ((s.modAnc_only _ _).weaken (by decide)).trans ((State.raise_only _ _).weaken (by decide))
  · exact (s.modAnc_only _ _).weaken (by decide)

theorem State.stopAnc_only (s : State) (h : HeadId) : OnlyChanges [.heads] s (s.stopAnc h) := s.modAnc_only _ _

/-! ### Heads -/

theorem State.clearSelections_only (s : State) (h : HeadId) :
    OnlyChanges [.heads, .pool] s (s.clearSelections h) :=
  OnlyChanges.foldl _ (fun s p => ((s.setSelection_only h p .cleared).weaken (by decide)).trans
    ((State.releaseOpt_only _ _).weaken (by decide))) _ s

theorem State.presentAtOff_only (s : State) (h : HeadId) :
    OnlyChanges [.heads, .pool, .library, .notices] s (s.presentAtOff h) := by
  unfold State.presentAtOff
  split
  · exact (((s.swapOff_only h).weaken (by decide)).trans ((State.modHead_only _ _ _).weaken (by decide))).trans
      ((State.raise_only _ _).weaken (by decide))
  · exact OnlyChanges.refl _ s

theorem State.raiseFreeRun_only (s : State) (h : HeadId) (f : FollowState) :
    OnlyChanges [.notices] s (s.raiseFreeRun h f) := by
  unfold State.raiseFreeRun
  split <;> first | exact s.raise_only _ | exact OnlyChanges.refl _ s

theorem State.stopFollow_only (s : State) (h : HeadId) : OnlyChanges [.heads, .notices] s (s.stopFollow h) :=
  ((s.modHead_only _ _).weaken (by decide)).trans ((State.raiseFreeRun_only _ _ _).weaken (by decide))

theorem State.switchOff_only (s : State) (h : HeadId) :
    OnlyChanges [.heads, .pool, .library, .loader, .notices] s (s.switchOff h) :=
  ((((((s.clearSelections_only h).weaken (by decide)).trans ((State.modHead_only _ _ _).weaken (by decide))).trans
    ((State.presentAtOff_only _ _).weaken (by decide))).trans ((State.cancelShapes_only _ _).weaken (by decide))).trans
    ((State.stopAnc_only _ _).weaken (by decide))).trans ((State.stopFollow_only _ _).weaken (by decide))

theorem State.setFollow_only (s : State) (h : HeadId) (p : Option PortId) (w l : Nat) :
    OnlyChanges [.heads, .notices] s (s.setFollow h p w l) := by
  unfold State.setFollow
  dsimp only
  split
  · exact (s.modHead_only _ _).weaken (by decide)
  · exact ((s.modHead_only _ _).weaken (by decide)).trans ((State.raiseFreeRun_only _ _ _).weaken (by decide))

theorem State.takeFollowLoss_only (s : State) (h : HeadId) :
    OnlyChanges [.heads, .notices] s (s.takeFollowLoss h) := by
  unfold State.takeFollowLoss
  split
  · exact OnlyChanges.refl _ s
  · exact ((s.modHead_only _ _).weaken (by decide)).trans ((State.raiseFreeRun_only _ _ _).weaken (by decide))

theorem State.lossBeforeBoundary_only (s : State) (h : HeadId) :
    OnlyChanges [.heads, .notices] s (s.lossBeforeBoundary h) := by
  unfold State.lossBeforeBoundary
  split
  · exact s.takeFollowLoss_only h
  · exact OnlyChanges.refl _ s

theorem State.computeFollow_only (s : State) (h : HeadId) (t : Timing) (n : Time) :
    OnlyChanges [.heads, .notices] s (s.computeFollow h t n) := by
  unfold State.computeFollow
  split
  · exact (s.modHead_only _ _).weaken (by decide)
  · dsimp only
    split
    · exact (s.modHead_only _ _).weaken (by decide)
    · exact ((s.modHead_only _ _).weaken (by decide)).trans ((State.raise_only _ _).weaken (by decide))

theorem State.followBoundary_only (s : State) (h : HeadId) (t : Timing) (n : Time) :
    OnlyChanges [.heads, .notices] s (s.followBoundary h t n) :=
  (s.lossBeforeBoundary_only h).trans (State.computeFollow_only _ h t n)

theorem State.boundary_only (s : State) (h : HeadId) (t : Timing) (n : Time) :
    OnlyChanges [.heads, .pool, .library, .notices] s (s.boundary h t n) := by
  unfold State.boundary
  have h₁ := (s.modHead_only h Head.counted).weaken (m := [.heads, .pool, .library, .notices]) (by decide)
  have h₂ := h₁.trans ((State.followBoundary_only _ h t n).weaken (by decide))
  have h₃ := h₂.trans (State.swapAtBoundary_only _ h)
  have h₄ := h₃.trans ((State.selectAll_only _ h).weaken (by decide))
  have h₅ := h₄.trans ((State.cursorBoundary_only _ h).weaken (by decide))
  have h₆ := h₅.trans ((State.ancBoundary_only _ h).weaken (by decide))
  exact h₆.trans ((State.modHead_only _ h _).weaken (by decide))

theorem State.takeBoundary_only (s : State) (h : HeadId) (n : Time) :
    OnlyChanges [.heads, .pool, .library, .notices] s (s.takeBoundary h n) := by
  unfold State.takeBoundary
  split
  · exact s.boundary_only _ _ _
  · exact s.boundary_only _ _ _
  all_goals exact OnlyChanges.refl _ s

theorem State.takeShortfall_only (s : State) (h : HeadId) (l : Nat) (m : List MissedPixel) :
    OnlyChanges [.heads, .notices] s (s.takeShortfall h l m) := by
  unfold State.takeShortfall
  split
  · dsimp only
    split
    · exact ((s.modHead_only _ _).weaken (by decide)).trans ((State.raise_only _ _).weaken (by decide))
    · exact OnlyChanges.refl _ s
  all_goals exact OnlyChanges.refl _ s

/-! ### The device -/

theorem State.endStartUp_only (s : State) (f : Option Nat) :
    OnlyChanges [.device, .dram, .notices] s (s.endStartUp f) := by
  intro x hx; cases x <;> first | rfl | simp at hx

theorem State.clearCounters_only (s : State) (o : StatsObject) :
    OnlyChanges [.ports, .heads, .link] s (s.clearCounters o) := by
  cases o
  · exact (s.modPort_only _ _).weaken (by decide)
  · exact (s.modHead_only _ _).weaken (by decide)
  · exact (s.countLink_only _).weaken (by decide)

end Sys2Proof.Machine
end

