-- ==== Sys2Proof/Laws/Ops.lean ====
section
/-! SUPPORT. What the shared operations do: DRAM, bytes, notices, references and the taking of a request. -/

namespace Sys2Proof.Machine

/-! ### DRAM -/

theorem Memory.read_write_same (m : List Host.Cell) (a : Nat) (b : Byte) :
    Memory.read (Memory.write m a b) a = some b := by
  induction m with
  | nil => simp [Memory.write, Memory.read]
  | cons c m ih =>
    obtain ⟨k, v⟩ := c
    unfold Memory.write
    split
    · simp [Memory.read]
    · split
      · rename_i e; simp [Memory.read, e]
      · rename_i h₁ h₂
        simp [Memory.read, Ne.symm h₂, ih]

theorem Memory.read_write_other (m : List Host.Cell) {a c : Nat} (b : Byte) (h : c ≠ a) :
    Memory.read (Memory.write m a b) c = Memory.read m c := by
  induction m with
  | nil => simp [Memory.write, Memory.read, Ne.symm h]
  | cons d m ih =>
    obtain ⟨k, v⟩ := d
    unfold Memory.write
    split
    · simp [Memory.read, Ne.symm h]
    · split
      · rename_i e; subst e; simp [Memory.read, Ne.symm h]
      · simp only [Memory.read, ih]

/-- The addresses after a write are those before it and the one written. -/
theorem Memory.mem_write {m : List Host.Cell} {a : Nat} {b : Byte} {c : Host.Cell}
    (h : c ∈ Memory.write m a b) : c = (a, b) ∨ c ∈ m := by
  induction m with
  | nil => simpa [Memory.write] using h
  | cons d m ih =>
    obtain ⟨k, v⟩ := d
    unfold Memory.write at h
    split at h
    · simpa using h
    · split at h
      · rename_i e
        rcases List.mem_cons.1 h with h | h
        · exact Or.inl (e ▸ h)
        · exact Or.inr (List.mem_cons_of_mem _ h)
      · rcases List.mem_cons.1 h with h | h
        · exact Or.inr (h ▸ List.mem_cons_self)
        · exact (ih h).imp id (List.mem_cons_of_mem _)

/-- A write keeps the canonical form. -/
theorem Memory.wf_write {m : List Host.Cell} {a : Nat} (b : Byte) (h : Memory.wf m) (ha : a < Config.dramBytes) :
    Memory.wf (Memory.write m a b) := by
  induction m with
  | nil => exact ⟨by simp [Memory.write], by simpa [Memory.write] using ha⟩
  | cons d m ih =>
    obtain ⟨k, v⟩ := d
    obtain ⟨hp, hb⟩ := h
    rw [List.map_cons, List.pairwise_cons] at hp
    have hk : k < Config.dramBytes := hb (k, v) List.mem_cons_self
    have hm : Memory.wf m := ⟨hp.2, fun c hc => hb c (List.mem_cons_of_mem _ hc)⟩
    unfold Memory.write
    split
    · rename_i hlt
      refine ⟨?_, ?_⟩
      · rw [List.map_cons, List.pairwise_cons]
        refine ⟨?_, by rw [List.map_cons, List.pairwise_cons]; exact hp⟩
        intro x hx
        rw [List.map_cons, List.mem_cons] at hx
        rcases hx with hx | hx
        · exact hx ▸ hlt
        · exact Nat.lt_trans hlt (hp.1 x hx)
      · intro c hc
        rcases List.mem_cons.1 hc with hc | hc
        · exact hc ▸ ha
        · exact hb c hc
    · split
      · refine ⟨by rw [List.map_cons, List.pairwise_cons]; exact hp, ?_⟩
        intro c hc
        rcases List.mem_cons.1 hc with hc | hc
        · exact hc ▸ hk
        · exact hm.2 c hc
      · rename_i h₁ h₂
        obtain ⟨ip, ib⟩ := ih hm
        refine ⟨?_, ?_⟩
        · rw [List.map_cons, List.pairwise_cons]
          refine ⟨?_, ip⟩
          intro x hx
          obtain ⟨c, hc, rfl⟩ := List.mem_map.1 hx
          rcases Memory.mem_write hc with hc | hc
          · subst hc; show k < a; omega
          · exact hp.1 c.1 (List.mem_map_of_mem hc)
        · intro c hc
          rcases List.mem_cons.1 hc with hc | hc
          · exact hc ▸ hk
          · exact ib c hc

theorem Memory.wf_nil : Memory.wf [] := ⟨List.Pairwise.nil, by simp⟩

theorem memoryOk_reset : MemoryOk State.reset := Memory.wf_nil

theorem memoryOk_writeByte {s : State} (a : DramAddress) (b : Byte) (h : MemoryOk s) :
    MemoryOk (s.writeByte a b) := Memory.wf_write b h a.isLt

theorem memoryOk_writeBytes (addr : Nat → DramAddress) (bs : List Byte) :
    ∀ (k : Nat) (s : State), MemoryOk s → MemoryOk (State.writeBytes addr k bs s) := by
  induction bs with
  | nil => exact fun _ _ h => h
  | cons b bs ih => exact fun k s h => ih _ _ (memoryOk_writeByte _ _ h)

/-- A part of the state that an operation does not change keeps its canonical form. -/
theorem memoryOk_of_only {l : List Part} {s t : State} (h : OnlyChanges l s t) (hd : Part.dram ∉ l)
    (hs : MemoryOk s) : MemoryOk t := by
  have e : t.dram = s.dram := h .dram hd
  unfold MemoryOk
  rw [e]
  exact hs

@[simp] theorem State.dramByte_writeByte_same (s : State) (a : DramAddress) (b : Byte) :
    (s.writeByte a b).dramByte a = b := by
  simp [State.dramByte, State.writeByte, Memory.read_write_same]

theorem State.dramByte_writeByte_other (s : State) {a c : DramAddress} (b : Byte) (h : c ≠ a) :
    (s.writeByte a b).dramByte c = s.dramByte c := by
  have hn : c.toNat ≠ a.toNat := fun e => h (BitVec.eq_of_toNat_eq e)
  simp [State.dramByte, State.writeByte, Memory.read_write_other _ _ hn]

/-- Every address outside those written reads as before. -/
theorem State.dramByte_writeBytes_other (addr : Nat → DramAddress) (a : DramAddress) (bs : List Byte) :
    ∀ (k : Nat) (s : State), (∀ j, k ≤ j → j < k + bs.length → addr j ≠ a) →
      (State.writeBytes addr k bs s).dramByte a = s.dramByte a := by
  induction bs with
  | nil => exact fun _ _ _ => rfl
  | cons b bs ih =>
    intro k s h
    have hk := h k (Nat.le_refl k) (by simp)
    rw [State.writeBytes, ih (k + 1) _ fun j h₁ h₂ => h j (by omega) (by simp at h₂ ⊢; omega)]
    exact s.dramByte_writeByte_other b (Ne.symm hk)

/-- A byte written at a place that no later place overlaps is read back. -/
theorem State.dramByte_writeBytes_same (addr : Nat → DramAddress) (bs : List Byte) :
    ∀ (k : Nat) (s : State) (j : Nat) (hj : j < bs.length),
      (∀ i, i < bs.length → addr (k + i) = addr (k + j) → i = j) →
      (State.writeBytes addr k bs s).dramByte (addr (k + j)) = bs[j] := by
  induction bs with
  | nil => exact fun _ _ j hj => absurd hj (by simp)
  | cons b bs ih =>
    intro k s j hj hinj
    cases j with
    | zero =>
      rw [State.writeBytes, State.dramByte_writeBytes_other]
      · simp
      · intro i h₁ h₂ e
        have := hinj (i - k) (by simp; omega) (by rw [show k + (i - k) = i by omega]; exact e)
        omega
    | succ j =>
      have e : k + (j + 1) = k + 1 + j := by omega
      rw [State.writeBytes, e]
      have := ih (k + 1) (s.writeByte (addr k) b) j (by simpa using hj) fun i hi he => by
        have := hinj (i + 1) (by simpa using hi) (by rw [show k + (i + 1) = k + 1 + i by omega, e]; exact he)
        omega
      simpa using this

/-! ### Bytes -/

@[simp] theorem leBytes_length (k n : Nat) : (leBytes k n).length = k := by
  induction k generalizing n with
  | zero => rfl
  | succ k ih => simp [leBytes, ih]

@[simp] theorem byteOf_toNat (n : Nat) : (byteOf n).toNat = n % 256 := by simp [byteOf]

/-- Reading the low `k` bytes of a number back gives the number modulo 256 ^ k. -/
theorem leNat_leBytes (k n : Nat) : leNat (leBytes k n) = n % 256 ^ k := by
  induction k generalizing n with
  | zero => simp [leBytes, leNat, Nat.mod_one]
  | succ k ih =>
    simp only [leBytes, leNat, byteOf_toNat, ih]
    rw [Nat.pow_succ, Nat.mul_comm (256 ^ k) 256, Nat.mod_mul]

@[simp] theorem zeros_length (n : Nat) : (zeros n).length = n := by simp [zeros]

@[simp] theorem Triple.bytes_length (c : Triple) : c.bytes.length = 3 := rfl

theorem finOf_byteOf {n : Nat} (i : Fin n) (h : n ≤ 256) : finOf n (byteOf i.val) = some i := by
  have e : i.val % 256 = i.val := Nat.mod_eq_of_lt (by omega)
  simp [finOf, e]

theorem libIdOf_libIdByte (i : LibId) : libIdOf (libIdByte i) = some i := by
  have e : (i.val + 1) % 256 = i.val + 1 := Nat.mod_eq_of_lt (by omega)
  simp [libIdOf, libIdByte, e]

/-! ### Notices (R167, R168) -/

/-- What raising a notice can do to the entries: replace the notice of entries it merges with, append one
NEW entry, or nothing. -/
theorem NoticeQueue.raise_entries (n : Notice) (q : NoticeQueue) :
    (q.raise n).entries = q.entries.map (fun e => if e.mergesWith n then { e with notice := n } else e) ∨
    (q.raise n).entries = q.entries ++ [⟨q.next, n, q.lost, .new, false⟩] ∨
    (q.raise n).entries = q.entries := by
  unfold NoticeQueue.raise
  split
  · exact Or.inl rfl
  · unfold NoticeQueue.append
    split
    · exact Or.inr (Or.inl rfl)
    · exact Or.inr (Or.inr rfl)

theorem NoticeQueue.raise_length_le {n : Notice} {q : NoticeQueue} (h : q.entries.length ≤ Config.maxNotices) :
    (q.raise n).entries.length ≤ Config.maxNotices := by
  unfold NoticeQueue.raise
  split
  · simpa using h
  · unfold NoticeQueue.append
    split
    · rename_i hlt
      simp only [List.length_append, List.length_cons, List.length_nil]
      omega
    · exact h

@[simp] theorem NoticeQueue.raise_timer (n : Notice) (q : NoticeQueue) :
    (q.raise n).resendTimer = q.resendTimer := by
  unfold NoticeQueue.raise NoticeQueue.append
  repeat' split
  all_goals rfl

/-- A notice that does not merge joins the tail when there is room (R168). -/
theorem NoticeQueue.raise_appends {n : Notice} {q : NoticeQueue}
    (hm : (n.coalescable && q.entries.any (NoticeEntry.mergesWith n)) = false)
    (hl : q.entries.length < Config.maxNotices) :
    q.raise n = { q with
      entries := q.entries ++ [⟨q.next, n, q.lost, .new, false⟩], next := q.next + 1, lost := 0 } := by
  simp [NoticeQueue.raise, hm, NoticeQueue.append, hl]

/-! ### References (R17, R18) -/

/-- Taking a reference changes the record of one slot. -/
theorem State.slot_takeRef_other (s : State) {i j : SlotId} (h : j ≠ i) : (s.takeRef i).slot j = s.slot j := by
  unfold State.takeRef
  split <;> first | rfl | exact s.slot_setSlot_other _ h

theorem State.slot_releaseRef_other (s : State) {i j : SlotId} (h : j ≠ i) :
    (s.releaseRef i).slot j = s.slot j := by
  unfold State.releaseRef
  repeat' split
  all_goals first
    | rfl
    | exact s.slot_setSlot_other _ h

/-- A slot that holds a frame has one more reference after one is taken. -/
theorem State.refs_takeRef_same (s : State) {i : SlotId} {f : StoredFrame} (h : (s.slot i).frame? = some f) :
    ((s.takeRef i).slot i).refs = f.refs + 1 := by
  unfold State.takeRef
  split
  · rename_i e; rw [e] at h; cases h; simp [Slot.refs, Slot.frame?]
  · rename_i e; rw [e] at h; cases h; simp [Slot.refs, Slot.frame?]
  · rename_i e; rw [e] at h; cases h
  · rename_i e; rw [e] at h; cases h

/-- A slot that holds a frame has one reference fewer after one is released. -/
theorem State.refs_releaseRef_same (s : State) {i : SlotId} {f : StoredFrame} (h : (s.slot i).frame? = some f) :
    ((s.releaseRef i).slot i).refs = f.refs - 1 := by
  unfold State.releaseRef
  split
  · rename_i e; rw [e] at h; cases h; simp [Slot.refs, Slot.frame?]
  · rename_i e
    rw [e] at h
    cases h
    split
    · rename_i hle
      rw [State.freeSlot, State.slot_setFreeList, State.slot_setSlot_same]
      show 0 = _
      omega
    · simp [Slot.refs, Slot.frame?]
  · rename_i e; rw [e] at h; cases h
  · rename_i e; rw [e] at h; cases h

@[simp] theorem State.readyList_takeRef (s : State) (i : SlotId) (p : PortId) :
    (s.takeRef i).readyList p = s.readyList p := by
  unfold State.takeRef
  split <;> rfl

@[simp] theorem State.readyList_releaseRef (s : State) (i : SlotId) (p : PortId) :
    (s.releaseRef i).readyList p = s.readyList p := by
  unfold State.releaseRef
  repeat' split
  all_goals rfl

/-! ### Taking a request (R161) -/

theorem State.withRequests_only (s : State) (rest : List Request) :
    OnlyChanges [.link] s (s.withRequests rest) := s.modLink_only _

/-- Everything that taking a request can do: nothing, or pop the oldest request, execute it and post its
reply. -/
theorem State.takeRequest_cases (s : State) (mine : Request → Bool) (body : Body) :
    s.takeRequest mine body = s ∨
    ∃ r rest, s.link.requestQueue = r :: rest ∧ s.processorRuns = true ∧ mine r = true ∧
      s.takeRequest mine body =
        ((s.withRequests rest).execute r body).2.post r
          ((s.withRequests rest).execute r body).1 := by
  unfold State.takeRequest
  split
  · exact Or.inl rfl
  · rename_i r rest e
    split
    · rename_i h
      rw [Bool.and_eq_true] at h
      exact Or.inr ⟨r, rest, e, h.1, h.2, rfl⟩
    · exact Or.inl rfl

/-- Everything that executing a request can do: refuse it and change nothing, or run the block's body. -/
theorem State.execute_cases (s : State) (r : Request) (body : Body) :
    (∃ st, s.execute r body = (.refuse st, s)) ∨ s.execute r body = body r.payload s := by
  unfold State.execute
  split
  · exact Or.inl ⟨_, rfl⟩
  · split
    · split
      · exact Or.inl ⟨_, rfl⟩
      · exact Or.inr rfl
    · exact Or.inl ⟨_, rfl⟩

/-- A request that passes the processor's checks in the ready state runs the block's body. -/
theorem State.runRequest_taken {s : State} {r : Request} {rest : List Request} {code : Byte} {rule : LengthRule}
    (h : Takes s r rest code) (hr : commandRule code = some rule) (hl : rule.allows r.payload.length = true)
    (body : Body) :
    s.runRequest code body =
      .next ((body r.payload (s.withRequests rest)).2.post r
        (body r.payload (s.withRequests rest)).1) := by
  obtain ⟨h₁, h₂, h₃, h₄⟩ := h
  have hready : s.isReady = true := by simp [State.isReady, h₁]
  have hfault : (s.withRequests rest).isFaulted = false := by
    simp [State.isFaulted, State.withRequests, h₁]
  unfold State.runRequest State.takeRequest
  rw [h₃]
  simp [State.processorRuns, hready, h₂, h₄, State.execute, hr, hl, hfault]

/-- A request that passes the processor's checks, in the ready state or in FAULTED, runs the block's body. -/
theorem State.runRequest_served {s : State} {r : Request} {rest : List Request} {code : Byte} {rule : LengthRule}
    (h : TakesServed s r rest code) (hc : s.device.phase = .ready ∨ servedInFaulted code = true)
    (hr : commandRule code = some rule) (hl : rule.allows r.payload.length = true) (body : Body) :
    s.runRequest code body =
      .next ((body r.payload (s.withRequests rest)).2.post r (body r.payload (s.withRequests rest)).1) := by
  obtain ⟨h₁, h₂, h₃, h₄⟩ := h
  have hruns : s.processorRuns = true := by
    rcases h₁ with h₁ | ⟨a, h₁⟩ <;>
      simp [State.processorRuns, State.isReady, State.isFaulted, h₁, h₂]
  have hfault : ((s.withRequests rest).isFaulted && !servedInFaulted r.code) = false := by
    rcases hc with hc | hc
    · simp [State.isFaulted, State.withRequests, hc]
    · simp [h₄, hc]
  unfold State.runRequest State.takeRequest
  rw [h₃]
  simp [hruns, h₄, State.execute, hr, hl, h₄ ▸ hfault]

/-- What posting a reply does to the link, when no RESET has stopped the processor. -/
theorem State.link_post {s : State} (h : s.link.stopped = false) (r : Request) (rep : Reply) :
    (s.post r rep).link =
      { s.link with replyLine := s.link.replyLine ++ [⟨.posted r.crc, r.tag, r.code, rep⟩] } := by
  simp [State.post, State.modLink, h]

/-- A command that runs the block's body and posts its reply performs the request: the body leaves the link alone
and changes only some parts. -/
theorem performs_of_exec {c : Instr} {s u : State} {r : Request} {rest : List Request} {rep : Reply}
    {parts : List Part} {after : State → Prop} (he : exec c s = .next (u.post r rep))
    (hs : s.link.stopped = false) (hu : u.link = (s.withRequests rest).link)
    (ho : OnlyChanges parts (s.withRequests rest) u) (ha : after (u.post r rep)) :
    Performs c s r rest rep parts after := by
  refine ⟨_, he, ?_, ?_, ha⟩
  · unfold Answers
    rw [State.link_post (by rw [hu]; exact hs), hu]
    rfl
  · have h₁ : OnlyChanges (.link :: parts) s (s.withRequests rest) :=
      (s.withRequests_only rest).weaken (by simp)
    exact (h₁.trans (ho.weaken (by simp))).trans ((State.post_only _ _ _).weaken (by simp))

/-- `performs_of_exec` for a request in the ready state. -/
theorem performs_of_body {c : Instr} {s u : State} {r : Request} {rest : List Request} {rep : Reply}
    {parts : List Part} {after : State → Prop} {code : Byte} {rule : LengthRule} {body : Body}
    (he : exec c s = s.runRequest code body) (ht : Takes s r rest code) (hr : commandRule code = some rule)
    (hl : rule.allows r.payload.length = true) (hb : body r.payload (s.withRequests rest) = (rep, u))
    (hu : u.link = (s.withRequests rest).link) (ho : OnlyChanges parts (s.withRequests rest) u)
    (ha : after (u.post r rep)) : Performs c s r rest rep parts after := by
  refine performs_of_exec ?_ ht.runs hu ho ha
  rw [he, State.runRequest_taken ht hr hl, hb]

/-- A body that refuses a request makes a command that refuses it. -/
theorem refuses_of_body {c : Instr} {s : State} {r : Request} {rest : List Request} {st : Status} {code : Byte}
    {rule : LengthRule} {body : Body} (he : exec c s = s.runRequest code body) (ht : Takes s r rest code)
    (hr : commandRule code = some rule) (hl : rule.allows r.payload.length = true)
    (hb : body r.payload (s.withRequests rest) = (.refuse st, s.withRequests rest)) :
    Refuses c s r rest st :=
  performs_of_body he ht hr hl hb rfl (OnlyChanges.refl _ _) trivial

/-- A body that changes only some parts makes a command that changes only those and the link. -/
theorem State.takeRequest_only {l : List Part} (s : State) (mine : Request → Bool) (body : Body)
    (hb : ∀ bs t, OnlyChanges l t (body bs t).2) (hl : Part.link ∈ l) :
    OnlyChanges l s (s.takeRequest mine body) := by
  have hlink : [Part.link] ⊆ l := by simpa using hl
  rcases s.takeRequest_cases mine body with h | ⟨r, rest, _, _, _, h⟩
  · rw [h]; exact OnlyChanges.refl l s
  · rw [h]
    refine (((s.withRequests_only rest).weaken hlink).trans ?_).trans ((State.post_only _ _ _).weaken hlink)
    rcases State.execute_cases (s.withRequests rest) r body with ⟨st, e⟩ | e
    · rw [e]; exact OnlyChanges.refl l _
    · rw [e]; exact hb _ _

end Sys2Proof.Machine
end

