-- ==== Sys2Proof/WellFormed.lean ====
section
/-! DEFINITION. Which commands are well formed: the ranges that the spec gives an event's own data and that
the types of `Instr` do not already give. Every meaning is total, on ill-formed commands too. -/

namespace Sys2Proof

/-- Width and lines of a measurement are 0 to 4,095 (Table 2-2). -/
def measureInRange (width : Option Nat) (lines : Nat) : Bool :=
  decide (width.getD 0 ≤ 4095) && decide (lines ≤ 4095)

/-- The bytes of a field or frame are whole pixels of 2 bytes and fit one slot (00_scope.md, Table 2). -/
def pixelsFitSlot (pixels : List Byte) : Bool :=
  decide (pixels.length % 2 = 0) && decide (pixels.length ≤ Config.slotBytes)

/-- The failing byte of the DRAM test lies in DRAM (R177, R179). -/
def failingInDram (failing : Option Nat) : Bool :=
  match failing with
  | none => true
  | some a => decide (a < Config.dramBytes)

/-- A shortfall names an active line and at least one pixel, each in a column of the active area (R67,
Table 3-3). -/
def shortfallInRange (line : Nat) (missed : List MissedPixel) : Bool :=
  decide (line < 1080) && !missed.isEmpty && missed.all (fun m => decide (m.column < 1920))

/-- The well-formed commands. -/
def Instr.wellFormed (i : Instr) : Bool :=
  match i with
  | .resetPin _ => true
  | .resetPinRelease _ => true
  | .startUpEnd failing => failingInDram failing
  | .start _ _ width lines _ => measureInRange width lines
  | .fillEnd _ pixels => pixelsFitSlot pixels
  | .lossTimerExpiry _ => true
  | .captureOn => true
  | .captureOff => true
  | .portDepth => true
  | .portFlush => true
  | .portReset => true
  | .portStatus => true
  | .pinTake => true
  | .pinRelease => true
  | .storeStatus => true
  | .frameBoundary _ _ => true
  | .fetchShortfall _ line missed => shortfallInRange line missed
  | .followLoss _ => true
  | .headTiming => true
  | .headOn => true
  | .headOff => true
  | .headMute => true
  | .headBackground => true
  | .headFollow => true
  | .headStatus => true
  | .scenePut => true
  | .sceneRemove => true
  | .sceneRestart => true
  | .sceneRead => true
  | .scenePresent => true
  | .libOpen => true
  | .libData => true
  | .libClose => true
  | .verifyResult => true
  | .inactivityTimerExpiry _ => true
  | .libDelete => true
  | .libList => true
  | .libSpace => true
  | .cursorShape => true
  | .jobStart => true
  | .shapeLoadCompletion => true
  | .cursorMove => true
  | .cursorShow => true
  | .cursorPalette => true
  | .ancConfig => true
  | .ancPush => true
  | .ancFlush => true
  | .ancStatus => true
  | .reset => true
  | .info => true
  | .statsRead => true
  | .statsClear => true
  | .echo => true
  | .unknownCommand => true
  | .request _ => true
  | .noticeAck _ => true
  | .unknownKindFrame _ => true
  | .lengthError _ => true
  | .crcError _ => true
  | .gapError => true
  | .transmitBegin => true
  | .transmitComplete _ => true
  | .resendTimerExpiry => true
  | .receivedByte _ => true

end Sys2Proof
end

