-- ==== Sys2Proof/Tests/Slice0.lean ====
section
/-! SUPPORT. Tests: ill-formed commands, the spec's worked values, one step of the commands on small states, and
for every statement with hypotheses a state and operands that meet them. -/

namespace Sys2Proof.Tests

-- One theorem at a time: many kernel evaluations at once would need more threads than the build allows.
set_option Elab.async false

open Machine

/-! ### Small states -/

/-- The ready state right after a clean start-up. -/
def ready : State := { State.reset with device := ⟨.ready, .pin, 1⟩ }

/-- FAULTED right after start-up. -/
def faulted : State := { State.reset with device := ⟨.faulted 7, .pin, 1⟩ }

/-- A request, and a state in which it is the oldest admitted one. -/
def ask (code : Byte) (payload : List Byte) : Request := ⟨7, code, payload, 0x1234⟩
def asked (s : State) (code : Byte) (payload : List Byte) : State :=
  s.modLink fun l => { l with requestQueue := [ask code payload] }

theorem taken (s : State) (code : Byte) (payload : List Byte) (h : s.device.phase = .ready)
    (k : s.link.stopped = false) : Takes (asked s code payload) (ask code payload) [] code := ⟨h, k, rfl, rfl⟩

theorem served (s : State) (code : Byte) (payload : List Byte)
    (h : s.device.phase = .ready ∨ ∃ a, s.device.phase = .faulted a) (k : s.link.stopped = false) :
    TakesServed (asked s code payload) (ask code payload) [] code := ⟨h, k, rfl, rfl⟩

/-- The state after a command. -/
def after (c : Instr) (s : State) : State :=
  match exec c s with
  | .next t => t
  | .fault _ => s
  | .refused _ => s

/-- The newest reply on the reply line. -/
def answer (s : State) : Option Reply := s.link.replyLine.getLast?.map ReplyEntry.reply

/-- What a request is answered with in a state. -/
def answerTo (c : Instr) (code : Byte) (payload : List Byte) (s : State) : Option Reply :=
  answer (after c (asked s code payload))

/-- A progressive and an interlaced measurement, and two timing records. -/
def prog : Measurement := ⟨64, 48, 20000, false⟩
def inter : Measurement := ⟨64, 24, 20000, true⟩
def vga : Timing := ⟨640, 480, 800, 525, 25000⟩
def smallest : Timing := ⟨320, 240, 352, 248, 25000⟩

/-- Port 0 with a detector, a history and a writer, its last start at 1 s. -/
def porting (d : Detector) (history : List FieldLevel) (w : Writer) (s : State) : State :=
  s.modPort 0 fun q => { q with detector := d, startHistory := history, writer := w, lastStart := 1000000000 }

/-- Frame `n` of port 0. -/
def frame (n : FrameNumber) (refs : Nat) (shown : Bool) : StoredFrame := ⟨0, n, ⟨64, 48, false⟩, refs, shown⟩

/-- Frames in the ready list of port 0, oldest first, in slots 0, 1 and so on. -/
def holding (frames : List StoredFrame) (s : State) : State :=
  let slots := slotIds.take frames.length
  ((((slots.zip frames).foldl (fun s e => s.setSlot e.1 (.ready e.2)) s).setReady 0 slots)).setFreeList
    (slotIds.drop frames.length)

/-- Head 0 changed. -/
def heading (f : Head → Head) (s : State) : State := s.modHead 0 f

/-- Head 0 RUNNING with the VGA record. -/
def running : State := heading (fun hd => { hd with state := .running, timing := some vga }) ready

/-- A window on the whole of port 0, from the top-left corner. -/
def live (policy : Policy) (onLoss : OnLoss) (freeze : Bool) : WindowRecord :=
  ⟨.live 0 policy onLoss none none freeze, ⟨0, 0, 64, 48⟩, 0, 16, none⟩

/-- A window on pin 0. -/
def pinned (onLoss : OnLoss) : WindowRecord := ⟨.pin 0 onLoss none none, ⟨0, 0, 64, 48⟩, 0, 16, none⟩

/-- A window on library image 1. -/
def imaged : WindowRecord := ⟨.image 0 none, ⟨0, 0, 64, 48⟩, 0, 16, none⟩

/-- A window of one colour. -/
def flat : WindowRecord := ⟨.fill ⟨1, 2, 3⟩, ⟨0, 0, 64, 48⟩, 0, 16, none⟩

/-- A scene of one window, at position 0. -/
def scene (w : WindowRecord) : Scene := Scene.allAbsent.set 0 (some w)

/-- Head 0 RUNNING with one window. -/
def showing (w : WindowRecord) (v : Selection) (s : State) : State :=
  heading (fun hd => { hd with
    state := .running, timing := some vga, activeScene := scene w, selection := hd.selection.set 0 v }) s

/-- A SPRITE and an IMAGE of the smallest sizes at block 3. -/
def sprite : EntryInfo := ⟨.sprite, 8, 8, 5, 3⟩
def image : EntryInfo := ⟨.image, 16, 16, 5, 3⟩

/-- Library id 1 in a given state of its life. -/
def entered (e : Entry) (s : State) : State := s.setEntry 0 e

theorem notLocked {d : Detector} (h : d.isLocked = false) : ∀ l, d ≠ .locked l := by
  rintro l rfl; cases h

theorem notReceiving {e : Entry} (h : e.byte ≠ 1) : ∀ i n, e ≠ .receiving i n := by
  rintro i n rfl; exact h rfl

/-! ### Well-formed commands -/

theorem test_refuses_wide_start : (Instr.start 0 .first (some 4096) 48 0).wellFormed = false := by decide
theorem test_refuses_tall_start : (Instr.start 0 .first (some 64) 4096 0).wellFormed = false := by decide
theorem test_refuses_half_a_pixel : (Instr.fillEnd 0 [1, 2, 3]).wellFormed = false := by decide
theorem test_refuses_failing_past_dram : (Instr.startUpEnd (some 67108864)).wellFormed = false := by decide
theorem test_refuses_shortfall_past_lines : (Instr.fetchShortfall 0 1080 [⟨0, 0⟩]).wellFormed = false := by decide
theorem test_refuses_shortfall_of_nothing : (Instr.fetchShortfall 0 0 []).wellFormed = false := by decide
theorem test_refuses_shortfall_past_columns : (Instr.fetchShortfall 0 0 [⟨0, 1920⟩]).wellFormed = false := by decide
theorem test_accepts_edges :
    (Instr.start 3 .second (some 4095) 4095 0).wellFormed = true ∧
    (Instr.fillEnd 0 [1, 2]).wellFormed = true ∧ (Instr.startUpEnd (some 67108863)).wellFormed = true ∧
    (Instr.fetchShortfall 1 1079 [⟨11, 1919⟩]).wellFormed = true := by decide
theorem test_fill_too_long (l : List Byte) (h : 1843200 < l.length) : (Instr.fillEnd 0 l).wellFormed = false := by
  have h' : ¬ l.length ≤ Config.slotBytes := Nat.not_le.2 h
  simp [Instr.wellFormed, pixelsFitSlot, h']
theorem test_no_row_has_bits (nbits w : Nat) : decodeTableWord nbits w = none := rfl

/-! ### The spec's worked values -/

/-- The characters "123456789". -/
def nineDigits : List Byte := [0x31, 0x32, 0x33, 0x34, 0x35, 0x36, 0x37, 0x38, 0x39]

/-- R153. -/
theorem test_crc16_of_nine_digits : crc16 nineDigits = 0x29B1 := by decide +kernel
/-- R121. -/
theorem test_crc32_of_nine_digits : crc32 nineDigits = 0xCBF43926 := by decide +kernel
/-- R177, Table 10-4, Table 11-8: the notice READY of a pin reset as it goes on the line. -/
theorem test_ready_notice_on_the_line :
    ((after .transmitBegin (after (.startUpEnd none) State.reset)).link.transmitter.map fun x => x.bytes.take 11) =
      some [0xA5, 8, 0, 0x83, 0, 0x01, 0, 0, 0, 0, 0] := by decide +kernel
/-- Table 11-5: 39 codes, of which 0x10 serves two rows. -/
theorem test_command_table : commandTable.length = 39 ∧ commandRule 0x20 = some (.exactly 37) ∧
    commandRule 0x59 = some (.oddBetween 3 33) ∧ commandRule 0x06 = none := by decide
/-- R62: raw errors brought into range on 525 lines. -/
theorem test_phase_errors : wrapError 525 (-270) = 255 ∧ wrapError 525 (-262) = -262 ∧ wrapError 525 262 = 262 ∧
    wrapError 525 263 = -262 := by decide
/-- R139: INVERT over black. -/
theorem test_invert_black :
    cursorValue ⟨false, .black, .black, true, .white, .black, []⟩ 3 .black = ⟨239, 127, 127⟩ := by decide
/-- R147: the character "H" has two ones and takes parity 1; "i" has four. -/
theorem test_parity : parityByte 0x48 = 0xC8 ∧ parityByte 0x69 = 0xE9 ∧ parityByte 0x01 = 0x01 := by decide
/-- Tables 10-4 and 11-8, R183: a source that became UNSUPPORTED without a measurement, and a follow loss. -/
theorem test_notice_layouts :
    noticeLayout (.inputState 2 .unsupported none) = (0x02, 2, [2, 3, 0, 0, 0, 0, 0, 0, 0, 0, 0, 0]) ∧
    noticeLayout (.followState 1 .pulling none (-3)) = (0x06, 1, [1, 1, 255, 0xFD, 0xFF]) := by decide +kernel
/-- R113. -/
theorem test_block_counts : (EntryInfo.mk .image 1280 720 0 0).blockCount = 450 ∧ sprite.blockCount = 1 := by decide
/-- R94. -/
theorem test_half_blend : blend 8 .white .black = ⟨126, 128, 128⟩ := by decide

/-! ### The hypotheses of the statements, met -/

theorem test_hyp_StepTakesFrontCommand : State.reset.pending = [] := rfl

theorem test_hyp_ResetAndStartUpRestoreThePart :
    (after (.resetPin ⟨true, false⟩) State.reset).device.phase = .held ∧ State.reset.device.phase = .starting := by
  decide

/-- A part that has executed RESET, and its reply on the line. -/
def resetting : State := after .transmitBegin (after .reset (asked ready 0x01 []))

theorem test_hyp_ResetRequestResetsAfterItsReply :
    TakesServed (asked ready 0x01 []) (ask 0x01 []) [] 0x01 ∧
    TakesServed (asked faulted 0x01 []) (ask 0x01 []) [] 0x01 ∧
    (after .reset (asked ready 0x01 [])).link.stopped = true ∧ (requestCode .info).isSome = true ∧
    resetting.link.transmitter =
      some ⟨.reply ⟨.reset, 7, 1, ⟨.ok, []⟩⟩, frameBytes 0x81 7 1 0 []⟩ :=
  ⟨served _ _ _ (.inl rfl) rfl, served _ _ _ (.inr ⟨7, rfl⟩) rfl, by decide, rfl, by decide +kernel⟩

theorem test_hyp_ProcessorRefusesWhatItCannotServe :
    (TakesServed (asked ready 0x77 []) (ask 0x77 []) [] 0x77 ∧ commandRule 0x77 = none) ∧
    (TakesServed (asked ready 0x02 [0]) (ask 0x02 [0]) [] 0x02 ∧ requestCode .info = some 0x02 ∧
      commandRule 0x02 = some (.exactly 0) ∧ (LengthRule.exactly 0).allows 1 = false) ∧
    (TakesServed (asked faulted 0x10 [0, 1]) (ask 0x10 [0, 1]) [] 0x10 ∧ requestCode .captureOn = some 0x10 ∧
      (asked faulted 0x10 [0, 1]).device.phase = .faulted 7 ∧ commandRule 0x10 = some (.exactly 2) ∧
      (LengthRule.exactly 2).allows 2 = true ∧ byteAt [0, 1] 1 ≠ 0) :=
  ⟨⟨served _ _ _ (.inl rfl) rfl, by decide⟩, ⟨served _ _ _ (.inl rfl) rfl, by decide⟩,
    served _ _ _ (.inr ⟨7, rfl⟩) rfl, by decide⟩

theorem test_hyp_InfoReturnsTheIdentity :
    TakesServed (asked ready 0x02 []) (ask 0x02 []) [] 0x02 ∧ (asked ready 0x02 []).device.phase = .ready ∧
    TakesServed (asked faulted 0x02 []) (ask 0x02 []) [] 0x02 ∧
    (asked faulted 0x02 []).device.phase = .faulted 7 ∧
    (asked ready 0x02 []).link.rate = .rate115200 ∧
    (Link.reset (lineRate ⟨false, true⟩)).rate = .rate460800 ∧
    (Link.reset (lineRate ⟨true, false⟩)).rate = .rate921600 :=
  ⟨served _ _ _ (.inl rfl) rfl, rfl, served _ _ _ (.inr ⟨7, rfl⟩) rfl, rfl, rfl, rfl, rfl⟩

theorem test_hyp_StatsReadAndClear :
    TakesServed (asked ready 0x03 [3]) (ask 0x03 [3]) [] 0x03 ∧ (ask 0x03 [3]).payload = [byteOf (3 : PortId).val] ∧
    TakesServed (asked faulted 0x03 [17]) (ask 0x03 [17]) [] 0x03 ∧
    (ask 0x03 [17]).payload = [byteOf (16 + (1 : HeadId).val)] ∧
    Takes (asked ready 0x04 [0x20]) (ask 0x04 [0x20]) [] 0x04 ∧
    (∀ b ∈ [(4 : Byte), 0x0F, 0x12, 0x1F, 0x21, 0xFF], 3 < b.toNat ∧ b ≠ 0x10 ∧ b ≠ 0x11 ∧ b ≠ 0x20) :=
  ⟨served _ _ _ (.inl rfl) rfl, by decide, served _ _ _ (.inr ⟨7, rfl⟩) rfl, by decide, taken _ _ _ rfl rfl,
    by decide⟩

theorem test_hyp_ReportsChangeNothing :
    Takes (asked ready 0x14 [3]) (ask 0x14 [3]) [] 0x14 ∧ Takes (asked ready 0x1A [2]) (ask 0x1A [2]) [] 0x1A ∧
    Takes (asked ready 0x36 [1]) (ask 0x36 [1]) [] 0x36 ∧ Takes (asked ready 0x44 [64]) (ask 0x44 [64]) [] 0x44 ∧
    (ask 0x44 [64]).payload = [libIdByte 63] ∧ Takes (asked ready 0x45 []) (ask 0x45 []) [] 0x45 ∧
    Takes (asked ready 0x5B [1]) (ask 0x5B [1]) [] 0x5B ∧
    (Takes (asked (showing imaged .cleared ready) 0x23 [0, 1, 0]) (ask 0x23 [0, 1, 0]) [] 0x23 ∧
      ((showing imaged .cleared ready).head 0).activeScene[(0 : Position)] = some imaged ∧
      ((showing imaged .cleared ready).head 0).pendingScene[(11 : Position)] = none) ∧
    TakesServed (asked ready 0x05 (List.replicate 256 0xA5)) (ask 0x05 (List.replicate 256 0xA5)) [] 0x05 ∧
    (ask 0x05 (List.replicate 256 0xA5)).payload.length ≤ 256 ∧
    (PoolOk ready ∧ (storeLists ready).length = 122) ∧
    (∃ frames, PoolOk (holding frames (ready.setFreeList [])) ∧
      (storeLists (holding frames (ready.setFreeList []))).length = 122) :=
  ⟨taken _ _ _ rfl rfl, taken _ _ _ rfl rfl, taken _ _ _ rfl rfl, taken _ _ _ rfl rfl, by decide,
    taken _ _ _ rfl rfl, taken _ _ _ rfl rfl, ⟨taken _ _ _ rfl rfl, by decide +kernel, by decide +kernel⟩,
    served _ _ _ (.inl rfl) rfl, by decide +kernel, by decide +kernel,
    ⟨[frame 1 0 false, frame 2 1 true], by decide +kernel⟩⟩

theorem test_hyp_RequestsTouchOnlyWhatTheyName :
    (Takes (asked ready 0x31 [0]) (ask 0x31 [0]) [] 0x31 ∧
      (after .headOn (asked ready 0x31 [0])).link.replyLine = [⟨.posted 0x1234, 7, 0x31, .refuse .wrongState⟩] ∧
      (Reply.refuse .wrongState).status ≠ .ok ∧ (Reply.refuse .wrongState).status ≠ .accepted) ∧
    (∀ x ∈ [(Instr.portStatus, (0x14 : Byte), [(4 : Byte)]), (.captureOff, 0x10, [0, 2]), (.headOn, 0x31, [2]),
        (.pinRelease, 0x19, [8]), (.storeStatus, 0x1A, [3]), (.libList, 0x44, [0]), (.libList, 0x44, [65]),
        (.pinTake, 0x18, [7, 4]), (.scenePut, 0x20, 1 :: 12 :: List.replicate 35 0), (.sceneRemove, 0x21, [1, 12]),
        (.sceneRestart, 0x22, [1, 2]), (.sceneRead, 0x23, [1, 2, 11]), (.sceneRead, 0x23, [1, 1, 12]),
        (.libOpen, 0x40, [1, 2, 8, 0, 8, 0, 5, 0, 0, 0]), (.cursorShape, 0x50, [1, 0]), (.cursorShape, 0x50, [1, 65])],
      requestCode x.1 = some x.2.1 ∧ (commandRule x.2.1).any (fun r => r.allows x.2.2.length) = true) ∧
    codeNamesHead 0x31 = true ∧ byteAt [0] 0 = byteOf (0 : HeadId).val :=
  ⟨⟨taken _ _ _ rfl rfl, by decide +kernel, by decide, by decide⟩, by decide, by decide, by decide⟩

theorem test_hyp_DetectorFollowsTheMeasurements :
    ready.device.phase = .ready ∧ (ready.port 0).detector = .noSignal ∧
    (∀ m ∈ [Measurement.mk 64 48 10000 false, ⟨1280, 720, 50000, false⟩, ⟨64, 24, 10000, true⟩,
      ⟨1280, 360, 50000, true⟩], m.inRange = true) ∧
    (∀ m ∈ [Measurement.mk 62 48 20000 false, ⟨1282, 48, 20000, false⟩, ⟨65, 48, 20000, false⟩, ⟨64, 47, 20000, false⟩,
      ⟨64, 721, 20000, false⟩, ⟨64, 23, 20000, true⟩, ⟨64, 361, 20000, true⟩, ⟨64, 48, 9999, false⟩,
      ⟨64, 48, 50001, false⟩], m.inRange = false) ∧
    prog.identical ⟨64, 48, 20100, false⟩ = true ∧ (Measurement.mk 64 48 20100 false).identical prog = true ∧
    (Measurement.mk 64 48 20101 false).identical prog = false ∧
    (∀ d ∈ [Detector.acquiring none 0 0, .acquiring none 0 2, .acquiring (some prog) 1 0, .acquiring (some prog) 2 0,
      .acquiring (some inter) 2 0, .locked prog, .locked inter, .unsupported],
      ((porting d [.first] .off ready).port 0).detector = d ∧
      (porting d [.first] .off ready).device.phase = .ready) ∧
    ∀ x ∈ [(Detector.acquiring none 0 2, (62 : Nat), Detector.unsupported), (.unsupported, 62, .unsupported),
      (.unsupported, 64, .acquiring (some prog) 1 0), (.acquiring (some prog) 1 0, 64, .acquiring (some prog) 2 0)],
      ((after (.start 0 .first (some x.2.1) 48 1020000000) (porting x.1 [.first] .off ready)).port 0).detector =
        x.2.2 := by decide +kernel

/-- A locked port 0, and the start that it takes. -/
def lockedProg (w : Writer) (s : State) : State := porting (.locked prog) [.first] w s
def lockedInter (w : Writer) (s : State) : State := porting (.locked inter) [.second, .first] w s

theorem startsProg (w : Writer) (s : State) (h : (lockedProg w s).device.phase = .ready)
    (k : ((lockedProg w s).port 0).detector.measured
      (((lockedProg w s).port 0).measure .first (some 64) 48 1020000000) = .locked prog) :
    LockedStart (lockedProg w s) 0 .first (some 64) 48 1020000000 prog := ⟨h, k⟩

/-- Every slot READY, HELD or filled: the free list is empty. -/
def exhausted (frames : List StoredFrame) : State := (holding frames ready).setFreeList []

theorem test_hyp_LockedStartClaimsASlot :
    (LockedStart (lockedProg .armed ready) 0 .first (some 64) 48 1020000000 prog ∧ prog.interlaced = false ∧
      ((lockedProg .armed ready).port 0).writer = .armed ∧
      (lockedProg .armed ready).pool.freeList = 0 :: slotIds.drop 1) ∧
    (LockedStart (lockedProg .armed (exhausted [frame 1 1 true, frame 2 0 false])) 0 .first (some 64) 48
        1020000000 prog ∧
      (lockedProg .armed (exhausted [frame 1 1 true, frame 2 0 false])).readyList 0 = [0] ++ 1 :: [] ∧
      ((lockedProg .armed (exhausted [frame 1 1 true, frame 2 0 false])).slot 0).refs ≠ 0 ∧
      (lockedProg .armed (exhausted [frame 1 1 true, frame 2 0 false])).slot 1 = .ready (frame 2 0 false)) ∧
    (LockedStart (lockedProg .armed (exhausted [frame 1 1 true])) 0 .first (some 64) 48 1020000000 prog ∧
      (lockedProg .armed (exhausted [frame 1 1 true])).pool.freeList = [] ∧
      ∀ j ∈ (lockedProg .armed (exhausted [frame 1 1 true])).readyList 0,
        ((lockedProg .armed (exhausted [frame 1 1 true])).slot j).refs ≠ 0) ∧
    LockedStart (lockedInter .armed ready) 0 .first (some 64) 24 1020000000 inter :=
  ⟨⟨startsProg _ _ rfl (by decide +kernel), by decide +kernel⟩,
    ⟨startsProg _ _ rfl (by decide +kernel), by decide +kernel⟩,
    ⟨startsProg _ _ rfl (by decide +kernel), by decide +kernel⟩, rfl, by decide +kernel⟩

theorem test_hyp_LockedStartMeetsTheWriter :
    (LockedStart (lockedProg (.filling .progressive 0 1) ready) 0 .first (some 64) 48 1020000000 prog ∧
      ((lockedProg (.filling .progressive 0 1) ready).port 0).writer = .filling .progressive 0 1) ∧
    (LockedStart (lockedProg .off ready) 0 .first (some 64) 48 1020000000 prog ∧
      ((lockedProg .off ready).port 0).writer = .off) ∧
    (LockedStart (lockedInter (.filling .await 0 1) ready) 0 .second (some 64) 24 1020000000 inter ∧
      inter.interlaced = true ∧ ((lockedInter (.filling .await 0 1) ready).port 0).writer = .filling .await 0 1) ∧
    (LockedStart (lockedInter (.filling .first 0 1) ready) 0 .second (some 64) 24 1020000000 inter ∧
      ∀ i ∈ slotIds, ((lockedInter (.filling .first 0 1) ready).port 0).writer ≠ .filling .await i 1) :=
  ⟨⟨startsProg _ _ rfl (by decide +kernel), by decide +kernel⟩,
    ⟨startsProg _ _ rfl (by decide +kernel), by decide +kernel⟩,
    ⟨⟨rfl, by decide +kernel⟩, by decide +kernel⟩, ⟨⟨rfl, by decide +kernel⟩, by decide +kernel⟩⟩

theorem test_hyp_LosingLockAbortsTheFill :
    (((lockedProg (.filling .progressive 0 1) ready).port 0).detector = .locked prog ∧
      (((lockedProg (.filling .progressive 0 1) ready).port 0).measure .first (some 66) 48 1020000000).identical prog
        = false) ∧
    ((porting .unsupported [] .off ready).port 0).detector ≠ .noSignal ∧
    (∀ l, ((porting .unsupported [] .off ready).port 0).detector ≠ .locked l) :=
  ⟨by decide +kernel, by decide +kernel, notLocked (by decide +kernel)⟩

/-- Port 0 filling slot 5 at a stage, behind a ready list. -/
def filling (stage : FillStage) (frames : List StoredFrame) : State :=
  (lockedProg (.filling stage 5 9) (holding frames ready)).setSlot 5 (.filling 0 ⟨64, 48, false⟩)

theorem test_hyp_FillEndStoresTheFrame :
    (∀ stage ∈ [FillStage.progressive, .first, .second],
      ((filling stage [frame 1 0 true]).port 0).writer = .filling stage 5 9 ∧ stage ≠ .await ∧
      (filling stage [frame 1 0 true]).slot 5 = .filling 0 ⟨64, 48, false⟩ ∧
      2 * 64 * 48 ≤ Config.slotBytes ∧ ((filling stage [frame 1 0 true]).readyList 0).length < 2 ∧
      ((filling stage [frame 1 0 true]).port 0).depth = 2) ∧
    0 < [(1 : Byte), 2].length ∧ 0 < fillLength ⟨64, 48, false⟩ .second := by decide +kernel

theorem test_hyp_CompletionEvictsTheOldest :
    ∀ f ∈ [frame 1 0 false, frame 1 1 true], 2 * 64 * 48 ≤ Config.slotBytes ∧
      ((filling .second [f, frame 2 0 false]).port 0).writer = .filling .second 5 9 ∧
      ((filling .progressive [f, frame 2 0 false]).port 0).writer = .filling .progressive 5 9 ∧
      (filling .progressive [f, frame 2 0 false]).slot 5 = .filling 0 ⟨64, 48, false⟩ ∧
      (filling .progressive [f, frame 2 0 false]).readyList 0 = [0, 1] ∧
      ((filling .progressive [f, frame 2 0 false]).port 0).depth = 2 ∧
      (filling .progressive [f, frame 2 0 false]).slot 0 = .ready f := by decide +kernel

theorem test_hyp_CaptureSwitchesTheWriter :
    Takes (asked ready 0x10 [3, 1]) (ask 0x10 [3, 1]) [] 0x10 ∧ (ready.port 3).writer = .off ∧
    (ask 0x10 [3, 1]).payload = [byteOf (3 : PortId).val, 1] ∧
    ((lockedProg .armed ready).port 0).writer = .armed ∧ ((filling .progressive []).port 0).writer ≠ .armed ∧
    ((filling .progressive []).port 0).writer ≠ .off :=
  ⟨taken _ _ _ rfl rfl, by decide +kernel⟩

theorem test_hyp_DepthAndFlushShortenTheReadyList :
    PoolOk (asked (holding [frame 1 0 false, frame 2 1 true] ready) 0x11 [0, 1]) ∧
    Takes (asked (holding [frame 1 0 false, frame 2 1 true] ready) 0x11 [0, 1]) (ask 0x11 [0, 1]) [] 0x11 ∧
    (holding [frame 1 0 false, frame 2 1 true] ready).readyList 0 = [0] ++ [1] ∧
    Takes (asked (holding [frame 1 0 false, frame 2 1 true] ready) 0x12 [0]) (ask 0x12 [0]) [] 0x12 ∧
    (∀ d ∈ [(1 : Byte), 4], 1 ≤ d.toNat ∧ d.toNat ≤ 4) ∧ (∀ d ∈ [(0 : Byte), 5], d.toNat = 0 ∨ 4 < d.toNat) :=
  ⟨by decide +kernel, taken _ _ _ rfl rfl, by decide +kernel, taken _ _ _ rfl rfl, by decide, by decide⟩

theorem test_hyp_PortResetRestoresThePort :
    PoolOk (asked (lockedProg .armed (holding [frame 1 0 false, frame 2 1 true] ready)) 0x13 [0]) ∧
    Takes (asked (lockedProg .armed (holding [frame 1 0 false, frame 2 1 true] ready)) 0x13 [0]) (ask 0x13 [0]) []
      0x13 ∧
    ((lockedProg .armed (holding [frame 1 0 false, frame 2 1 true] ready)).port 0).detector = .locked prog ∧
    PoolOk (asked ((filling .progressive []).setFreeList (slotIds.filter (· ≠ 5))) 0x13 [0]) ∧
    (∀ l, (ready.port 0).detector ≠ .locked l) :=
  ⟨by decide +kernel, taken _ _ _ rfl rfl, by decide +kernel, by decide +kernel,
    notLocked (by decide +kernel)⟩

theorem test_hyp_PinsTakeAndRelease :
    (Takes (asked ready 0x18 [7, 3]) (ask 0x18 [7, 3]) [] 0x18 ∧ ready.readyList 3 = []) ∧
    (Takes (asked (holding [frame 1 0 false, frame 2 0 false] ready) 0x18 [7, 0]) (ask 0x18 [7, 0]) [] 0x18 ∧
      (holding [frame 1 0 false, frame 2 0 false] ready).readyList 0 = [0] ++ [1] ∧
      (holding [frame 1 0 false, frame 2 0 false] ready).slot 1 = .ready (frame 2 0 false) ∧
      ready.pin 7 = none) ∧
    ((holding [frame 1 1 true, frame 2 0 false] ready).setPin 7 (some ⟨0, 0, 1⟩)).pin 7 = some ⟨0, 0, 1⟩ ∧
    ((0 : SlotId) ≠ 1) ∧ Takes (asked ready 0x19 [7]) (ask 0x19 [7]) [] 0x19 :=
  ⟨⟨taken _ _ _ rfl rfl, by decide +kernel⟩, ⟨taken _ _ _ rfl rfl, by decide +kernel⟩, by decide +kernel,
    by decide, taken _ _ _ rfl rfl⟩

theorem test_hyp_BoundaryCountsAndBeginsAFrame :
    (ready.head 0).state = .off ∧ Draws running 0 vga ∧ (running.head 0).follow.source = none :=
  ⟨by decide +kernel, ⟨rfl, by decide +kernel, by decide +kernel⟩, by decide +kernel⟩

/-- Head 0 RUNNING and following port 0, which is usable, with a follow state and run count. -/
def follower (st : FollowState) (run : Nat) : State :=
  heading (fun hd => { hd with
      state := .running, timing := some vga
      follow := { hd.follow with source := some 0, window := 64, state := st, runCount := run } })
    ((lockedProg .armed ready).modPort 0 fun q =>
      { q with latestFrameStart := some 1000000000, startedSinceLock := true })

/-- A head in FOLLOWING with a follow loss, its source locked again or gone. -/
def relocked (loss : FollowLoss) : State :=
  heading (fun hd => { hd with follow := { hd.follow with loss := loss } }) (follower .following 0)
def losing (loss : FollowLoss) : State := (relocked loss).modPort 0 Port.loseSignal

theorem findsItself {s : State} (k : ¬ s.LossComesFirst 0) : s.BoundaryFinds 0 (s.head 0).follow :=
  ⟨fun h => absurd h k, fun _ => rfl⟩

theorem findsFreed {s : State} (k : s.LossComesFirst 0) : s.BoundaryFinds 0
    { (s.head 0).follow with state := .freeRun, runCount := 0, loss := .clear } :=
  ⟨fun _ => rfl, fun h => absurd k h⟩

theorem keepsWithoutLoss : ¬ (relocked .clear).LossComesFirst 0 := id

theorem keepsUntilLoss : ¬ (losing (.due 1000000000)).LossComesFirst 0 := by
  rintro ⟨p, l, hp, hl⟩
  cases hp
  exact notLocked (d := ((losing (.due 1000000000)).port 0).detector) (by decide +kernel) l hl

theorem losesFirst : (relocked (.due 5)).LossComesFirst 0 ∧ (losing .overdue).LossComesFirst 0 :=
  ⟨⟨0, prog, by decide +kernel, by decide +kernel⟩, trivial⟩

/-- The losses at which `BoundaryFinds` is met: none, one taken after the boundary, and one taken before it, its
source locked again or not. -/
theorem test_hyp_BoundaryFinds :
    (relocked .clear).BoundaryFinds 0 ((relocked .clear).head 0).follow ∧
    (losing (.due 1000000000)).BoundaryFinds 0 ((losing (.due 1000000000)).head 0).follow ∧
    ((losing (.due 1000000000)).head 0).follow.loss = .due 1000000000 ∧
    (relocked (.due 5)).BoundaryFinds 0
      { ((relocked (.due 5)).head 0).follow with state := .freeRun, runCount := 0, loss := .clear } ∧
    (relocked (.due 5)).UsableSource 0 1000000000 ∧
    (losing .overdue).BoundaryFinds 0
      { ((losing .overdue).head 0).follow with state := .freeRun, runCount := 0, loss := .clear } ∧
    (∀ start, ¬ (losing .overdue).UsableSource 0 start) ∧
    (∀ loss, Draws (relocked loss) 0 vga ∧ Draws (losing loss) 0 vga) ∧ vga.inRange = true :=
  ⟨findsItself keepsWithoutLoss, findsItself keepsUntilLoss, rfl, findsFreed losesFirst.1,
    ⟨⟨prog, by decide +kernel⟩, by decide +kernel, by decide +kernel⟩, findsFreed losesFirst.2,
    fun _ h => h.1.elim (notLocked (by decide +kernel)),
    fun _ => ⟨⟨rfl, nofun, rfl⟩, ⟨rfl, nofun, rfl⟩⟩, by decide⟩

theorem test_hyp_BoundaryFollowsTheSource :
    (∀ x ∈ [(FollowState.freeRun, 0), (.pulling, 6), (.pulling, 7), (.following, 6), (.following, 7)],
      ((follower x.1 x.2).head 0).state ≠ .off ∧ ((follower x.1 x.2).head 0).timing = some vga ∧
      vga.inRange = true ∧ ((follower x.1 x.2).head 0).follow.source = some 0 ∧
      ((follower x.1 x.2).port 0).detector = .locked prog ∧
      ((follower x.1 x.2).port 0).startedSinceLock = true ∧
      ((follower x.1 x.2).port 0).latestFrameStart = some 1000000000 ∧
      ((follower x.1 x.2).head 0).follow.state = x.1 ∧ ((follower x.1 x.2).head 0).follow.runCount = x.2) ∧
    ∀ x ∈ [((1000000000 : Time), (0 : Int)), (1000064000, -2), (1000096000, -3), (1016768000, 1)],
      ((after (.frameBoundary 0 x.1) (follower .pulling 0)).head 0).follow.phaseError = some x.2 := by
  decide +kernel

/-- A present pending of a scene. -/
def presenting (w : WindowRecord) (s : State) : State :=
  heading (fun hd => { hd with pendingScene := scene w, presentPending := true }) s

theorem test_hyp_LiveWindowsChooseTheirFrames :
    PoolOk (showing (live .latest .hold false) .cleared (holding [frame 1 0 false, frame 2 0 false] ready)) ∧
    Draws (showing (live .latest .hold false) .cleared (holding [frame 1 0 false, frame 2 0 false] ready)) 0 vga ∧
    ((showing (live .latest .hold false) .cleared ready).head 0).presentPending = false ∧
    (∀ w ∈ [live .latest .hold false, live .paced .hold false, live .latest .fallback false, live .paced .hold true],
      ((showing w .cleared ready).head 0).activeScene[(0 : Position)] = some w) ∧
    (∀ v ∈ [Selection.cleared, ⟨some ⟨0, 0, 1⟩, some 1, 0⟩, ⟨none, some 2, 5⟩],
      (showing (live .latest .hold false) v ready).selectionAt 0 0 = v) ∧
    (∀ l, (ready.port 0).detector ≠ .locked l) ∧
    (PoolOk (presenting (live .paced .hold false) (showing imaged .cleared (holding [frame 1 0 false] ready))) ∧
      Draws (presenting (live .paced .hold false) (showing imaged .cleared (holding [frame 1 0 false] ready))) 0 vga ∧
      ((presenting (live .paced .hold false) (showing imaged .cleared ready)).head 0).presentPending = true ∧
      ((presenting (live .paced .hold false) (showing imaged .cleared ready)).head 0).pendingScene[(0 : Position)] =
        some (live .paced .hold false) ∧
      keepsContinuity (some imaged) (some (live .paced .hold false)) = false) :=
  ⟨by decide +kernel, ⟨rfl, by decide +kernel, by decide +kernel⟩, by decide +kernel, by decide +kernel,
    by decide +kernel, notLocked (by decide +kernel), by decide +kernel,
    ⟨rfl, by decide +kernel, by decide +kernel⟩, by decide +kernel⟩

/-- The second clause of `ReferencesOk`, in a form that `decide` settles. -/
theorem heldCounted {s : State} (h : ∀ i ∈ slotIds, (s.slot i).bytes.head? = some 3 → 1 ≤ (s.slot i).refs) (i : SlotId) :
    match s.slot i with
    | .held f => 1 ≤ f.refs
    | .free => True
    | .filling _ _ => True
    | .ready _ => True := by
  have hi : i ∈ slotIds := by revert i; decide
  have h' := h i hi
  split
  · rename_i f e; rw [e] at h'; exact h' rfl
  all_goals trivial

/-- Pin 0 on slot 0, which is HELD for it, with port 0 not LOCKED. -/
def pinning : State := ((ready.setFreeList (slotIds.drop 1)).setSlot 0 (.held (frame 1 1 true))).setPin 0 (some ⟨0, 0, 1⟩)

theorem test_hyp_PinWindowsFollowTheirPins :
    PoolOk (showing (pinned .hold) .cleared pinning) ∧ ReferencesOk (showing (pinned .hold) .cleared pinning) ∧
    Draws (showing (pinned .hold) .cleared pinning) 0 vga ∧
    ((showing (pinned .hold) .cleared pinning).slot 0).frame? = some (frame 1 1 true) ∧
    (showing (pinned .hold) .cleared pinning).pin 0 = some ⟨0, 0, 1⟩ ∧
    (showing (pinned .hold) .cleared pinning).selectionAt 0 0 = .cleared ∧ ready.pin 0 = none ∧
    (∀ l, (pinning.port 0).detector ≠ .locked l) ∧
    (showing (pinned .hold) ⟨some ⟨0, 0, 1⟩, some 1, 0⟩ pinning).selectionAt 0 0 = ⟨some ⟨0, 0, 1⟩, some 1, 0⟩ ∧
    ((showing imaged .cleared ready).head 0).activeScene[(0 : Position)] = some imaged ∧
    (PoolOk (presenting (pinned .hold) (showing imaged .cleared pinning)) ∧
      ReferencesOk (presenting (pinned .hold) (showing imaged .cleared pinning)) ∧
      Draws (presenting (pinned .hold) (showing imaged .cleared pinning)) 0 vga ∧
      ((presenting (pinned .hold) (showing imaged .cleared pinning)).head 0).pendingScene[(0 : Position)] =
        some (pinned .hold)) :=
  ⟨by decide +kernel,
    ⟨by decide +kernel, heldCounted (by decide +kernel), by decide +kernel⟩,
    ⟨rfl, by decide +kernel, by decide +kernel⟩, by decide +kernel, by decide +kernel, by decide +kernel,
    by decide +kernel, notLocked (by decide +kernel), by decide +kernel, by decide +kernel, by decide +kernel,
    ⟨by decide +kernel, heldCounted (by decide +kernel), by decide +kernel⟩,
    ⟨rfl, by decide +kernel, by decide +kernel⟩, by decide +kernel⟩

theorem test_hyp_ContinuityDecidesWhatAWindowKeeps :
    Draws (presenting (live .paced .hold true) (showing (live .latest .hold false) ⟨none, some 3, 4⟩ ready)) 0 vga ∧
    (presenting (live .paced .hold true) (showing (live .latest .hold false) ⟨none, some 3, 4⟩ ready)).selectionAt 0 0 =
      ⟨none, some 3, 4⟩ ∧
    ((after (.frameBoundary 0 5) (presenting (live .paced .hold true)
      (showing (live .latest .hold false) ⟨none, some 3, 4⟩ ready))).head 0).activeScene[(0 : Position)] =
        some (live .paced .hold true) ∧
    keepsContinuity (some (live .latest .hold false)) (some imaged) = false ∧
    keepsContinuity (some imaged) none = false ∧
    keepsContinuity (some (live .latest .hold false)) (some (live .paced .fallback true)) = true ∧
    (ready.pin 0 = none ∧ ready.readyList 0 = [] ∧ ∀ l, (ready.port 0).detector ≠ .locked l) ∧
    (∀ e, pinning.pin 0 = some e → ∀ l, (pinning.port e.source).detector ≠ .locked l) ∧
    (∀ w ∈ [imaged, flat, pinned .hold, pinned .fallback, live .latest .hold true, live .paced .fallback false],
      ((presenting w (showing imaged .cleared ready)).head 0).presentPending = true ∧
      ((presenting w (showing imaged .cleared ready)).head 0).pendingScene[(0 : Position)] = some w ∧
      keepsContinuity (some imaged) (some w) = false) :=
  ⟨⟨rfl, by decide +kernel, by decide +kernel⟩, by decide +kernel, by decide +kernel, by decide, by decide, by decide,
    ⟨by decide +kernel, by decide +kernel, notLocked (by decide +kernel)⟩,
    fun e _ => notLocked (by revert e; decide +kernel), by decide +kernel⟩

/-- Overlays of head 0, RUNNING. -/
def overlaying (c : Cursor) (a : Ancillary) : State := heading (fun hd => { hd with cursor := c, anc := a }) running

theorem test_hyp_BoundaryMovesTheOverlays :
    Draws (overlaying { Cursor.reset with back := .loaded ⟨0, 8, 8, []⟩, pendingPosition := some (-63, 5) }
      { Ancillary.reset with enable := true, queue := [⟨1, 2⟩] }) 0 vga ∧
    (∀ sh, (Cursor.reset).back ≠ .loaded sh) ∧ Cursor.reset.pendingPosition = none ∧
    Ancillary.reset.enable = false ∧ Ancillary.reset.queue = [] :=
  ⟨⟨rfl, by decide +kernel, by decide +kernel⟩, fun _ h => (nomatch h), rfl, rfl, rfl⟩

theorem test_hyp_BoundaryRaisesItsNotices : Draws running 0 vga := ⟨rfl, by decide +kernel, by decide +kernel⟩

/-- Head 0 showing slot 0 and drawing a frame. -/
def drawing (muted : Bool) : State :=
  heading (fun hd => { hd with frame := some { hd.drawn with muted := muted } })
    (showing (live .latest .hold false) ⟨some ⟨0, 0, 1⟩, some 1, 0⟩ (holding [frame 1 1 true] ready))

theorem test_hyp_ShortfallCountsAndShowsBackground :
    (ready.head 0).frame = none ∧ ((drawing true).head 0).frame.any DrawnFrame.muted = true ∧
    ((drawing false).head 0).timing = some vga ∧ 479 < vga.activeLines ∧
    ((drawing false).head 0).frame = some (running.head 0).drawn ∧
    [MissedPixel.mk 0 63].filter ((drawing false).readsPixel 0 (running.head 0).drawn 47) = [⟨0, 63⟩] ∧
    [MissedPixel.mk 0 64].filter ((drawing false).readsPixel 0 (running.head 0).drawn 47) = [] := by decide +kernel

theorem test_hyp_FollowSettingsAndLoss :
    Takes (asked (follower .following 0) 0x35 [0, 0, 64, 255]) (ask 0x35 [0, 0, 64, 255]) [] 0x35 ∧
    (ask 0x35 [0, 0, 64, 255]).payload = [byteOf (0 : HeadId).val, followSourceByte (some 0), 64, 255] ∧
    ((follower .following 0).head 0).follow.source = some 0 ∧ followSourceByte none = 255 ∧
    64 < (65 : Byte).toNat ∧ (4 ≤ (4 : Byte).toNat ∧ (254 : Byte).toNat ≤ 254) ∧
    ((ready.head 0).follow.loss = .clear) ∧
    (losing .overdue).device.phase = .ready ∧ ((losing .overdue).head 0).follow.loss ≠ .clear :=
  ⟨taken _ _ _ rfl rfl, by decide +kernel⟩

theorem test_hyp_HeadSettingsAreStored :
    (∀ t ∈ [smallest, ⟨1920, 1080, 4096, 2048, 165000⟩], t.inRange = true) ∧
    (∀ t ∈ [Timing.mk 318 240 352 248 25000, ⟨1922, 240, 4096, 248, 25000⟩, ⟨321, 240, 353, 248, 25000⟩,
      ⟨320, 239, 352, 248, 25000⟩, ⟨320, 1081, 352, 2048, 25000⟩, ⟨320, 240, 351, 248, 25000⟩,
      ⟨320, 240, 4097, 248, 25000⟩, ⟨320, 240, 352, 247, 25000⟩, ⟨320, 240, 352, 2049, 25000⟩,
      ⟨320, 240, 352, 248, 24999⟩, ⟨320, 240, 352, 248, 165001⟩], t.inRange = false) ∧
    Takes (asked ready 0x33 [0, 1]) (ask 0x33 [0, 1]) [] 0x33 ∧
    Takes (asked ready 0x34 [1, 1, 2, 3, 4, 5, 6]) (ask 0x34 [1, 1, 2, 3, 4, 5, 6]) [] 0x34 ∧
    (running.head 0).state ≠ .off ∧ (ready.head 0).state = .off :=
  ⟨by decide, by decide, taken _ _ _ rfl rfl, taken _ _ _ rfl rfl, by decide +kernel, by decide +kernel⟩

/-- An OFF head 0 with a timing record and an active scene. -/
def standing (w : WindowRecord) : State :=
  heading (fun hd => { hd with timing := some vga, activeScene := scene w }) ready

theorem test_hyp_HeadOnStartsTheHead :
    Takes (asked (standing imaged) 0x31 [0]) (ask 0x31 [0]) [] 0x31 ∧ (ready.head 0).timing = none ∧
    (running.head 0).state ≠ .off ∧ ((standing imaged).head 0).state = .off ∧
    ((standing imaged).head 0).timing = some vga ∧
    (standing imaged).validate (some vga) (scene imaged) = none ∧
    (standing imaged).validate (some vga) (scene { imaged with destination := ⟨600, 0, 64, 48⟩ }) =
      some (0, .outside) :=
  ⟨taken _ _ _ rfl rfl, by decide +kernel⟩

/-- Two windows of head 0 on slot 0, which is HELD for them, and one on slot 1, which is HELD for it and a pin. -/
def releasing : State :=
  heading (fun hd => { hd with selection := ((hd.selection.set 0 ⟨some ⟨0, 0, 1⟩, some 1, 0⟩).set 5
      ⟨some ⟨1, 0, 2⟩, some 2, 0⟩).set 9 ⟨some ⟨0, 0, 1⟩, some 1, 0⟩ })
    (((running.setSlot 0 (.held (frame 1 2 true))).setSlot 1 (.held (frame 2 2 true))).setFreeList (slotIds.drop 2))

theorem test_hyp_HeadOffStopsTheHead :
    Takes (asked releasing 0x32 [0]) (ask 0x32 [0]) [] 0x32 ∧ (releasing.head 0).state ≠ .off ∧
    (ready.head 0).state = .off ∧
    positions.filterMap (fun p => (releasing.selectionAt 0 p).slot) = [0, 1, 0] ∧
    releasing.freedInOrder [0, 1, 0] = [0] ∧
    (after .headOff (asked releasing 0x32 [0])).slot 1 = .held (frame 2 1 true) ∧
    (after .headOff (asked releasing 0x32 [0])).pool.freeList = slotIds.drop 2 ++ [0] :=
  ⟨taken _ _ _ rfl rfl, by decide +kernel⟩

theorem test_hyp_PendingSceneEdits :
    UsesOk (asked (entered (.valid image 0) ready) 0x20 (0 :: 11 :: imaged.bytes)) ∧
    Takes (asked (entered (.valid image 0) ready) 0x20 (0 :: 11 :: imaged.bytes)) (ask 0x20 (0 :: 11 :: imaged.bytes))
      [] 0x20 ∧
    imaged.bytes.length = 35 ∧ readRecord imaged.bytes = some imaged ∧ imaged.names = some 0 ∧
    readRecord (List.replicate 35 0) = none ∧ ((entered (.valid image 0) ready).entry 0).validOf .image = some image ∧
    (ready.entry 0).validOf .image = none ∧ (ready.head 0).presentPending = false ∧
    ((presenting imaged ready).head 0).presentPending = true ∧
    Takes (asked ready 0x21 [0, 11]) (ask 0x21 [0, 11]) [] 0x21 ∧
    Takes (asked ready 0x22 [0, 1]) (ask 0x22 [0, 1]) [] 0x22 :=
  ⟨by decide +kernel, taken _ _ _ rfl rfl, by decide, by decide +kernel, by decide, by decide +kernel,
    by decide +kernel, by decide +kernel, by decide +kernel, by decide +kernel, taken _ _ _ rfl rfl,
    taken _ _ _ rfl rfl⟩

theorem test_hyp_ScenePresentSwapsOrWaits :
    Takes (asked running 0x24 [0]) (ask 0x24 [0]) [] 0x24 ∧ (running.head 0).presentPending = false ∧
    running.validate (some vga) Scene.allAbsent = none ∧ ready.validate none Scene.allAbsent = some (255, .noTiming) ∧
    UsesOk ready ∧ (∀ i, (ready.slot i).refs = ready.holds.count (some i)) ∧
    ((presenting imaged ready).head 0).presentPending = true :=
  ⟨taken _ _ _ rfl rfl, by decide +kernel⟩

/-- Two windows side by side on one layer, and one over both on another. -/
def threeWindows : Scene :=
  ((Scene.allAbsent.set 0 (some imaged)).set 1 (some { imaged with destination := ⟨64, 0, 64, 48⟩ })).set 11
    (some { imaged with layer := 15 })

theorem in_scene : ∀ k : Position, ((scene imaged)[k]).isSome = true → k = 0 := by decide
theorem in_threeWindows : ∀ k : Position, (threeWindows[k]).isSome = true → k = 0 ∨ k = 1 ∨ k = 11 := by decide

theorem test_hyp_ValidScenesFitAndDoNotOverlap :
    (ready.validate (some vga) threeWindows = none ∧
      ready.validate (some vga) (threeWindows.set 11 (some imaged)) = some (11, .overlap)) ∧
    ready.FailsTest vga Scene.allAbsent 0 { flat with destination := ⟨577, 432, 64, 48⟩ } .outside ∧
    ¬ ready.FailsTest vga Scene.allAbsent 0 { flat with destination := ⟨576, 432, 64, 48⟩ } .outside ∧
    ready.FailsTest vga Scene.allAbsent 0
      ⟨.live 0 .latest .hold none (some ⟨0, 0, 257, 48⟩) false, ⟨0, 0, 64, 48⟩, 0, 16, none⟩ .scale ∧
    (RatiosFit 256 6 ⟨0, 0, 64, 48⟩ ∧ RatiosFit 8 192 ⟨0, 0, 64, 48⟩ ∧ ¬ RatiosFit 7 48 ⟨0, 0, 64, 48⟩) ∧
    (entered (.valid image 1) ready).FailsTest vga Scene.allAbsent 0
      { imaged with content := .image 0 (some ⟨1, 0, 16, 16⟩) } .imageBounds ∧
    (entered (.valid image 1) ready).validate (some vga)
      (scene { imaged with content := .image 0 (some ⟨1, 0, 16, 16⟩) }) = some (0, .imageBounds) ∧
    ready.FailsTest vga threeWindows 11 { imaged with destination := ⟨127, 47, 1, 1⟩ } .overlap ∧
    ¬ ready.FailsTest vga (scene imaged) 11 { imaged with destination := ⟨64, 0, 64, 48⟩ } .overlap := by
  refine ⟨by decide +kernel, .inl (by decide), ?_, .inl ⟨_, rfl, by decide⟩, by decide,
    ⟨0, _, image, rfl, by decide +kernel, .inl (by decide)⟩, by decide +kernel,
    ⟨1, _, by decide, rfl, rfl, by decide⟩, ?_⟩
  · rintro (h | h) <;> revert h <;> decide
  · rintro ⟨q, o, hq, ho, -, h, -⟩
    cases in_scene q (by rw [ho]; rfl); cases ho; revert h; decide

/-- A cursor of one shape at (-1, 0). -/
def cursoring : State :=
  heading (fun hd => { hd with cursor := { hd.cursor with x := -1, visible := true, front := some ⟨0, 8, 8, [27]⟩ } })
    (drawing false)

theorem test_hyp_PictureIsComposedFromTheScene :
    ((drawing true).head 0).frame.any DrawnFrame.muted = true ∧
    imaged.destination.has 63 47 = true ∧ imaged.destination.has 64 47 = false ∧
    (running.head 0).cursor.front = none ∧
    HeadOk ((heading (fun hd => { hd with activeScene := threeWindows }) running).head 0) ∧
    ((∀ (p : Position) (w : WindowRecord),
        (p, w) ∈ [((0 : Position), imaged), (11, { imaged with layer := 15 })] ↔
        threeWindows[p] = some w ∧ w.destination.x ≤ 63 ∧ 63 < w.destination.x + w.destination.w ∧
        w.destination.y ≤ 47 ∧ 47 < w.destination.y + w.destination.h) ∧
      [((0 : Position), imaged), (11, { imaged with layer := 15 })].Pairwise fun a b => a.2.layer < b.2.layer) ∧
    ((cursoring.head 0).cursor.front = some ⟨0, 8, 8, [27]⟩ ∧ (cursoring.head 0).cursor.x = -1 ∧
      (cursoring.head 0).drawn.muted = false ∧ (cursoring.head 0).drawn.cursorVisible = true) ∧
    (((6 : Nat) : Int) = -1 + ((7 : Nat) : Int) ∧ 7 < 8) ∧
    (∀ sx : Nat, ((7 : Nat) : Int) = -1 + (sx : Int) → ¬ sx < 8) := by
  refine ⟨by decide +kernel, by decide, by decide, by decide +kernel, by decide +kernel,
    ⟨fun p w => ⟨?_, ?_⟩, by decide⟩, by decide +kernel, by decide, by omega⟩
  · simp only [List.mem_cons, List.not_mem_nil, or_false, Prod.mk.injEq]
    rintro (⟨rfl, rfl⟩ | ⟨rfl, rfl⟩) <;> decide
  · rintro ⟨h, hx⟩
    rcases in_threeWindows p (by rw [h]; rfl) with rfl | rfl | rfl <;> cases h <;> revert hx <;> decide

/-- Windows with a border of two pixels on the left, over image 1, and over slot 0. -/
def bordered : WindowRecord := { flat with border := some ⟨true, false, false, false, 2, ⟨9, 9, 9⟩⟩ }

theorem test_hyp_WindowsDrawTheirContent :
    (∀ b, bordered.border = some b → b.Takes bordered.destination 1 47) ∧
    (∀ b, bordered.border = some b → ¬ b.Takes bordered.destination 2 0) ∧
    (Border.mk false true true true 2 ⟨9, 9, 9⟩).Takes ⟨0, 0, 64, 48⟩ 62 20 ∧
    ¬ (Border.mk false true true true 2 ⟨9, 9, 9⟩).Takes ⟨0, 0, 64, 48⟩ 61 45 ∧
    bordered.content = .fill ⟨1, 2, 3⟩ ∧
    (running.head 0).drawn.missed = [] ∧
    (imaged.content = .image 0 none ∧ ((entered (.valid image 1) running).entry 0).info? = some image) ∧
    ((drawing false).selectionAt 0 0).current = some ⟨0, 0, 1⟩ ∧
    ((drawing false).slot 0).frame? = some (frame 1 1 true) ∧
    RatiosFit 64 48 (live .latest .hold false).destination ∧
    ¬ RatiosFit 64 48 { (live .latest .hold false).destination with w := 15 } ∧
    min (40 + 25) (frame 1 1 true).geometry.width - 40 = 24 ∧ min (64 + 2) 64 - 64 = 0 ∧
    (running.selectionAt 0 0).current = none := by
  refine ⟨?_, ?_, by unfold Border.Takes; decide, by unfold Border.Takes; decide, rfl, by decide +kernel,
    by decide +kernel, by decide +kernel, by decide +kernel, by decide, by decide, by decide, by decide,
    by decide +kernel⟩ <;> rintro b ⟨⟩ <;> unfold Border.Takes <;> decide

/-- Head 0 in its first frame, with a pair in the inserter. -/
def firstFrame : State := after (.frameBoundary 0 5)
  (overlaying Cursor.reset { Ancillary.reset with enable := true, line := 8, queue := [⟨0x48, 0x69⟩] })

theorem test_hyp_SignalFollowsTheFrameFigure :
    HeadOk (firstFrame.head 0) ∧ (firstFrame.head 0).timing = some vga ∧ (firstFrame.head 0).frameLines = some 525 ∧
    (firstFrame.head 0).frame = some (running.head 0).drawn ∧
    (firstFrame.head 0).anc.contents = some (8, ⟨0x48, 0x69⟩) ∧
    (639 < vga.totalWidth ∧ 799 < vga.totalWidth ∧ 45 = 525 - vga.activeLines ∧ 46 = (525 - vga.activeLines) + 1 + 0) ∧
    (0 = 19 / (vga.activeWidth / 32) ∧ 1 = 20 / (vga.activeWidth / 32) ∧ 31 = 639 / (vga.activeWidth / 32) ∧
      32 = 321 / (322 / 32)) ∧
    ((ancCells ⟨0x48, 0x69⟩)[0]? = some true ∧ (ancCells ⟨0x48, 0x69⟩)[1]? = some false) ∧
    ((firstFrame.headSignal 0 8 19).pixel = ⟨180, 128, 128⟩ ∧ (firstFrame.headSignal 0 8 20).pixel = ⟨16, 128, 128⟩ ∧
      (firstFrame.headSignal 0 3 655).hsync = true ∧ (firstFrame.headSignal 0 3 655).vsync = true ∧
      (firstFrame.headSignal 0 4 656).hsync = false) ∧
    HeadOk (ready.head 0) ∧ (ready.head 0).state = .off := by
  refine ⟨?_, ?_, ?_, ?_, ?_, ?_, ?_, ?_, ?_, ?_, ?_⟩ <;> decide +kernel

/-- A record with every field at an edge of its range. -/
def fullest : WindowRecord :=
  ⟨.live 3 .paced .fallback (some (.image 63)) (some ⟨1279, 719, 1, 1⟩) true, ⟨1919, 1079, 1920, 1080⟩, 15, 1,
    some ⟨false, false, false, true, 8, ⟨255, 0, 255⟩⟩⟩

theorem test_hyp_WindowRecordsReadBack :
    (fullest.inRange = true ∧ readRecord fullest.bytes = some fullest ∧ fullest.bytes.length = 35) ∧
    (∀ w ∈ [live .latest .hold false, pinned .fallback, imaged, flat, bordered], w.inRange = true) ∧
    (∀ w ∈ [{ flat with layer := 16 }, { flat with opacity := 0 }, { flat with opacity := 17 },
      { flat with destination := ⟨1920, 0, 64, 48⟩ }, { flat with destination := ⟨0, 0, 7, 48⟩ },
      { flat with border := some ⟨false, false, false, false, 2, ⟨9, 9, 9⟩⟩ },
      { flat with border := some ⟨true, false, false, false, 9, ⟨9, 9, 9⟩⟩ },
      { imaged with content := .image 0 (some ⟨1279, 0, 2, 1⟩) }], w.inRange = false) ∧
    ({ imaged with content := .image 0 (some ⟨1, 0, 16, 16⟩) } : WindowRecord).Crops ⟨1, 0, 16, 16⟩ ∧
    readRecord (flat.bytes.set 14 1) = none ∧ readRecord (imaged.bytes.set 5 1) = none :=
  ⟨by decide +kernel, by decide +kernel, by decide +kernel, .inr (.inr ⟨_, rfl⟩), by decide +kernel⟩

theorem test_hyp_LibOpenPlacesByFirstFit :
    (Takes (asked ready 0x40 [1, 1, 8, 0, 8, 0, 5, 0, 0, 0]) (ask 0x40 [1, 1, 8, 0, 8, 0, 5, 0, 0, 0]) [] 0x40 ∧
      (ask 0x40 [1, 1, 8, 0, 8, 0, 5, 0, 0, 0]).payload = libIdByte 0 :: EntryKind.sprite.byte ::
        (leBytes 2 8 ++ leBytes 2 8 ++ leBytes 4 (5 : BitVec 32).toNat) ∧
      ready.entry 0 = .empty ∧ ready.library.uploads < 2 ∧ ready.library.firstFit 1 = some 0) ∧
    (∀ x ∈ [(EntryKind.image, 16, 16), (.image, 1280, 720), (.sprite, 8, 8), (.sprite, 64, 64)],
      sizeInRange x.1 x.2.1 x.2.2 = true) ∧
    (∀ x ∈ [(EntryKind.image, 14, 16), (.image, 17, 16), (.image, 1282, 720), (.image, 16, 721), (.sprite, 10, 8),
      (.sprite, 4, 8), (.sprite, 68, 64), (.sprite, 8, 65)], sizeInRange x.1 x.2.1 x.2.2 = false) ∧
    (entered (.verifying image) ready).entry 0 ≠ .empty ∧
    (∀ s ∈ [ready, entered (.valid image 0) ready,
        entered (.receiving image 0) ((ready.setEntry 63 (.verifying { image with firstBlock := 5583 })).setVerifyQueue [63])],
      LibraryOk s) ∧
    2 ≤ (entered (.receiving image 0) (ready.setEntry 1 (.verifying { image with firstBlock := 4 }))).library.uploads :=
  ⟨⟨taken _ _ _ rfl rfl, by decide +kernel⟩, by decide, by decide, by decide +kernel, by decide +kernel,
    by decide +kernel⟩

theorem test_hyp_LibDataStoresTheStream :
    Takes (asked (entered (.receiving sprite 0) ready) 0x41 [1, 0, 0, 0, 0, 9]) (ask 0x41 [1, 0, 0, 0, 0, 9]) [] 0x41 ∧
    (ask 0x41 [1, 0, 0, 0, 0, 9]).payload = libIdByte 0 :: (leBytes 4 0 ++ [9]) ∧
    (entered (.receiving sprite 0) ready).entry 0 = .receiving sprite 0 ∧ sprite.legal = true ∧
    sprite.byteTotal = 16 ∧ (∀ e n, ready.entry 0 ≠ .receiving e n) :=
  ⟨taken _ _ _ rfl rfl, by decide +kernel, by decide +kernel, by decide, by decide,
    notReceiving (by decide +kernel)⟩

theorem test_hyp_UploadsEndAsTheyShould :
    (Takes (asked (entered (.receiving sprite 16) ready) 0x42 [1]) (ask 0x42 [1]) [] 0x42 ∧
      (entered (.receiving sprite 16) ready).entry 0 = .receiving sprite 16 ∧ sprite.byteTotal ≤ 16 ∧
      15 < sprite.byteTotal) ∧
    (ready.library.verifyQueue = [] ∧
      ((entered (.verifying sprite) ready).setVerifyQueue [0]).library.verifyQueue = [0] ∧
      (entered (.verifying sprite) ready).entry 0 = .verifying sprite) ∧
    (∀ e n, ready.entry 0 ≠ .receiving e n) ∧ Takes (asked ready 0x43 [1]) (ask 0x43 [1]) [] 0x43 ∧
    (entered (.valid sprite 1) ready).entry 0 = .valid sprite 1 :=
  ⟨⟨taken _ _ _ rfl rfl, by decide +kernel⟩, by decide +kernel, notReceiving (by decide +kernel),
    taken _ _ _ rfl rfl, by decide +kernel⟩

theorem test_hyp_CursorShapeIsPlacedByTheJob :
    Takes (asked (entered (.valid sprite 0) ready) 0x50 [0, 1]) (ask 0x50 [0, 1]) [] 0x50 ∧
    (ready.entry 0).validOf .sprite = none ∧ ((entered (.valid sprite 0) ready).entry 0).validOf .sprite ≠ none ∧
    ready.loader = ⟨[], none⟩ ∧ ({ ready with loader := ⟨[(0, 5)], some (1, 0)⟩ } : State).loader.job ≠ none ∧
    ((0 : HeadId), (5 : LibId)) ∈ ({ ready with loader := ⟨[(0, 5)], some (1, 0)⟩ } : State).loader.queue :=
  ⟨taken _ _ _ rfl rfl, by decide +kernel⟩

theorem test_hyp_ShapeLoaderServesTheQueue :
    (∀ e ∈ [Entry.valid sprite 0, .empty], UsesOk { entered e ready with loader := ⟨[(0, 0)], none⟩ } ∧
      (entered e ready).entry 0 = e) ∧
    (Entry.valid sprite 0).validOf .sprite = some sprite ∧ Entry.empty.validOf .sprite = none ∧
    ready.loader.queue = [] ∧ ready.loader.job = none ∧
    (entered (.valid sprite 1) ready).entry 0 = .valid sprite 1 := by decide +kernel

theorem test_hyp_CursorSettingsAreStored :
    Takes (asked running 0x51 [0, 0xC1, 0xFF, 0xC1, 0xFF]) (ask 0x51 [0, 0xC1, 0xFF, 0xC1, 0xFF]) [] 0x51 ∧
    (ask 0x51 [0, 0xC1, 0xFF, 0xC1, 0xFF]).payload =
      byteOf (0 : HeadId).val :: (leBytes 2 (0xFFC1 : BitVec 16).toNat ++ leBytes 2 (0xFFC1 : BitVec 16).toNat) ∧
    (0xFFC1 : BitVec 16).toInt = -63 ∧ (639 : BitVec 16).toInt = 640 - 1 ∧
    ¬ (640 : BitVec 16).toInt ≤ 640 - 1 ∧ ¬ -63 ≤ (0xFFC0 : BitVec 16).toInt ∧ (running.head 0).timing = some vga ∧
    (ready.head 0).timing = none ∧ Takes (asked ready 0x52 [0, 2]) (ask 0x52 [0, 2]) [] 0x52 ∧
    Takes (asked ready 0x53 [0, 1, 2, 3, 4, 5, 6]) (ask 0x53 [0, 1, 2, 3, 4, 5, 6]) [] 0x53 :=
  ⟨taken _ _ _ rfl rfl, by decide, by decide, by decide, by decide, by decide, by decide +kernel, by decide +kernel,
    taken _ _ _ rfl rfl, taken _ _ _ rfl rfl⟩

theorem test_hyp_InserterRequestsActOnTheQueue :
    Takes (asked ready 0x58 [0, 1, 8, 127, 127, 31]) (ask 0x58 [0, 1, 8, 127, 127, 31]) [] 0x58 ∧
    Takes (asked ready 0x59 [0, 0x48, 0x69]) (ask 0x59 [0, 0x48, 0x69]) [] 0x59 ∧
    (ask 0x59 [0, 0x48, 0x69]).payload = byteOf (0 : HeadId).val :: ([CharPair.mk 0x48 0x69].map CharPair.bytes).flatten ∧
    (∃ b ∈ [(0x48 : Byte), 0x80], 127 < b.toNat) ∧ Takes (asked ready 0x5A [1]) (ask 0x5A [1]) [] 0x5A ∧
    32 < (List.replicate 32 (CharPair.mk 0 0)).length + [CharPair.mk 0 0].length :=
  ⟨taken _ _ _ rfl rfl, taken _ _ _ rfl rfl, by decide, by decide, taken _ _ _ rfl rfl, by decide⟩

/-- The receiver one byte short of a frame, and that byte. -/
def nearly (kind tag code status : Byte) (payload : List Byte) (s : State) : State :=
  s.setReceiver (.inFrame (frameTail kind tag code status payload).dropLast)
def last (kind tag code status : Byte) (payload : List Byte) : Byte :=
  (frameTail kind tag code status payload).getLast?.getD 0

theorem test_hyp_FramesReadBack : (List.replicate 256 (0 : Byte)).length ≤ 256 := by decide +kernel

/-- An ECHO request frame, as the receiver takes it. -/
def echoFrame : Frame := ⟨1, 7, 0x05, 0, [9], crc16 (frameBody 1 7 0x05 0 [9])⟩

theorem test_hyp_AdmissionChecksInOrder :
    Completes (nearly 1 7 0x05 0 [9] ready) (last 1 7 0x05 0 [9]) echoFrame ∧ echoFrame.kind = 0x01 ∧
    Completes (nearly 1 7 0x05 0 [9] State.reset) (last 1 7 0x05 0 [9]) echoFrame ∧
    Completes (nearly 1 7 0x05 1 [9] ready) (last 1 7 0x05 1 [9])
      ⟨1, 7, 0x05, 1, [9], crc16 (frameBody 1 7 0x05 1 [9])⟩ ∧
    7 ∈ (asked ready 0x05 [9]).link.outstanding ∧ 7 ∉ ready.link.outstanding ∧
    4 ≤ (ready.modLink fun l => { l with
      requestQueue := [⟨1, 5, [], 0⟩, ⟨2, 5, [], 0⟩, ⟨3, 5, [], 0⟩, ⟨4, 5, [], 0⟩] }).link.outstanding.length :=
  ⟨⟨by decide, by decide +kernel⟩, rfl, ⟨by decide, by decide +kernel⟩, ⟨by decide, by decide +kernel⟩,
    by decide +kernel, by decide +kernel, by decide +kernel⟩

/-- Three notices: SENT, SENT and NEW. -/
def noticing : State :=
  { ready with notices :=
    ⟨[⟨5, .ready .ready .pin, 0, .sent, true⟩, ⟨6, .ancLow 0 4 1, 0, .sent, false⟩, ⟨7, .ancLow 1 4 1, 2, .new, false⟩],
      8, 0, true⟩ }

theorem test_hyp_AcknowledgementsRetireNotices :
    Completes (nearly 2 0 0 0 [6, 0] noticing) (last 2 0 0 0 [6, 0]) ⟨2, 0, 0, 0, [6, 0], crc16 (frameBody 2 0 0 0 [6, 0])⟩ ∧
    ([6, 0] : List Byte) = leBytes 2 6 ∧
    (noticing.notices.entries[1]?.map fun e => (e.sequence, e.stage)) = some (BitVec.ofNat 16 6, .sent) ∧
    Completes (nearly 2 0 0 0 [7, 0] noticing) (last 2 0 0 0 [7, 0]) ⟨2, 0, 0, 0, [7, 0], crc16 (frameBody 2 0 0 0 [7, 0])⟩ ∧
    (∀ x ∈ noticing.notices.entries, x.stage = .sent → x.sequence ≠ BitVec.ofNat 16 (u16At [7, 0] 0)) ∧
    Completes (nearly 3 0 0 0 [] ready) (last 3 0 0 0 []) ⟨3, 0, 0, 0, [], crc16 (frameBody 3 0 0 0 [])⟩ :=
  ⟨⟨by decide, by decide +kernel⟩, by decide, by decide, ⟨by decide, by decide +kernel⟩, by decide,
    ⟨by decide, by decide +kernel⟩⟩

theorem test_hyp_ReceiverTakesBytesAndReceivesAgain :
    ready.device.phase ≠ .held ∧ ready.link.receiver = .hunt ∧
    (ready.setReceiver (.inFrame [3])).link.receiver = .inFrame [3] ∧
    parseFrame [3] = .inLength ∧ parseFrame [4, 0] = .inBody ∧ parseFrame [4, 0, 1, 2, 3, 0] = .inCheck ∧
    byteEvent (.inFrame [3]) 0 = .lengthError [3, 0] ∧ byteEvent (.inFrame [5]) 1 = .lengthError [5, 1] ∧
    byteEvent (.inFrame [4, 0, 1, 2, 3, 0, 0]) 0 = .crcError [4, 0, 1, 2, 3, 0, 0, 0] ∧
    OnlyChanges [.link] ready (ready.setReceiver .hunt) := by
  refine ⟨by decide, rfl, rfl, by decide, by decide, by decide, by decide, by decide, by decide +kernel, ?_⟩
  intro p hp
  cases p <;> rfl

theorem noticesOk_noticing : NoticesOk noticing := by decide +kernel

theorem test_hyp_TransmitterChoosesItsFrame :
    NoticesOk noticing ∧ noticing.device.phase ≠ .held ∧ noticing.link.transmitter = none ∧
    noticing.link.replyLine = [] ∧
    (noticing.notices.entries[0]?.map fun e => (e.stage, e.resendDue)) = some (.sent, true) ∧
    NoticesOk ready ∧ resetting.link.transmitter ≠ none ∧
    (after .reset (asked ready 0x01 [])).link.replyLine = ⟨.reset, 7, 1, ⟨.ok, []⟩⟩ :: [] ∧
    NoticesOk (after .reset (asked ready 0x01 [])) :=
  ⟨noticesOk_noticing, by decide, by decide, by decide, by decide, by decide +kernel, by decide +kernel,
    by decide +kernel, by decide +kernel⟩

/-- The copy of notice 5 on the line. -/
def copying : State := after .transmitBegin noticing

theorem test_hyp_FramesEndAndNoticesAreResent :
    (after .transmitBegin (after .echo (asked ready 0x05 []))).link.transmitter =
      some ⟨.reply ⟨.posted 0x1234, 7, 5, .ok []⟩, frameBytes 0x81 7 5 0 []⟩ ∧
    NoticesOk copying ∧ (copying.link.transmitter.map Sending.owner) = some (.notice 5) ∧
    (copying.notices.entries[0]?.map fun e => (e.sequence, e.stage)) = some (5, .sent) ∧
    copying.notices.resendTimer = true ∧ ready.notices.resendTimer = false ∧ ready.link.transmitter = none :=
  ⟨by decide +kernel, by decide +kernel, by decide +kernel, by decide +kernel, by decide +kernel, rfl, rfl⟩

theorem test_hyp_NoticesCoalesce :
    (Notice.ancLow 1 3 2).coalescable = true ∧
    (noticing.notices.entries = noticing.notices.entries.take 2 ++ ⟨7, .ancLow 1 4 1, 2, .new, false⟩ :: []) ∧
    (Notice.ancLow 1 4 1).code = (Notice.ancLow 1 3 2).code ∧
    (Notice.ancLow 1 4 1).object = (Notice.ancLow 1 3 2).object := by decide

/-- A full queue with 255 lost. -/
def fullQueue : NoticeQueue := ⟨List.replicate 16 ⟨0, .shapeFailed 0 0, 0, .new, false⟩, 16, 255, false⟩

theorem test_hyp_NoticesAppendOrAreLost :
    (Notice.shapeFailed 0 0).coalescable = false ∧ NoticeQueue.reset.entries.length < 16 ∧
    fullQueue.entries.length = 16 ∧ fullQueue.lost ≤ 255 ∧
    (∀ x ∈ fullQueue.entries, ¬(x.stage = .new ∧ x.notice.code = (Notice.ancLow 0 4 1).code ∧
      x.notice.object = (Notice.ancLow 0 4 1).object)) := by decide

/-- A pin and a window on one HELD frame, and a fill behind a ready list. -/
def counting : State :=
  ((showing (pinned .hold) ⟨some ⟨2, 0, 1⟩, some 1, 0⟩
    ((lockedProg (.filling .progressive 5 4) (holding [frame 2 0 false, frame 3 0 false] ready)).modPort 0 fun q =>
      { q with frameNumber := 4 })).setSlot 5 (.filling 0 ⟨64, 48, false⟩)).setSlot 2 (.held (frame 1 2 true))
  |>.setPin 0 (some ⟨2, 0, 1⟩) |>.setFreeList (slotIds.filter fun i => decide (i ∉ [0, 1, 2, 5]))

theorem test_hyp_StepsKeepReferencesCounted :
    PoolOk counting ∧ ReferencesOk counting ∧ NumbersOk counting ∧ NumbersRemain counting ∧ HeadsOk counting :=
  ⟨by decide +kernel, ⟨by decide +kernel, heldCounted (by decide +kernel), by decide +kernel⟩, by decide +kernel,
    by decide +kernel, by decide +kernel⟩

/-- The invariants hold in the ready state or another that is not the reset state, and it answers a next state. -/
theorem test_hyp_invariants_store : MemoryOk ready ∧ PoolOk ready ∧ PortsOk (lockedProg .armed ready) ∧ UsesOk ready := by
  decide +kernel
theorem test_hyp_invariants_queues : NoticesOk ready ∧ LinkOk ready ∧ LibraryOk ready ∧ LoaderOk ready := by
  refine ⟨?_, ?_, ?_, ?_⟩ <;> decide +kernel
theorem test_hyp_invariants_heads : HeadsOk firstFrame ∧ FollowOk (relocked .clear) ∧ FollowOk (losing (.due 5)) := by
  refine ⟨?_, ?_, ?_⟩ <;> decide +kernel
theorem test_hyp_invariants_blocks : BlocksOk faulted ∧ ∃ t, step { ready with pending := [.jobStart] } = .next t :=
  ⟨by decide +kernel, _, rfl⟩

/-! ### One step of the commands -/

theorem test_info : answerTo .info 0x02 [] ready = some (.ok [0x22, 0x04, Config.revision, 0, 0, 0, 0, 0, 0, 4, 2, 24, 8,
    12, 64, 0xD0, 0x15, 16, 8]) := rfl
theorem test_stats_of_unknown_object : answerTo .statsRead 0x03 [4] ready = some (.refuse .badValue) := by
  decide +kernel
theorem test_echo : answerTo .echo 0x05 [1, 2] faulted = some (.ok [1, 2]) := by decide +kernel
theorem test_unknown_command : answerTo .unknownCommand 0x77 [] ready = some (.refuse .unknownCommand) := by
  decide +kernel
theorem test_capture_bad_mode : answerTo .captureOn 0x10 [0, 2] ready = some (.refuse .badValue) := by decide +kernel
theorem test_port_status_length : (answerTo .portStatus 0x14 [0] ready).map (fun r => r.payload.length) = some 79 := by
  decide +kernel
theorem test_store_status_length : (answerTo .storeStatus 0x1A [2] ready).map (fun r => r.payload.length) = some 122 := by
  decide +kernel
theorem test_pin_take : answerTo .pinTake 0x18 [2, 0] (holding [frame 1 0 false, frame 2 0 false] ready) =
    some (.ok [2, 1, 0, 2, 0, 0, 0, 0, 0, 0, 0]) := by decide +kernel
theorem test_head_on_without_timing : answerTo .headOn 0x31 [0] ready = some (.refuse .wrongState) := by decide +kernel
theorem test_scene_present_outside :
    answerTo .scenePresent 0x24 [0] (heading (fun hd => { hd with
      timing := some vga, pendingScene := scene { imaged with destination := ⟨577, 0, 64, 48⟩ } }) ready) =
      some ⟨.invalidScene, [0, 2]⟩ := by decide +kernel
theorem test_lib_open_first_block : answerTo .libOpen 0x40 [2, 1, 8, 0, 8, 0, 5, 0, 0, 0]
    (entered (.valid { sprite with firstBlock := 0 } 0) ready) = some (.ok [1, 0, 1, 0]) := by decide +kernel
theorem test_lib_data_out_of_order : answerTo .libData 0x41 [1, 3, 0, 0, 0, 9] (entered (.receiving sprite 2) ready) =
    some ⟨.outOfOrder, [2, 0, 0, 0]⟩ := by decide +kernel
theorem test_lib_space : answerTo .libSpace 0x45 [] (entered (.valid { sprite with firstBlock := 0 } 0) ready) =
    some (.ok [0xCF, 0x15, 0xCF, 0x15, 1, 0]) := by decide +kernel
theorem test_cursor_shape_length :
    (answerTo .cursorShape 0x50 [0, 1] (entered (.valid sprite 0) ready)).map (fun r => r.payload.length) = some 24 := by
  decide +kernel
theorem test_anc_push : answerTo .ancPush 0x59 [0, 0x48, 0x69] ready =
    some (.ok [0, 1, 0, 0, 4, 1, 31, 0x48, 0x69, 0, 0, 0, 0, 0, 0, 0, 0]) := by decide +kernel
theorem test_three_matches_lock :
    ((after (.start 0 .first (some 64) 48 1020000000) (porting (.acquiring (some prog) 2 0) [.first] .off ready)).port
      0).detector = .locked prog := by decide +kernel
theorem test_second_field_goes_to_odd_lines :
    fillAddress 1 64 .second 0 = BitVec.ofNat 26 (1843200 + 128) ∧ fillAddress 1 64 .first 128 = 1843200 + 256 := by
  decide
theorem test_latest_takes_the_newest :
    ((after (.frameBoundary 0 5) (showing (live .latest .hold false) .cleared
      (holding [frame 1 0 false, frame 2 0 false] ready))).selectionAt 0 0).slot = some 1 := by decide +kernel
theorem test_paced_takes_the_oldest :
    ((after (.frameBoundary 0 5) (showing (live .paced .hold false) .cleared
      (holding [frame 1 0 false, frame 2 0 false] ready))).selectionAt 0 0).slot = some 0 := by decide +kernel
/-- R65: the boundary comes first. It computes its error from the source's latest frame start, and the loss then sets
FREE_RUN. -/
theorem test_boundary_before_the_loss :
    let lost := after (.lossTimerExpiry 0) (follower .following 0)
    let drawn := after (.frameBoundary 0 1016768000) lost
    (lost.head 0).follow.loss = .due 1000000000 ∧
    ((drawn.head 0).follow.phaseError, (drawn.head 0).follow.state, (drawn.head 0).frameLines) =
      (some 1, .following, some 526) ∧
    ((after (.followLoss 0) drawn).head 0).follow.state = .freeRun := by decide +kernel
/-- R65, R66: the source has locked again before the boundary. The head enters PULLING, reported by one notice. -/
theorem test_relock_enters_pulling :
    let drawn := after (.frameBoundary 0 1016768000) (relocked (.due 5))
    ((drawn.head 0).follow.state, (drawn.head 0).follow.runCount, (drawn.head 0).follow.loss) = (.pulling, 1, .clear) ∧
    drawn.notices.entries.map NoticeEntry.notice = [.followState 0 .pulling (some 0) 1] := by decide +kernel
theorem test_shortfall_counts :
    ((after (.fetchShortfall 0 47 [⟨0, 63⟩, ⟨0, 64⟩]) (drawing false)).head 0).shortfalls = 1 := by decide +kernel
theorem test_request_is_admitted :
    (after (.request (last 1 7 0x05 0 [9])) (nearly 1 7 0x05 0 [9] ready)).link.requestQueue =
      [⟨7, 0x05, [9], crc16 (frameBody 1 7 0x05 0 [9])⟩] := by decide +kernel
/-- R155: the bytes behind a false start byte are received again, and a start byte among them begins a frame. -/
theorem test_frame_behind_a_false_start :
    (after (.lengthError 8) (ready.setReceiver (.inFrame [0xA5]))).link.receiver = .inFrame [8] ∧
    (after (.lengthError 8) (ready.setReceiver (.inFrame [0xA5]))).link.counters.lengthErrors = 1 := by decide +kernel
theorem test_acknowledgement_retires :
    (after (.noticeAck (last 2 0 0 0 [6, 0])) (nearly 2 0 0 0 [6, 0] noticing)).notices.entries.map
      NoticeEntry.sequence = [7] := by decide +kernel
theorem test_due_notice_goes_first : (copying.link.transmitter.map fun x => x.bytes.take 10) =
    some [0xA5, 8, 0, 0x83, 0, 0x01, 0, 5, 0, 0] := by decide +kernel
theorem test_expiry_makes_due : (after .resendTimerExpiry noticing).notices.entries.map NoticeEntry.resendDue =
    [true, true, false] := by decide +kernel

end Sys2Proof.Tests
end

section
/-! The proofs about the notice queue when a notice is raised (R168). -/
namespace Sys2Proof.Machine

/-! ### Merging (R167) -/

/-- The model's test for merging is the condition of R167. -/
theorem NoticeEntry.mergesWith_iff {n : Notice} {e : NoticeEntry} :
    e.mergesWith n = true ↔
      e.stage = .new ∧ e.notice.code = n.code ∧ e.notice.object = n.object := by
  simp [NoticeEntry.mergesWith, and_assoc]

/-- A notice is not coalesced when its kind never is, or when no NEW entry has its kind and object. -/
theorem NoticeQueue.not_coalesced {n : Notice} {q : NoticeQueue}
    (h : n.coalescable = false ∨ ∀ x ∈ q.entries,
      ¬(x.stage = .new ∧ x.notice.code = n.code ∧ x.notice.object = n.object)) :
    (n.coalescable && q.entries.any (NoticeEntry.mergesWith n)) = false := by
  rcases h with hkind | hnone
  · rw [hkind, Bool.false_and]
  · have hany : q.entries.any (NoticeEntry.mergesWith n) = false :=
      List.any_eq_false.mpr fun x hx hmerge => hnone x hx (NoticeEntry.mergesWith_iff.mp hmerge)
    rw [hany, Bool.and_false]

/-! ### Loss (R168) -/

/-- The model's step of the lost count, for every value the count can have, is the capped successor. -/
theorem lost_count_succ_capped {k : Nat} (h : k ≤ 255) :
    (if k < 255 then k + 1 else 255) = min 255 (k + 1) := by
  split <;> omega

/-- A notice that does not merge is counted lost when the queue is full; see `NoticeQueue.raise_appends` for a
queue with room. -/
theorem NoticeQueue.raise_loses {n : Notice} {q : NoticeQueue}
    (hm : (n.coalescable && q.entries.any (NoticeEntry.mergesWith n)) = false)
    (hfull : q.entries.length = Config.maxNotices) (hlost : q.lost ≤ 255) :
    q.raise n = { q with lost := min 255 (q.lost + 1) } := by
  have hroom : ¬ q.entries.length < Config.maxNotices := by omega
  simp [NoticeQueue.raise, hm, NoticeQueue.append, hroom, lost_count_succ_capped hlost]

/-- Settles O53: the notice does not merge, so the queue's length alone decides between the append and the loss. -/
theorem noticesAppendOrAreLost : Obligations.NoticesAppendOrAreLost := by
  refine ⟨by decide, fun n q hn => ?_⟩
  have hm := NoticeQueue.not_coalesced hn
  exact ⟨NoticeQueue.raise_appends hm, NoticeQueue.raise_loses hm⟩

end Sys2Proof.Machine
end

section
/-! The proofs about INFO (R179). -/
namespace Sys2Proof.Machine

/-! ### A request served in the ready state and in FAULTED (R178) -/

/-- `performs_of_body` for the requests that FAULTED serves as well. -/
theorem performs_of_served_body {c : Instr} {s u : State} {r : Request} {rest : List Request} {rep : Reply}
    {parts : List Part} {after : State → Prop} {code : Byte} {rule : LengthRule} {body : Body}
    (he : exec c s = s.runRequest code body) (ht : TakesServed s r rest code)
    (hf : servedInFaulted code = true) (hr : commandRule code = some rule)
    (hl : rule.allows r.payload.length = true) (hb : body r.payload (s.withRequests rest) = (rep, u))
    (hu : u.link = (s.withRequests rest).link) (ho : OnlyChanges parts (s.withRequests rest) u)
    (ha : after (u.post r rep)) : Performs c s r rest rep parts after := by
  refine performs_of_exec ?_ ht.runs hu ho ha
  rw [he, State.runRequest_served ht (.inr hf) hr hl, hb]

/-! ### The INFO reply (R179) -/

/-- The code of the line rate is the only byte that agrees with the table of R179 for each of the three rates. -/
theorem LineRate.byte_unique {l : LineRate} {b : Byte} (h₀ : l = .rate115200 → b = 0)
    (h₁ : l = .rate460800 → b = 1) (h₂ : l = .rate921600 → b = 2) : l.byte = b := by
  cases l with
  | rate115200 => exact (h₀ rfl).symm
  | rate460800 => exact (h₁ rfl).symm
  | rate921600 => exact (h₂ rfl).symm

theorem infoReply_of_ready {s : State} (h : s.device.phase = .ready) :
    infoReply s = [0x22, 0x04, Config.revision, 0, s.link.rate.byte, 0, 0, 0, 0, 4, 2, 24, 8, 12, 64, 0xD0, 0x15,
      16, 8] := by
  have hstate : s.isFaulted = false := by simp [State.isFaulted, h]
  rw [infoReply, hstate, h]
  rfl

theorem infoReply_of_faulted {s : State} {a : Nat} (h : s.device.phase = .faulted a) :
    infoReply s = [0x22, 0x04, Config.revision, 1, s.link.rate.byte] ++ leBytes 4 a ++
      [4, 2, 24, 8, 12, 64, 0xD0, 0x15, 16, 8] := by
  have hstate : s.isFaulted = true := by simp [State.isFaulted, h]
  rw [infoReply, hstate, h]
  rfl

/-- INFO answers with the reply of the state in which it is taken, and changes nothing but the link. -/
theorem info_performs {s : State} {r : Request} {rest : List Request} (ht : TakesServed s r rest 0x02)
    (hp : r.payload = []) : Performs .info s r rest (.ok (infoReply s)) [] fun _ => True := by
  have hlength : (LengthRule.exactly 0).allows r.payload.length = true := by rw [hp]; rfl
  have hbody : infoBody r.payload (s.withRequests rest) = (.ok (infoReply s), s.withRequests rest) := rfl
  exact performs_of_served_body rfl ht rfl rfl hlength hbody rfl (OnlyChanges.refl _ _) trivial

/-- Settles O6: the reply of INFO depends only on the phase and the line rate, which taking the request keeps. -/
theorem infoReturnsTheIdentity : Obligations.InfoReturnsTheIdentity := by
  intro s r rest ht hp rate h₀ h₁ h₂
  have hrate : s.link.rate.byte = rate := LineRate.byte_unique h₀ h₁ h₂
  have hperforms := info_performs ht hp
  refine ⟨fun hready => ?_, fun a hfaulted => ?_⟩
  · rwa [infoReply_of_ready hready, hrate] at hperforms
  · rwa [infoReply_of_faulted hfaulted, hrate] at hperforms

end Sys2Proof.Machine
end

section
/-! What one command can do to the blocks of the part: every command answers a next state, and what happens to the
blocks is one of the operations that `BlockChange` lists. -/
namespace Sys2Proof.Machine

/-! ### The changes of the blocks -/

/-- One operation on the blocks, by an event or by an accepted request, with the guards under which it is made. -/
inductive BlockChange (s : State) : State → Prop
  | start (p : PortId) (l : FieldLevel) (w : Option Nat) (n : Nat) (time : Time) :
      BlockChange s (s.takeStart p l w n time)
  | fillEnd (p : PortId) (px : List Byte) : BlockChange s (s.takeFillEnd p px)
  | loseSignal (p : PortId) (h : (s.port p).lossTimerRunning = true) : BlockChange s (s.loseSignal p)
  | boundary (h : HeadId) (time : Time) : BlockChange s (s.takeBoundary h time)
  | shortfall (h : HeadId) (l : Nat) (m : List MissedPixel) : BlockChange s (s.takeShortfall h l m)
  | followLoss (h : HeadId) : BlockChange s (s.takeFollowLoss h)
  | verified (i : LibId) (rest : List LibId) (h : s.library.verifyQueue = i :: rest) :
      BlockChange s (s.verified i rest)
  | abandon (i : LibId) : BlockChange s (s.abandon i)
  | startJob : BlockChange s s.startJob
  | finishJob : BlockChange s s.finishJob
  | captureOn (p : PortId) : BlockChange s (s.captureOn p)
  | captureOff (p : PortId) : BlockChange s (s.captureOff p)
  | depth (p : PortId) (k : Nat) (h₁ : 1 ≤ k) (h₂ : k ≤ 4) :
      BlockChange s ((s.modPort p fun q => { q with depth := k }).evictSurplus p)
  | flush (p : PortId) : BlockChange s (s.flush p)
  | resetPort (p : PortId) : BlockChange s (s.resetPort p)
  | movePin (i : PinId) (p : PortId) (j : SlotId) (hlast : (s.readyList p).getLast? = some j)
      (hnew : s.pinSlot i ≠ some j) : BlockChange s (s.movePin i (s.pinEntryOf p j))
  | emptyPin (i : PinId) : BlockChange s (s.emptyPin i)
  | timing (h : HeadId) (t : Timing) (hrange : t.inRange = true) (hoff : (s.head h).state = .off) :
      BlockChange s (s.modHead h fun hd => { hd with timing := some t })
  | headOn (h : HeadId) (hoff : (s.head h).state = .off) (htiming : (s.head h).timing ≠ none) :
      BlockChange s (s.modHead h Head.switchedOn)
  | headOff (h : HeadId) (hon : (s.head h).state ≠ .off) : BlockChange s (s.switchOff h)
  | mute (h : HeadId) (on : Bool) (hon : (s.head h).state ≠ .off) :
      BlockChange s (s.modHead h fun hd => { hd with state := if on then .muted else .running })
  | background (h : HeadId) (b m : Triple) :
      BlockChange s (s.modHead h fun hd => { hd with background := b, muteColour := m })
  | follow (h : HeadId) (source : Option PortId) (w l : Nat) (hw : w ≤ 64) (hl : l ≤ 255) :
      BlockChange s (s.setFollow h source w l)
  | put (h : HeadId) (p : Position) (r : WindowRecord) (hpending : (s.head h).presentPending = false)
      (hnames : s.namesImage r = true) (hrange : r.inRange = true) : BlockChange s (s.putPending h p (some r))
  | remove (h : HeadId) (p : Position) (hpending : (s.head h).presentPending = false) :
      BlockChange s (s.putPending h p none)
  | restart (h : HeadId) (fromEmpty : Bool) (hpending : (s.head h).presentPending = false) :
      BlockChange s (s.reloadPending h (if fromEmpty then .allAbsent else (s.head h).activeScene))
  | presentOff (h : HeadId) (hpending : (s.head h).presentPending = false) (hoff : (s.head h).state = .off) :
      BlockChange s (s.swapOff h)
  | present (h : HeadId) (hpending : (s.head h).presentPending = false) (hon : (s.head h).state ≠ .off) :
      BlockChange s (s.modHead h fun hd => { hd with presentPending := true })
  | libOpen (i : LibId) (e : EntryInfo) (b : Nat) (hempty : s.entry i = .empty)
      (hlimit : ¬ Config.maxUploads ≤ s.library.uploads) (hfit : s.library.firstFit e.blockCount = some b)
      (hsize : sizeInRange e.kind e.width e.height = true) :
      BlockChange s (s.setEntry i (.receiving { e with firstBlock := b } 0))
  | libData (i : LibId) (e : EntryInfo) (n : Nat) (bs : List Byte) (hentry : s.entry i = .receiving e n)
      (hfits : n + bs.length ≤ e.byteTotal) :
      BlockChange s ((s.writeBytes (entryAddress e) n bs).setEntry i (.receiving e (n + bs.length)))
  | libClose (i : LibId) (e : EntryInfo) (n : Nat) (hentry : s.entry i = .receiving e n) :
      BlockChange s ((s.setEntry i (.verifying e)).setVerifyQueue (s.library.verifyQueue ++ [i]))
  | libDelete (i : LibId) (h : (∃ e n, s.entry i = .receiving e n) ∨ ∃ e, s.entry i = .valid e 0) :
      BlockChange s (s.setEntry i .empty)
  | placeShape (h : HeadId) (i : LibId) (hvalid : ((s.entry i).validOf .sprite).isSome = true) :
      BlockChange s (s.placeShape h i)
  | cursor (h : HeadId) (f : Cursor → Cursor)
      (hkeep : ∀ c, (f c).front = c.front ∧ (f c).back = c.back ∧ (f c).waiting = c.waiting) :
      BlockChange s (s.modCursor h f)
  | ancConfig (h : HeadId) (enable : Bool) (line : Nat) (pair : CharPair) (mark : Nat) (h₁ : 1 ≤ line)
      (h₂ : line ≤ 8) (h₃ : mark ≤ 31) :
      BlockChange s (s.modAnc h fun a =>
        { a with enable := enable, line := line, defaultPair := pair, lowMark := mark })
  | ancPush (h : HeadId) (pairs : List CharPair)
      (hroom : (s.head h).anc.queue.length + pairs.length ≤ Config.maxPairs) :
      BlockChange s (s.modAnc h fun a => { a with queue := a.queue ++ pairs })
  | ancFlush (h : HeadId) : BlockChange s (s.modAnc h fun a => { a with queue := [] })
  | clearPort (p : PortId) : BlockChange s (s.modPort p fun q => { q with counters := .zero })
  | clearHead (h : HeadId) : BlockChange s (s.modHead h Head.cleared)

/-- What the body of a request can do: change the counters of the link alone, or make one change of the blocks. -/
def BodyEffect (s t : State) : Prop := (∃ f, t = s.countLink f) ∨ BlockChange s t

theorem BodyEffect.refl (s : State) : BodyEffect s s := .inl ⟨id, rfl⟩

theorem done_effect {s t : State} (h : BlockChange s t) : BodyEffect s (done t).2 := .inr h

theorem withIndex_effect {n : Nat} {bs : List Byte} {s : State} {f : Fin n → Reply × State}
    (h : ∀ i, BodyEffect s (f i).2) : BodyEffect s (withIndex n bs s f).2 := by
  unfold withIndex
  split
  · exact h _
  · exact .refl s

theorem withLibId_effect {bs : List Byte} {s : State} {f : LibId → Reply × State}
    (h : ∀ i, BodyEffect s (f i).2) : BodyEffect s (withLibId bs s f).2 := by
  unfold withLibId
  split
  · exact h _
  · exact .refl s

/-! ### The bodies of the port and pin requests -/

theorem captureBody_effect (bs : List Byte) (s : State) : BodyEffect s (captureBody bs s).2 :=
  withIndex_effect fun p => by
    split
    · exact .inr (.captureOn p)
    · split
      · exact .inr (.captureOff p)
      · exact .refl s

theorem portDepthBody_effect (bs : List Byte) (s : State) : BodyEffect s (portDepthBody bs s).2 :=
  withIndex_effect fun p => by
    split
    · rename_i h; exact .inr (.depth p _ h.1 h.2)
    · exact .refl s

theorem portFlushBody_effect (bs : List Byte) (s : State) : BodyEffect s (portFlushBody bs s).2 :=
  withIndex_effect fun p => .inr (.flush p)

theorem portResetBody_effect (bs : List Byte) (s : State) : BodyEffect s (portResetBody bs s).2 :=
  withIndex_effect fun p => .inr (.resetPort p)

theorem portStatusBody_effect (bs : List Byte) (s : State) : BodyEffect s (portStatusBody bs s).2 :=
  withIndex_effect fun _ => .refl s

theorem pinTakeBody_effect (bs : List Byte) (s : State) : BodyEffect s (pinTakeBody bs s).2 :=
  withIndex_effect fun i => by
    split
    · exact .refl s
    · split
      · exact .refl s
      · rename_i hlast
        split
        · exact .refl s
        · rename_i hnew; exact .inr (.movePin i _ _ hlast hnew)

theorem pinReleaseBody_effect (bs : List Byte) (s : State) : BodyEffect s (pinReleaseBody bs s).2 :=
  withIndex_effect fun i => .inr (.emptyPin i)

theorem storeStatusBody_effect (bs : List Byte) (s : State) : BodyEffect s (storeStatusBody bs s).2 :=
  withIndex_effect fun _ => .refl s

/-! ### The bodies of the head and scene requests -/

theorem headTimingBody_effect (bs : List Byte) (s : State) : BodyEffect s (headTimingBody bs s).2 :=
  withIndex_effect fun h => by
    split
    · rename_i hrange
      split
      · rename_i hoff; exact .inr (.timing h _ hrange hoff)
      · exact .refl s
    · exact .refl s

theorem headOnBody_effect (bs : List Byte) (s : State) : BodyEffect s (headOnBody bs s).2 :=
  withIndex_effect fun h => by
    split
    · exact .refl s
    · rename_i hoff
      split
      · exact .refl s
      · rename_i htiming
        split
        · exact .refl s
        · exact .inr (.headOn h (not_not.1 hoff) htiming)

theorem headOffBody_effect (bs : List Byte) (s : State) : BodyEffect s (headOffBody bs s).2 :=
  withIndex_effect fun h => by
    split
    · exact .refl s
    · rename_i hon; exact done_effect (.headOff h hon)

theorem headMuteBody_effect (bs : List Byte) (s : State) : BodyEffect s (headMuteBody bs s).2 :=
  withIndex_effect fun h => by
    split
    · exact .refl s
    · split
      · exact .refl s
      · rename_i on _ hon; exact .inr (.mute h on hon)

theorem headBackgroundBody_effect (bs : List Byte) (s : State) : BodyEffect s (headBackgroundBody bs s).2 :=
  withIndex_effect fun h => by exact .inr (.background h _ _)

theorem headStatusBody_effect (bs : List Byte) (s : State) : BodyEffect s (headStatusBody bs s).2 :=
  withIndex_effect fun _ => .refl s

theorem headFollowBody_effect (bs : List Byte) (s : State) : BodyEffect s (headFollowBody bs s).2 :=
  withIndex_effect fun h => by
    split
    · exact .refl s
    · split
      · rename_i hw
        exact .inr (.follow h _ _ _ hw (by have := (byteAt bs 3).isLt; omega))
      · exact .refl s

/-- A record that is read is in the ranges of Table 4-3 (R73). -/
theorem readRecord_inRange {bs : List Byte} {r : WindowRecord} (h : readRecord bs = some r) :
    r.inRange = true := by
  unfold readRecord at h
  split at h
  · dsimp only at h
    split at h
    · rename_i hrange
      cases h
      exact (Bool.and_eq_true _ _ ▸ hrange).1
    · cases h
  · cases h

theorem scenePutBody_effect (bs : List Byte) (s : State) : BodyEffect s (scenePutBody bs s).2 :=
  withIndex_effect fun h => by
    split
    · rename_i hread
      split
      · exact .refl s
      · rename_i hpending
        split
        · rename_i hnames
          exact .inr (.put h _ _ (Bool.not_eq_true _ ▸ hpending) hnames (readRecord_inRange hread))
        · exact .refl s
    · exact .refl s

theorem sceneRemoveBody_effect (bs : List Byte) (s : State) : BodyEffect s (sceneRemoveBody bs s).2 :=
  withIndex_effect fun h => by
    split
    · exact .refl s
    · split
      · exact .refl s
      · rename_i hpending; exact .inr (.remove h _ (Bool.not_eq_true _ ▸ hpending))

theorem sceneRestartBody_effect (bs : List Byte) (s : State) : BodyEffect s (sceneRestartBody bs s).2 :=
  withIndex_effect fun h => by
    split
    · exact .refl s
    · split
      · exact .refl s
      · rename_i hpending; exact .inr (.restart h _ (Bool.not_eq_true _ ▸ hpending))

theorem sceneReadBody_effect (bs : List Byte) (s : State) : BodyEffect s (sceneReadBody bs s).2 :=
  withIndex_effect fun h => by
    split <;> exact .refl s

theorem scenePresentBody_effect (bs : List Byte) (s : State) : BodyEffect s (scenePresentBody bs s).2 :=
  withIndex_effect fun h => by
    split
    · exact .refl s
    · rename_i hpending
      have hno := Bool.not_eq_true _ ▸ hpending
      split
      · exact .refl s
      · split
        · rename_i hoff; exact .inr (.presentOff h hno hoff)
        · rename_i hon; exact .inr (.present h hno hon)

/-! ### The bodies of the library requests -/

theorem openEntry_effect (s : State) (i : LibId) (e : EntryInfo)
    (hsize : sizeInRange e.kind e.width e.height = true) : BodyEffect s (s.openEntry i e).2 := by
  unfold State.openEntry
  split
  · rename_i hempty
    split
    · exact .refl s
    · rename_i hlimit
      split
      · exact .refl s
      · rename_i hfit; exact .inr (.libOpen i e _ hempty hlimit hfit hsize)
  all_goals exact .refl s

theorem libOpenBody_effect (bs : List Byte) (s : State) : BodyEffect s (libOpenBody bs s).2 :=
  withLibId_effect fun i => by
    split
    · exact .refl s
    · split
      · rename_i hsize; exact openEntry_effect s i _ hsize
      · exact .refl s

theorem libDataBody_effect (bs : List Byte) (s : State) : BodyEffect s (libDataBody bs s).2 :=
  withLibId_effect fun i => by
    split
    · rename_i hentry
      split
      · exact .refl s
      · split
        · exact .refl s
        · rename_i hfits; exact .inr (.libData i _ _ _ hentry (Nat.le_of_not_lt hfits))
    all_goals exact .refl s

theorem libCloseBody_effect (bs : List Byte) (s : State) : BodyEffect s (libCloseBody bs s).2 :=
  withLibId_effect fun i => by
    split
    · rename_i hentry
      split
      · exact .refl s
      · exact .inr (.libClose i _ _ hentry)
    all_goals exact .refl s

theorem libDeleteBody_effect (bs : List Byte) (s : State) : BodyEffect s (libDeleteBody bs s).2 :=
  withLibId_effect fun i => by
    split
    · exact .refl s
    · rename_i hentry; exact .inr (.libDelete i (.inl ⟨_, _, hentry⟩))
    · exact .refl s
    · rename_i hentry
      split
      · rename_i hzero
        exact .inr (.libDelete i (.inr ⟨_, hzero ▸ hentry⟩))
      · exact .refl s

theorem libListBody_effect (bs : List Byte) (s : State) : BodyEffect s (libListBody bs s).2 :=
  withLibId_effect fun _ => .refl s

theorem libSpaceBody_effect (bs : List Byte) (s : State) : BodyEffect s (libSpaceBody bs s).2 := .refl s

/-! ### The bodies of the cursor, inserter and device requests -/

theorem cursorShapeBody_effect (bs : List Byte) (s : State) : BodyEffect s (cursorShapeBody bs s).2 :=
  withIndex_effect fun h => by
    split
    · exact .refl s
    · split
      · rename_i hvalid; exact .inr (.placeShape h _ hvalid)
      · exact .refl s

theorem cursorSet_effect {s : State} {h : HeadId} {st : Status} {f : Cursor → Cursor}
    (hkeep : ∀ c, (f c).front = c.front ∧ (f c).back = c.back ∧ (f c).waiting = c.waiting) :
    BodyEffect s (withCursorReport st h (s.modCursor h f)).2 := .inr (.cursor h f hkeep)

theorem cursorMoveBody_effect (bs : List Byte) (s : State) : BodyEffect s (cursorMoveBody bs s).2 :=
  withIndex_effect fun h => by
    split
    · exact cursorSet_effect fun _ => ⟨rfl, rfl, rfl⟩
    · exact .refl s

theorem cursorShowBody_effect (bs : List Byte) (s : State) : BodyEffect s (cursorShowBody bs s).2 :=
  withIndex_effect fun h => by
    split
    · exact cursorSet_effect fun _ => ⟨rfl, rfl, rfl⟩
    · split
      · exact cursorSet_effect fun _ => ⟨rfl, rfl, rfl⟩
      · split <;> exact .refl s

theorem cursorPaletteBody_effect (bs : List Byte) (s : State) : BodyEffect s (cursorPaletteBody bs s).2 :=
  withIndex_effect fun h => by exact cursorSet_effect fun _ => ⟨rfl, rfl, rfl⟩

theorem ancConfigBody_effect (bs : List Byte) (s : State) : BodyEffect s (ancConfigBody bs s).2 :=
  withIndex_effect fun h => by
    split
    · split
      · rename_i hrange; exact .inr (.ancConfig h _ _ _ _ hrange.1 hrange.2.1 hrange.2.2)
      · exact .refl s
    · exact .refl s

theorem ancPushBody_effect (bs : List Byte) (s : State) : BodyEffect s (ancPushBody bs s).2 :=
  withIndex_effect fun h => by
    split
    · exact .refl s
    · split
      · exact .refl s
      · rename_i hroom; exact .inr (.ancPush h _ (Nat.le_of_not_lt hroom))

theorem ancFlushBody_effect (bs : List Byte) (s : State) : BodyEffect s (ancFlushBody bs s).2 :=
  withIndex_effect fun h => .inr (.ancFlush h)

theorem ancStatusBody_effect (bs : List Byte) (s : State) : BodyEffect s (ancStatusBody bs s).2 :=
  withIndex_effect fun _ => .refl s

theorem statsClearBody_effect (bs : List Byte) (s : State) : BodyEffect s (statsClearBody bs s).2 := by
  unfold statsClearBody
  split
  · rename_i o _
    cases o with
    | port p => exact .inr (.clearPort p)
    | head h => exact .inr (.clearHead h)
    | link => exact .inl ⟨fun _ => .zero, rfl⟩
  · exact .refl s

theorem statsReadBody_keeps (bs : List Byte) (s : State) : (statsReadBody bs s).2 = s := by
  unfold statsReadBody
  split <;> rfl

/-! ### The effect of a command -/

/-- What one command can do to the part. -/
inductive Effect (s t : State) : Prop
  | linkAndNotices (h : OnlyChanges [.link, .notices] s t)
  | deviceReset (phase : Phase) (cause : ResetCause) (straps : Straps) (hphase : phase ≠ .ready)
      (h : t = s.deviceReset phase cause straps)
  | startUp (failing : Option Nat) (hphase : s.device.phase = .starting) (h : t = s.endStartUp failing)
  | blocks (u v : State) (hready : u.device.phase = .ready) (hu : OnlyChanges [.link] s u) (hc : BlockChange u v)
      (hv : OnlyChanges [.link] v t)

theorem Effect.refl (s : State) : Effect s s := .linkAndNotices (OnlyChanges.refl _ s)

theorem Effect.link {s t : State} (h : OnlyChanges [.link] s t) : Effect s t :=
  .linkAndNotices (h.weaken (by decide))

theorem State.isReady_iff (s : State) : s.isReady = true ↔ s.device.phase = .ready := by simp [State.isReady]

/-- A block event is a change of the blocks in the ready state, and nothing in the others. -/
theorem whenReady_effect {s : State} {f : State → State} (h : BlockChange s (f s) ∨ f s = s) :
    Effect s (whenReady s f) := by
  unfold whenReady
  split
  · rename_i hready
    rcases h with h | h
    · exact .blocks s (f s) ((s.isReady_iff).1 hready) (OnlyChanges.refl _ s) h (OnlyChanges.refl _ _)
    · rw [h]; exact .refl s
  · exact .refl s

/-- A request that FAULTED does not serve reaches its block in the ready state alone. -/
theorem State.takeRequest_effect {s : State} {mine : Request → Bool} {body : Body}
    (hcode : ∀ r, mine r = true → servedInFaulted r.code = false) (hb : ∀ bs u, BodyEffect u (body bs u).2) :
    Effect s (s.takeRequest mine body) := by
  rcases s.takeRequest_cases mine body with h | ⟨r, rest, _, hruns, hmine, h⟩
  · rw [h]; exact .refl s
  · rw [h]
    have hpop := s.withRequests_only rest
    have hpost := fun u rep => State.post_only u r rep
    unfold State.execute
    split
    · exact .link (hpop.trans (hpost _ _))
    · split
      · split
        · exact .link (hpop.trans (hpost _ _))
        · rename_i hfault
          rcases hb r.payload (s.withRequests rest) with ⟨f, hlink⟩ | hchange
          · rw [hlink]; exact .link ((hpop.trans (State.countLink_only _ f)).trans (hpost _ _))
          · refine .blocks _ _ ?_ hpop hchange (hpost _ _)
            rw [hcode r hmine] at hfault
            have hready : (s.isReady || s.isFaulted) = true := (Bool.and_eq_true _ _ ▸ hruns).1
            have hnot : s.isFaulted = false := by
              simpa [State.isFaulted, State.withRequests] using hfault
            rw [hnot, Bool.or_false] at hready
            exact (s.isReady_iff).1 hready
      · exact .link (hpop.trans (hpost _ _))

/-- A request whose body changes the link alone. -/
theorem State.takeRequest_effect_link {s : State} {mine : Request → Bool} {body : Body}
    (hb : ∀ bs u, OnlyChanges [.link] u (body bs u).2) : Effect s (s.takeRequest mine body) :=
  .link (s.takeRequest_only mine body hb (by decide))

theorem State.runRequest_effect {s : State} {code : Byte} {body : Body} (hcode : servedInFaulted code = false)
    (hb : ∀ bs u, BodyEffect u (body bs u).2) :
    Effect s (s.takeRequest (fun r => decide (r.code = code)) body) :=
  State.takeRequest_effect (fun _ h => (of_decide_eq_true h) ▸ hcode) hb

theorem capture_effect {s : State} {c : Request → Bool} :
    Effect s (s.takeRequest (fun r => decide (r.code = 0x10) && c r) captureBody) :=
  State.takeRequest_effect (fun r h => by
    have hcode : r.code = 0x10 := of_decide_eq_true (Bool.and_eq_true _ _ ▸ h).1
    rw [hcode]; rfl) captureBody_effect

theorem State.onByte_effect {s : State} {b : Byte} {f : ByteEvent → State}
    (h : ∀ e, OnlyChanges [.link, .notices] s (f e)) : Effect s (s.onByte b f) := by
  unfold State.onByte
  split
  · exact .refl s
  · exact .linkAndNotices (h _)

theorem State.onGoodFrame_effect {s : State} {b : Byte} {mine : Byte → Bool} :
    Effect s (s.onGoodFrame b mine) :=
  State.onByte_effect fun e => by
    have hkeep := OnlyChanges.refl [.link, .notices] s
    split
    · split
      · exact ((s.setReceiver_only _).weaken (by decide)).trans (State.takeFrame_only _ _)
      · exact hkeep
    all_goals exact hkeep

theorem lengthError_effect (b : Byte) (s : State) : ∃ t, exec (.lengthError b) s = .next t ∧ Effect s t :=
  ⟨_, rfl, State.onByte_effect fun e => by
    have hkeep := OnlyChanges.refl [.link, .notices] s
    split
    · exact (((s.setReceiver_only _).trans (State.countLink_only _ _)).weaken (by decide)).trans
        (State.examineAgain_only _ _ _)
    all_goals exact hkeep⟩

theorem crcError_effect (b : Byte) (s : State) : ∃ t, exec (.crcError b) s = .next t ∧ Effect s t :=
  ⟨_, rfl, State.onByte_effect fun e => by
    have hkeep := OnlyChanges.refl [.link, .notices] s
    split
    · exact (((s.setReceiver_only _).trans (State.countLink_only _ _)).weaken (by decide)).trans
        (State.examineAgain_only _ _ _)
    all_goals exact hkeep⟩

theorem receivedByte_effect (b : Byte) (s : State) : ∃ t, exec (.receivedByte b) s = .next t ∧ Effect s t :=
  ⟨_, rfl, State.onByte_effect fun e => by
    have hkeep := OnlyChanges.refl [.link, .notices] s
    split
    · exact (s.setReceiver_only _).weaken (by decide)
    all_goals exact hkeep⟩

theorem gapError_effect (s : State) : ∃ t, exec .gapError s = .next t ∧ Effect s t := by
  refine ⟨_, rfl, ?_⟩
  split
  · exact .refl s
  · split
    · exact .link ((s.setReceiver_only _).trans (State.countLink_only _ _))
    · exact .refl s

theorem transmitBegin_effect (s : State) : ∃ t, exec .transmitBegin s = .next t ∧ Effect s t := by
  refine ⟨_, rfl, ?_⟩
  split
  · exact .refl s
  · exact .linkAndNotices s.transmitNext_only

theorem transmitComplete_effect (straps : Straps) (s : State) :
    ∃ t, exec (.transmitComplete straps) s = .next t ∧ Effect s t := by
  refine ⟨_, rfl, ?_⟩
  split
  · exact .refl s
  · exact .linkAndNotices (((s.modLink_only _).weaken (by decide)).trans
      ((State.setNotices_only _ _).weaken (by decide)))
  · split
    · exact .link (s.modLink_only _)
    · exact .deviceReset .starting .request straps (by decide) rfl
    · exact .link (s.modLink_only _)
    · exact .link (s.modLink_only _)

theorem resendTimerExpiry_effect (s : State) : ∃ t, exec .resendTimerExpiry s = .next t ∧ Effect s t := by
  refine ⟨_, rfl, ?_⟩
  split
  · exact .linkAndNotices ((s.setNotices_only _).weaken (by decide))
  · exact .refl s

theorem resetPinRelease_effect (straps : Straps) (s : State) :
    ∃ t, exec (.resetPinRelease straps) s = .next t ∧ Effect s t := by
  refine ⟨_, rfl, ?_⟩
  split
  · exact .deviceReset .starting .pin straps (by decide) rfl
  · exact .refl s

theorem startUpEnd_effect (failing : Option Nat) (s : State) :
    ∃ t, exec (.startUpEnd failing) s = .next t ∧ Effect s t := by
  refine ⟨_, rfl, ?_⟩
  split
  · rename_i h; exact .startUp failing h rfl
  · exact .refl s

theorem lossTimerExpiry_effect (p : PortId) (s : State) :
    ∃ t, exec (.lossTimerExpiry p) s = .next t ∧ Effect s t := by
  refine ⟨_, rfl, whenReady_effect ?_⟩
  split
  · rename_i h; exact .inl (.loseSignal p h)
  · exact .inr rfl

theorem verifyResult_effect (s : State) : ∃ t, exec .verifyResult s = .next t ∧ Effect s t := by
  refine ⟨_, rfl, whenReady_effect ?_⟩
  split
  · exact .inr rfl
  · rename_i h; exact .inl (.verified _ _ h)

/-- Every command answers a next state, and what it does is an `Effect`. -/
theorem exec_effect (c : Instr) (s : State) : ∃ t, exec c s = .next t ∧ Effect s t := by
  cases c with
  | resetPin straps => exact ⟨_, rfl, .deviceReset .held .pin straps (by decide) rfl⟩
  | resetPinRelease straps => exact resetPinRelease_effect straps s
  | startUpEnd failing => exact startUpEnd_effect failing s
  | start p l w n time => exact ⟨_, rfl, whenReady_effect (.inl (.start p l w n time))⟩
  | fillEnd p px => exact ⟨_, rfl, whenReady_effect (.inl (.fillEnd p px))⟩
  | lossTimerExpiry p => exact lossTimerExpiry_effect p s
  | captureOn => exact ⟨_, rfl, capture_effect⟩
  | captureOff => exact ⟨_, rfl, capture_effect⟩
  | portDepth => exact ⟨_, rfl, State.runRequest_effect rfl portDepthBody_effect⟩
  | portFlush => exact ⟨_, rfl, State.runRequest_effect rfl portFlushBody_effect⟩
  | portReset => exact ⟨_, rfl, State.runRequest_effect rfl portResetBody_effect⟩
  | portStatus => exact ⟨_, rfl, State.runRequest_effect rfl portStatusBody_effect⟩
  | pinTake => exact ⟨_, rfl, State.runRequest_effect rfl pinTakeBody_effect⟩
  | pinRelease => exact ⟨_, rfl, State.runRequest_effect rfl pinReleaseBody_effect⟩
  | storeStatus => exact ⟨_, rfl, State.runRequest_effect rfl storeStatusBody_effect⟩
  | frameBoundary h time => exact ⟨_, rfl, whenReady_effect (.inl (.boundary h time))⟩
  | fetchShortfall h l m => exact ⟨_, rfl, whenReady_effect (.inl (.shortfall h l m))⟩
  | followLoss h => exact ⟨_, rfl, whenReady_effect (.inl (.followLoss h))⟩
  | headTiming => exact ⟨_, rfl, State.runRequest_effect rfl headTimingBody_effect⟩
  | headOn => exact ⟨_, rfl, State.runRequest_effect rfl headOnBody_effect⟩
  | headOff => exact ⟨_, rfl, State.runRequest_effect rfl headOffBody_effect⟩
  | headMute => exact ⟨_, rfl, State.runRequest_effect rfl headMuteBody_effect⟩
  | headBackground => exact ⟨_, rfl, State.runRequest_effect rfl headBackgroundBody_effect⟩
  | headFollow => exact ⟨_, rfl, State.runRequest_effect rfl headFollowBody_effect⟩
  | headStatus => exact ⟨_, rfl, State.runRequest_effect rfl headStatusBody_effect⟩
  | scenePut => exact ⟨_, rfl, State.runRequest_effect rfl scenePutBody_effect⟩
  | sceneRemove => exact ⟨_, rfl, State.runRequest_effect rfl sceneRemoveBody_effect⟩
  | sceneRestart => exact ⟨_, rfl, State.runRequest_effect rfl sceneRestartBody_effect⟩
  | sceneRead => exact ⟨_, rfl, State.runRequest_effect rfl sceneReadBody_effect⟩
  | scenePresent => exact ⟨_, rfl, State.runRequest_effect rfl scenePresentBody_effect⟩
  | libOpen => exact ⟨_, rfl, State.runRequest_effect rfl libOpenBody_effect⟩
  | libData => exact ⟨_, rfl, State.runRequest_effect rfl libDataBody_effect⟩
  | libClose => exact ⟨_, rfl, State.runRequest_effect rfl libCloseBody_effect⟩
  | verifyResult => exact verifyResult_effect s
  | inactivityTimerExpiry i => exact ⟨_, rfl, whenReady_effect (.inl (.abandon i))⟩
  | libDelete => exact ⟨_, rfl, State.runRequest_effect rfl libDeleteBody_effect⟩
  | libList => exact ⟨_, rfl, State.runRequest_effect rfl libListBody_effect⟩
  | libSpace => exact ⟨_, rfl, State.runRequest_effect rfl libSpaceBody_effect⟩
  | cursorShape => exact ⟨_, rfl, State.runRequest_effect rfl cursorShapeBody_effect⟩
  | jobStart => exact ⟨_, rfl, whenReady_effect (.inl .startJob)⟩
  | shapeLoadCompletion => exact ⟨_, rfl, whenReady_effect (.inl .finishJob)⟩
  | cursorMove => exact ⟨_, rfl, State.runRequest_effect rfl cursorMoveBody_effect⟩
  | cursorShow => exact ⟨_, rfl, State.runRequest_effect rfl cursorShowBody_effect⟩
  | cursorPalette => exact ⟨_, rfl, State.runRequest_effect rfl cursorPaletteBody_effect⟩
  | ancConfig => exact ⟨_, rfl, State.runRequest_effect rfl ancConfigBody_effect⟩
  | ancPush => exact ⟨_, rfl, State.runRequest_effect rfl ancPushBody_effect⟩
  | ancFlush => exact ⟨_, rfl, State.runRequest_effect rfl ancFlushBody_effect⟩
  | ancStatus => exact ⟨_, rfl, State.runRequest_effect rfl ancStatusBody_effect⟩
  | reset => exact ⟨_, rfl, State.takeRequest_effect_link fun _ u => u.modLink_only _⟩
  | info => exact ⟨_, rfl, State.takeRequest_effect_link fun _ u => OnlyChanges.refl _ u⟩
  | statsRead =>
    exact ⟨_, rfl, State.takeRequest_effect_link fun bs u => (statsReadBody_keeps bs u).symm ▸ OnlyChanges.refl _ u⟩
  | statsClear => exact ⟨_, rfl, State.runRequest_effect rfl statsClearBody_effect⟩
  | echo => exact ⟨_, rfl, State.takeRequest_effect_link fun _ u => OnlyChanges.refl _ u⟩
  | unknownCommand => exact ⟨_, rfl, State.takeRequest_effect_link fun _ u => OnlyChanges.refl _ u⟩
  | request b => exact ⟨_, rfl, State.onGoodFrame_effect⟩
  | noticeAck b => exact ⟨_, rfl, State.onGoodFrame_effect⟩
  | unknownKindFrame b => exact ⟨_, rfl, State.onGoodFrame_effect⟩
  | lengthError b => exact lengthError_effect b s
  | crcError b => exact crcError_effect b s
  | gapError => exact gapError_effect s
  | transmitBegin => exact transmitBegin_effect s
  | transmitComplete straps => exact transmitComplete_effect straps s
  | resendTimerExpiry => exact resendTimerExpiry_effect s
  | receivedByte b => exact receivedByte_effect b s

/-! ### What a change of the blocks leaves unchanged -/

/-- A change of the blocks leaves the device, the link and the queue of commands alone. -/
theorem BlockChange.only {s t : State} (h : BlockChange s t) :
    OnlyChanges [.notices, .pool, .ports, .heads, .library, .loader, .dram] s t := by
  cases h with
  | start p l w n time => exact (s.takeStart_only _ _ _ _ _).weaken (by decide)
  | fillEnd p px => exact (s.takeFillEnd_only _ _).weaken (by decide)
  | loseSignal p _ => exact (s.loseSignal_only _).weaken (by decide)
  | boundary h time => exact (s.takeBoundary_only _ _).weaken (by decide)
  | shortfall h l m => exact (s.takeShortfall_only _ _ _).weaken (by decide)
  | followLoss h => exact (s.takeFollowLoss_only _).weaken (by decide)
  | verified i rest _ => exact (s.verified_only _ _).weaken (by decide)
  | abandon i => exact (s.abandon_only _).weaken (by decide)
  | startJob => exact s.startJob_only.weaken (by decide)
  | finishJob => exact s.finishJob_only.weaken (by decide)
  | captureOn p => exact (s.captureOn_only _).weaken (by decide)
  | captureOff p => exact (s.captureOff_only _).weaken (by decide)
  | depth p k _ _ =>
    exact ((s.modPort_only _ _).weaken (by decide)).trans ((State.evictSurplus_only _ _).weaken (by decide))
  | flush p => exact (s.flush_only _).weaken (by decide)
  | resetPort p => exact (s.resetPort_only _).weaken (by decide)
  | movePin i p j _ _ => exact (s.movePin_only _ _).weaken (by decide)
  | emptyPin i => exact (s.emptyPin_only _).weaken (by decide)
  | headOff h _ => exact (s.switchOff_only _).weaken (by decide)
  | follow h source w l _ _ => exact (s.setFollow_only _ _ _ _).weaken (by decide)
  | put h p r _ _ _ => exact (s.putPending_only _ _ _).weaken (by decide)
  | remove h p _ => exact (s.putPending_only _ _ _).weaken (by decide)
  | restart h b _ => exact (s.reloadPending_only _ _).weaken (by decide)
  | presentOff h _ _ => exact (s.swapOff_only _).weaken (by decide)
  | libOpen i e b _ _ _ _ => exact (s.setEntry_only _ _).weaken (by decide)
  | libData i e n bs _ _ =>
    exact ((State.writeBytes_only _ _ _ s).weaken (by decide)).trans ((State.setEntry_only _ _ _).weaken (by decide))
  | libClose i e n _ =>
    exact ((s.setEntry_only _ _).weaken (by decide)).trans ((State.setVerifyQueue_only _ _).weaken (by decide))
  | libDelete i _ => exact (s.setEntry_only _ _).weaken (by decide)
  | placeShape h i _ => exact (s.placeShape_only _ _).weaken (by decide)
  | clearPort p => exact (s.modPort_only _ _).weaken (by decide)
  | timing h | headOn h | mute h | background h | present h | cursor h | ancConfig h | ancPush h | ancFlush h
  | clearHead h => exact (s.modHead_only _ _).weaken (by decide)

theorem Effect.pending {s t : State} (h : Effect s t) : t.pending = s.pending := by
  cases h with
  | linkAndNotices h => exact h .pending (by decide)
  | deviceReset phase cause straps _ h => rw [h]; rfl
  | startUp failing _ h => rw [h]; rfl
  | blocks u v _ hu hc hv =>
    exact (hv .pending (by decide)).trans ((hc.only .pending (by decide)).trans (hu .pending (by decide)))

/-- Settles O1: each command is one of the operations of `Effect`, all of which leave the queue of commands alone. -/
theorem stepTakesFrontCommand : Obligations.StepTakesFrontCommand := by
  refine ⟨fun c s => rfl, fun c s => ?_, fun s h => by simp [step, h]⟩
  obtain ⟨t, hexec, heffect⟩ := exec_effect c s
  exact ⟨t, hexec, heffect.pending⟩

/-- A step idles, or takes the command at the front, whose effect is on the state with the queue's rest. -/
theorem step_effect {s t : State} (h : step s = .next t) :
    t = s ∨ ∃ rest, Effect { s with pending := rest } t := by
  unfold step at h
  split at h
  · cases h; exact .inl rfl
  · rename_i c rest _
    obtain ⟨t', hexec, heffect⟩ := exec_effect c { s with pending := rest }
    rw [hexec] at h
    cases h
    exact .inr ⟨rest, heffect⟩

theorem Part.same_of_blocks {s t : State} (h : t.pool = s.pool ∧ t.ports = s.ports ∧ t.heads = s.heads ∧
    t.library = s.library ∧ t.loader = s.loader) {p : Part}
    (hp : p ∈ [Part.pool, .ports, .heads, .library, .loader]) : p.same s t := by
  obtain ⟨hpool, hports, hheads, hlibrary, hloader⟩ := h
  simp only [List.mem_cons, List.not_mem_nil, or_false] at hp
  rcases hp with rfl | rfl | rfl | rfl | rfl
  · exact hpool
  · exact hports
  · exact hheads
  · exact hlibrary
  · exact hloader

/-- What holds of the blocks before and after a change of them. What is to hold after holds at reset; both speak of
other parts than the link, the notices, the device and the queue of commands; and a state that nothing happens to has
what is to hold after. Then it holds after every step from a state that has what is to hold before. -/
theorem step_leads {Pre Post : State → Prop} {parts : List Part} (hreset : Post State.reset)
    (hpre : ∀ {s t : State}, (∀ p ∈ parts, p.same s t) → Pre s → Pre t)
    (hpost : ∀ {s t : State}, (∀ p ∈ parts, p.same s t) → Post s → Post t) (hidle : ∀ {s : State}, Pre s → Post s)
    (hparts : ∀ p ∈ parts, p ∈ [Part.pool, .ports, .heads, .library, .loader])
    (hblocks : ∀ {s t : State}, BlockChange s t → Pre s → Post t) {s t : State} (h : step s = .next t)
    (hs : Pre s) : Post t := by
  have hframe : ∀ {l : List Part} {a b : State}, OnlyChanges l a b →
      (∀ p ∈ l, p ∉ [Part.pool, .ports, .heads, .library, .loader]) → ∀ p ∈ parts, p.same a b :=
    fun h hl p hp => h p fun hmem => hl p hmem (hparts p hp)
  rcases step_effect h with rfl | ⟨rest, heffect⟩
  · exact hidle hs
  · have hs' : Pre { s with pending := rest } :=
      hpre (fun p hp => Part.same_of_blocks (by exact ⟨rfl, rfl, rfl, rfl, rfl⟩) (hparts p hp)) hs
    cases heffect with
    | linkAndNotices h => exact hpost (hframe h (by decide)) (hidle hs')
    | deviceReset phase cause straps _ h =>
      subst h
      exact hpost (fun p hp => Part.same_of_blocks (by exact ⟨rfl, rfl, rfl, rfl, rfl⟩) (hparts p hp)) hreset
    | startUp failing _ h => subst h; exact hpost (hframe (State.endStartUp_only _ _) (by decide)) (hidle hs')
    | blocks u v _ hu hc hv =>
      exact hpost (hframe hv (by decide)) (hblocks hc (hpre (hframe hu (by decide)) hs'))

/-- An invariant of the blocks: it holds at reset, it speaks of other parts than the link, the notices, the device
and the queue of commands, and every change of the blocks keeps it. Then every step keeps it. -/
theorem step_keeps {Inv : State → Prop} {parts : List Part} (hreset : Inv State.reset)
    (hdepends : ∀ {s t : State}, (∀ p ∈ parts, p.same s t) → Inv s → Inv t)
    (hparts : ∀ p ∈ parts, p ∈ [Part.pool, .ports, .heads, .library, .loader])
    (hblocks : ∀ {s t : State}, BlockChange s t → Inv s → Inv t) {s t : State} (h : step s = .next t)
    (hs : Inv s) : Inv t := step_leads hreset hdepends hdepends id hparts hblocks h hs

end Sys2Proof.Machine
end

section
/-! The canonical form of memory: only a fill end and LIB_DATA write DRAM, byte by byte, and start-up empties it. -/
namespace Sys2Proof.Machine

theorem memoryOk_writePixels {s : State} (i : SlotId) (stage : FillStage) (px : List Byte) (hs : MemoryOk s) :
    MemoryOk (s.writePixels i stage px) := by
  unfold State.writePixels
  split
  · exact memoryOk_writeBytes _ _ _ _ hs
  all_goals exact hs

theorem memoryOk_takeFillEnd {s : State} (p : PortId) (px : List Byte) (hs : MemoryOk s) :
    MemoryOk (s.takeFillEnd p px) := by
  have hwrite := fun i stage => memoryOk_writePixels i stage px hs
  unfold State.takeFillEnd
  split
  · exact memoryOk_of_only (State.completeFill_only _ _ _ _) (by decide) (hwrite _ _)
  · exact memoryOk_of_only (State.modPort_only _ _ _) (by decide) (hwrite _ _)
  · exact memoryOk_of_only (State.completeFill_only _ _ _ _) (by decide) (hwrite _ _)
  all_goals exact hs

/-- Two of the changes of the blocks write DRAM. -/
theorem BlockChange.writes {s t : State} (h : BlockChange s t) :
    t.dram = s.dram ∨ (∃ p px, t = s.takeFillEnd p px) ∨
      ∃ i e n bs, t = (s.writeBytes (entryAddress e) n bs).setEntry i (.receiving e (n + bs.length)) := by
  cases h with
  | fillEnd p px => exact .inr (.inl ⟨p, px, rfl⟩)
  | libData i e n bs _ _ => exact .inr (.inr ⟨i, e, n, bs, rfl⟩)
  | start p l w n time => exact .inl (s.takeStart_only p l w n time .dram (by decide))
  | loseSignal p _ => exact .inl (s.loseSignal_only p .dram (by decide))
  | boundary h time => exact .inl (s.takeBoundary_only h time .dram (by decide))
  | shortfall h l m => exact .inl (s.takeShortfall_only h l m .dram (by decide))
  | followLoss h => exact .inl (s.takeFollowLoss_only h .dram (by decide))
  | verified i rest _ => exact .inl (s.verified_only i rest .dram (by decide))
  | abandon i => exact .inl (s.abandon_only i .dram (by decide))
  | startJob => exact .inl (s.startJob_only .dram (by decide))
  | finishJob => exact .inl (s.finishJob_only .dram (by decide))
  | captureOn p => exact .inl (s.captureOn_only p .dram (by decide))
  | captureOff p => exact .inl (s.captureOff_only p .dram (by decide))
  | depth p k _ _ => exact .inl (State.evictSurplus_only _ p .dram (by decide))
  | flush p => exact .inl (s.flush_only p .dram (by decide))
  | resetPort p => exact .inl (s.resetPort_only p .dram (by decide))
  | movePin i p j _ _ => exact .inl (s.movePin_only i _ .dram (by decide))
  | emptyPin i => exact .inl (s.emptyPin_only i .dram (by decide))
  | headOff h _ => exact .inl (s.switchOff_only h .dram (by decide))
  | follow h source w l _ _ => exact .inl (s.setFollow_only h source w l .dram (by decide))
  | put h p r _ _ _ => exact .inl (s.putPending_only h p _ .dram (by decide))
  | remove h p _ => exact .inl (s.putPending_only h p _ .dram (by decide))
  | restart h b _ => exact .inl (s.reloadPending_only h _ .dram (by decide))
  | presentOff h _ _ => exact .inl (s.swapOff_only h .dram (by decide))
  | placeShape h i _ => exact .inl (s.placeShape_only h i .dram (by decide))
  | timing | headOn | mute | background | present | libOpen | libClose | libDelete | cursor | ancConfig | ancPush
  | ancFlush | clearPort | clearHead => exact .inl rfl

theorem BlockChange.memoryOk {s t : State} (h : BlockChange s t) (hs : MemoryOk s) : MemoryOk t := by
  rcases h.writes with hdram | ⟨p, px, rfl⟩ | ⟨i, e, n, bs, rfl⟩
  · exact (congrArg Memory.wf hdram).mpr hs
  · exact memoryOk_takeFillEnd p px hs
  · exact memoryOk_of_only (State.setEntry_only _ _ _) (by decide) (memoryOk_writeBytes _ _ _ _ hs)

theorem Effect.memoryOk {s t : State} (h : Effect s t) (hs : MemoryOk s) : MemoryOk t := by
  cases h with
  | linkAndNotices h => exact memoryOk_of_only h (by decide) hs
  | deviceReset phase cause straps _ h => subst h; exact hs
  | startUp failing _ h => subst h; exact Memory.wf_nil
  | blocks u v _ hu hc hv =>
    exact memoryOk_of_only hv (by decide) (hc.memoryOk (memoryOk_of_only hu (by decide) hs))

/-- Settles O54: every write inserts its address in rising order, and nothing else touches the written bytes but
start-up, which empties them. -/
theorem stepsKeepMemoryCanonical : Obligations.StepsKeepMemoryCanonical := by
  intro s t hs h
  rcases step_effect h with rfl | ⟨rest, heffect⟩
  · exact hs
  · exact heffect.memoryOk hs

end Sys2Proof.Machine
end

section
/-! What each operation on a head does to the record of that head, and that it leaves the other head alone. -/
namespace Sys2Proof.Machine

/-! ### Reading across updates of other parts -/

theorem State.head_of_only {l : List Part} {s t : State} (h : OnlyChanges l s t) (hl : Part.heads ∉ l) (g : HeadId) :
    t.head g = s.head g := congrArg (fun v : Vector Head 2 => v[g]) (h .heads hl)

theorem State.port_of_only {l : List Part} {s t : State} (h : OnlyChanges l s t) (hl : Part.ports ∉ l) (p : PortId) :
    t.port p = s.port p := congrArg (fun v : Vector Port 4 => v[p]) (h .ports hl)

theorem State.entry_of_only {l : List Part} {s t : State} (h : OnlyChanges l s t) (hl : Part.library ∉ l) (i : LibId) :
    t.entry i = s.entry i := congrArg (fun v : Library => v.entries[i]) (h .library hl)

theorem State.slot_of_only {l : List Part} {s t : State} (h : OnlyChanges l s t) (hl : Part.pool ∉ l) (i : SlotId) :
    t.slot i = s.slot i := congrArg (fun v : Pool => v.slots[i]) (h .pool hl)

theorem State.readyList_of_only {l : List Part} {s t : State} (h : OnlyChanges l s t) (hl : Part.pool ∉ l)
    (p : PortId) : t.readyList p = s.readyList p := congrArg (fun v : Pool => v.ready[p]) (h .pool hl)

@[simp] theorem State.head_takeRef (s : State) (i : SlotId) (g : HeadId) : (s.takeRef i).head g = s.head g :=
  State.head_of_only (s.takeRef_only i) (by decide) g

@[simp] theorem State.head_releaseOpt (s : State) (i : Option SlotId) (g : HeadId) :
    (s.releaseOpt i).head g = s.head g := State.head_of_only (s.releaseOpt_only i) (by decide) g

@[simp] theorem State.head_addUse (s : State) (i : LibId) (g : HeadId) :
    (s.addUse i).head g = s.head g := State.head_of_only (s.addUse_only i) (by decide) g

@[simp] theorem State.head_addUseOf (s : State) (i : Option LibId) (g : HeadId) :
    (s.addUseOf i).head g = s.head g := State.head_of_only (s.addUseOf_only i) (by decide) g

@[simp] theorem State.head_dropUseOf (s : State) (i : Option LibId) (g : HeadId) :
    (s.dropUseOf i).head g = s.head g := State.head_of_only (s.dropUseOf_only i) (by decide) g

@[simp] theorem State.head_addSceneUses (s : State) (sc : Scene) (g : HeadId) :
    (s.addSceneUses sc).head g = s.head g := State.head_of_only (s.addSceneUses_only sc) (by decide) g

@[simp] theorem State.head_dropSceneUses (s : State) (sc : Scene) (g : HeadId) :
    (s.dropSceneUses sc).head g = s.head g := State.head_of_only (s.dropSceneUses_only sc) (by decide) g

@[simp] theorem State.head_raiseFreeRun (s : State) (h : HeadId) (f : FollowState) (g : HeadId) :
    (s.raiseFreeRun h f).head g = s.head g := State.head_of_only (s.raiseFreeRun_only h f) (by decide) g

@[simp] theorem State.head_setLoader (s : State) (l : Loader) (g : HeadId) :
    ({ s with loader := l } : State).head g = s.head g := rfl

@[simp] theorem State.head_abortFill (s : State) (p : PortId) (w : Writer) (g : HeadId) :
    (s.abortFill p w).head g = s.head g := State.head_of_only (s.abortFill_only p w) (by decide) g

/-! ### The other head -/

theorem OtherHeads.refl (h : HeadId) (s : State) : OtherHeads h s s := fun _ _ => rfl

theorem OtherHeads.trans {h : HeadId} {s t u : State} (h₁ : OtherHeads h s t) (h₂ : OtherHeads h t u) :
    OtherHeads h s u := fun g hg => (h₂ g hg).trans (h₁ g hg)

theorem OtherHeads.of_only {l : List Part} {h : HeadId} {s t : State} (ho : OnlyChanges l s t)
    (hl : Part.heads ∉ l) : OtherHeads h s t := fun g _ => State.head_of_only ho hl g

theorem State.modHead_others (s : State) (h : HeadId) (f : Head → Head) : OtherHeads h s (s.modHead h f) :=
  fun _ hg => s.head_modHead_other f hg

theorem OtherHeads.foldl {α : Type} {h : HeadId} (f : State → α → State) (hf : ∀ s a, OtherHeads h s (f s a))
    (as : List α) : ∀ s, OtherHeads h s (as.foldl f s) := by
  induction as with
  | nil => exact fun s => OtherHeads.refl h s
  | cons a as ih => exact fun s => (hf s a).trans (ih (f s a))

/-! ### The selection state -/

@[simp] theorem State.selectionAt_setSelection_same (s : State) (h : HeadId) (p : Position) (v : Selection) :
    (s.setSelection h p v).selectionAt h p = v := by
  simp [State.selectionAt, State.setSelection]

theorem State.selectionAt_setSelection_other (s : State) (h : HeadId) {p q : Position} (v : Selection) (hq : q ≠ p) :
    (s.setSelection h p v).selectionAt h q = s.selectionAt h q := by
  have hv : p.val ≠ q.val := fun e => hq (Fin.ext e.symm)
  simp [State.selectionAt, State.setSelection, Vector.getElem_set_ne, hv]

theorem State.selectionAt_of_head {s t : State} {h : HeadId} (e : t.head h = s.head h) (p : Position) :
    t.selectionAt h p = s.selectionAt h p := by
  unfold State.selectionAt; rw [e]

@[simp] theorem State.selectionAt_takeRef (s : State) (i : SlotId) (h : HeadId) (p : Position) :
    (s.takeRef i).selectionAt h p = s.selectionAt h p := State.selectionAt_of_head (s.head_takeRef i h) p

@[simp] theorem State.selectionAt_releaseOpt (s : State) (i : Option SlotId) (h : HeadId) (p : Position) :
    (s.releaseOpt i).selectionAt h p = s.selectionAt h p := State.selectionAt_of_head (s.head_releaseOpt i h) p

/-- Of head `h` nothing but selection state differs, and the other head is the same. -/
structure OnlySelection (h : HeadId) (s t : State) : Prop where
  same : t.head h = { s.head h with selection := (t.head h).selection }
  others : OtherHeads h s t

theorem OnlySelection.refl (h : HeadId) (s : State) : OnlySelection h s s := ⟨rfl, OtherHeads.refl h s⟩

theorem OnlySelection.trans {h : HeadId} {s t u : State} (h₁ : OnlySelection h s t) (h₂ : OnlySelection h t u) :
    OnlySelection h s u :=
  ⟨by rw [h₂.same, h₁.same], h₁.others.trans h₂.others⟩

theorem OnlySelection.of_only {l : List Part} {h : HeadId} {s t : State} (ho : OnlyChanges l s t)
    (hl : Part.heads ∉ l) : OnlySelection h s t :=
  ⟨by rw [State.head_of_only ho hl h], OtherHeads.of_only ho hl⟩

theorem OnlySelection.foldl {α : Type} {h : HeadId} (f : State → α → State) (hf : ∀ s a, OnlySelection h s (f s a))
    (as : List α) : ∀ s, OnlySelection h s (as.foldl f s) := by
  induction as with
  | nil => exact fun s => OnlySelection.refl h s
  | cons a as ih => exact fun s => (hf s a).trans (ih (f s a))

theorem State.setSelection_selection (s : State) (h : HeadId) (p : Position) (v : Selection) :
    OnlySelection h s (s.setSelection h p v) :=
  ⟨by simp [State.setSelection], s.modHead_others h _⟩

theorem State.takeRef_selection (s : State) (h : HeadId) (i : SlotId) : OnlySelection h s (s.takeRef i) :=
  OnlySelection.of_only (s.takeRef_only i) (by decide)

theorem State.releaseOpt_selection (s : State) (h : HeadId) (i : Option SlotId) :
    OnlySelection h s (s.releaseOpt i) :=
  OnlySelection.of_only (s.releaseOpt_only i) (by decide)

theorem State.swapPosition_selection (h : HeadId) (s : State) (p : Position) :
    OnlySelection h s (State.swapPosition h s p) := by
  unfold State.swapPosition
  split
  · exact OnlySelection.refl h s
  · exact (s.setSelection_selection h p _).trans (State.releaseOpt_selection _ h _)

theorem State.clearPosition_selection (h : HeadId) (s : State) (p : Position) :
    OnlySelection h s (State.clearPosition h s p) :=
  (s.setSelection_selection h p _).trans (State.releaseOpt_selection _ h _)

theorem State.adoptFrame_selection (s : State) (h : HeadId) (p : Position) (i : SlotId) :
    OnlySelection h s (s.adoptFrame h p i) :=
  ((s.takeRef_selection h i).trans (State.setSelection_selection _ h p _)).trans (State.releaseOpt_selection _ h _)

theorem State.giveUpFrame_selection (s : State) (h : HeadId) (p : Position) :
    OnlySelection h s (s.giveUpFrame h p) :=
  (s.setSelection_selection h p _).trans (State.releaseOpt_selection _ h _)

theorem State.repeatFrame_selection (s : State) (h : HeadId) (p : Position) :
    OnlySelection h s (s.repeatFrame h p) := s.setSelection_selection h p _

/-- R99: what a LIVE window that chooses can come to. -/
theorem State.chooseLive_cases (s : State) (h : HeadId) (p : Position) (src : PortId) (policy : Policy)
    (onLoss : OnLoss) : s.chooseLive h p src policy onLoss = s ∨ s.chooseLive h p src policy onLoss = s.giveUpFrame h p ∨
    ((s.selectionAt h p).current.isSome = true ∧ s.chooseLive h p src policy onLoss = s.repeatFrame h p) ∨
    ∃ i ∈ s.candidates src (s.selectionAt h p).lastShown, s.chooseLive h p src policy onLoss = s.adoptFrame h p i := by
  unfold State.chooseLive
  split
  · exact .inr (.inl rfl)
  · split
    · rename_i i hchoose
      have hmem : i ∈ s.candidates src (s.selectionAt h p).lastShown := by
        cases policy with
        | latest => exact List.mem_of_getLast? hchoose
        | paced => exact List.mem_of_head? hchoose
      exact .inr (.inr (.inr ⟨i, hmem, rfl⟩))
    · split
      · rename_i hsome; exact .inr (.inr (.inl ⟨hsome, rfl⟩))
      · exact .inl rfl

/-- R99, R105: what a LIVE window can come to. -/
theorem State.selectLive_cases (s : State) (h : HeadId) (p : Position) (src : PortId) (policy : Policy)
    (onLoss : OnLoss) (freeze : Bool) : s.selectLive h p src policy onLoss freeze = s ∨
    s.selectLive h p src policy onLoss freeze = s.giveUpFrame h p ∨
    ((s.selectionAt h p).current.isSome = true ∧ s.selectLive h p src policy onLoss freeze = s.repeatFrame h p) ∨
    ∃ i ∈ s.candidates src (s.selectionAt h p).lastShown,
      s.selectLive h p src policy onLoss freeze = s.adoptFrame h p i := by
  unfold State.selectLive
  split
  · split
    · rename_i hsome; exact .inr (.inr (.inl ⟨hsome, rfl⟩))
    · exact s.chooseLive_cases h p src .latest onLoss
  · exact s.chooseLive_cases h p src policy onLoss

/-- What the selection of one window can do: leave it as it is, or one of the three outcomes of R97 and R108, a new
frame being one of a ready list's candidates or the frame of a pin. -/
theorem State.selectWindow_cases (s : State) (h : HeadId) (p : Position) (r : WindowRecord) :
    s.selectWindow h p r = s ∨ s.selectWindow h p r = s.giveUpFrame h p ∨
    ((s.selectionAt h p).current.isSome = true ∧ s.selectWindow h p r = s.repeatFrame h p) ∨
    (∃ i src, i ∈ s.candidates src (s.selectionAt h p).lastShown ∧ s.selectWindow h p r = s.adoptFrame h p i) ∨
    ∃ k e, s.pin k = some e ∧ s.selectWindow h p r = s.adoptFrame h p e.slot := by
  unfold State.selectWindow
  split
  · rename_i src policy onLoss _ _ freeze _
    rcases s.selectLive_cases h p src policy onLoss freeze with e | e | e | ⟨i, hi, e⟩
    · exact .inl e
    · exact .inr (.inl e)
    · exact .inr (.inr (.inl e))
    · exact .inr (.inr (.inr (.inl ⟨i, src, hi, e⟩)))
  · unfold State.selectPin
    split
    · exact .inr (.inl rfl)
    · rename_i e he
      split
      · exact .inr (.inl rfl)
      · split
        · exact .inl rfl
        · exact .inr (.inr (.inr (.inr ⟨_, e, he, rfl⟩)))
  · exact .inl rfl
  · exact .inl rfl

theorem State.selectPosition_selection (h : HeadId) (s : State) (p : Position) :
    OnlySelection h s (State.selectPosition h s p) := by
  unfold State.selectPosition
  split
  · rcases s.selectWindow_cases h p _ with e | e | ⟨_, e⟩ | ⟨i, _, _, e⟩ | ⟨_, k, _, e⟩ <;> rw [e]
    · exact OnlySelection.refl h s
    · exact s.giveUpFrame_selection h p
    · exact s.repeatFrame_selection h p
    · exact s.adoptFrame_selection h p i
    · exact s.adoptFrame_selection h p k.slot
  · exact OnlySelection.refl h s

theorem State.selectAll_selection (s : State) (h : HeadId) : OnlySelection h s (s.selectAll h) :=
  OnlySelection.foldl _ (State.selectPosition_selection h) _ s

theorem State.clearSelections_selection (s : State) (h : HeadId) : OnlySelection h s (s.clearSelections h) :=
  OnlySelection.foldl _ (State.clearPosition_selection h) _ s

theorem State.swapPositions_selection (s : State) (h : HeadId) :
    OnlySelection h s (positions.foldl (State.swapPosition h) s) :=
  OnlySelection.foldl _ (State.swapPosition_selection h) _ s

/-! ### The swap -/

theorem State.swap_head (s : State) (h : HeadId) :
    (s.swap h).head h = { s.head h with
      activeScene := (s.head h).pendingScene, selection := ((s.swap h).head h).selection } := by
  have hsel := (s.swapPositions_selection h).same
  simp only [State.swap, State.head_dropSceneUses, State.head_addSceneUses, State.head_modHead_same]
  rw [hsel]

theorem State.swap_others (s : State) (h : HeadId) : OtherHeads h s (s.swap h) := by
  refine (s.swapPositions_selection h).others.trans (OtherHeads.trans ?_ ((OtherHeads.of_only
    (State.addSceneUses_only _ _) (by decide)).trans (OtherHeads.of_only (State.dropSceneUses_only _ _) (by decide))))
  exact State.modHead_others _ h _

theorem State.swapOff_head (s : State) (h : HeadId) :
    (s.swapOff h).head h = { s.head h with
      activeScene := (s.head h).pendingScene, selection := Vector.replicate 12 .cleared } := by
  rw [State.swapOff, State.head_modHead_same, s.swap_head h]

theorem State.swapOff_others (s : State) (h : HeadId) : OtherHeads h s (s.swapOff h) :=
  (s.swap_others h).trans (State.modHead_others _ h _)

theorem State.swapAtBoundary_head (s : State) (h : HeadId) :
    (s.swapAtBoundary h).head h = { s.head h with
      presentPending := false
      activeScene := if (s.head h).presentPending then (s.head h).pendingScene else (s.head h).activeScene
      selection := ((s.swapAtBoundary h).head h).selection } := by
  unfold State.swapAtBoundary
  split
  · simp only [State.head_raise, State.head_modHead_same]
    rw [s.swap_head h]
  · rename_i hno
    have hno' : (s.head h).presentPending = false := Bool.not_eq_true _ ▸ hno
    cases hs : s.head h with
    | mk => simp_all

theorem State.swapAtBoundary_others (s : State) (h : HeadId) : OtherHeads h s (s.swapAtBoundary h) := by
  unfold State.swapAtBoundary
  split
  · exact ((s.swap_others h).trans (State.modHead_others _ h _)).trans
      (OtherHeads.of_only (State.raise_only _ _) (by decide))
  · exact OtherHeads.refl h s

theorem State.presentAtOff_head (s : State) (h : HeadId) :
    (s.presentAtOff h).head h = { s.head h with
      presentPending := false
      activeScene := if (s.head h).presentPending then (s.head h).pendingScene else (s.head h).activeScene
      selection := if (s.head h).presentPending then Vector.replicate 12 .cleared else (s.head h).selection } := by
  unfold State.presentAtOff
  split
  · simp only [State.head_raise, State.head_modHead_same]
    rw [s.swapOff_head h]
  · rename_i hno
    have hno' : (s.head h).presentPending = false := Bool.not_eq_true _ ▸ hno
    cases hs : s.head h with
    | mk => simp_all

theorem State.presentAtOff_others (s : State) (h : HeadId) : OtherHeads h s (s.presentAtOff h) := by
  unfold State.presentAtOff
  split
  · exact ((s.swapOff_others h).trans (State.modHead_others _ h _)).trans
      (OtherHeads.of_only (State.raise_only _ _) (by decide))
  · exact OtherHeads.refl h s

/-! ### Cursor, inserter and rate follow -/

/-- R135: the cursor after the work of a boundary. -/
def Cursor.shown (c : Cursor) : Cursor :=
  match c.back with
  | .loaded sh => { c with front := some sh, back := .empty }
  | .loading _ => c
  | .empty => c

theorem State.cursorBoundary_head (s : State) (h : HeadId) :
    (s.cursorBoundary h).head h = { s.head h with cursor := (s.head h).cursor.shown.latch } := by
  unfold State.cursorBoundary State.swapCursor Cursor.shown
  rw [State.modCursor, State.head_modHead_same]
  split <;> simp [State.modCursor, *]

theorem State.cursorBoundary_others (s : State) (h : HeadId) : OtherHeads h s (s.cursorBoundary h) := by
  refine OtherHeads.trans ?_ (State.modHead_others _ h _)
  unfold State.swapCursor
  split
  · exact ((s.modHead_others h _).trans (OtherHeads.of_only (State.dropUseOf_only _ _) (by decide))).trans
      (OtherHeads.of_only (State.raise_only _ _) (by decide))
  all_goals exact OtherHeads.refl h s

theorem State.ancBoundary_head (s : State) (h : HeadId) :
    (s.ancBoundary h).head h = { s.head h with anc := (s.head h).anc.atBoundary } := by
  unfold State.ancBoundary
  dsimp only
  split <;> simp [State.modAnc]

theorem State.ancBoundary_others (s : State) (h : HeadId) : OtherHeads h s (s.ancBoundary h) := by
  unfold State.ancBoundary
  dsimp only
  split
  · exact (s.modHead_others h _).trans (OtherHeads.of_only (State.raise_only _ _) (by decide))
  · exact s.modHead_others h _

theorem State.takeFollowLoss_head (s : State) (h : HeadId) :
    (s.takeFollowLoss h).head h =
      if (s.head h).follow.loss = .clear then s.head h else { s.head h with follow := (s.head h).follow.freed } := by
  unfold State.takeFollowLoss
  split <;> simp

theorem State.takeFollowLoss_others (s : State) (h : HeadId) : OtherHeads h s (s.takeFollowLoss h) := by
  unfold State.takeFollowLoss
  split
  · exact OtherHeads.refl h s
  · exact (s.modHead_others h _).trans (OtherHeads.of_only (State.raiseFreeRun_only _ _ _) (by decide))

/-- A follow loss comes before the next boundary of a head (R65). -/
def State.lossFirst (s : State) (h : HeadId) : Bool :=
  (s.head h).follow.loss.comesFirst ((s.head h).follow.source.any s.portLocked)

theorem FollowLoss.not_clear_of_comesFirst {l : FollowLoss} {b : Bool} (h : l.comesFirst b = true) : l ≠ .clear := by
  rintro rfl; cases h

theorem State.lossBeforeBoundary_head (s : State) (h : HeadId) :
    (s.lossBeforeBoundary h).head h =
      if s.lossFirst h then { s.head h with follow := (s.head h).follow.freed } else s.head h := by
  unfold State.lossBeforeBoundary State.lossFirst
  split
  · rename_i hfirst
    rw [s.takeFollowLoss_head h, if_neg (FollowLoss.not_clear_of_comesFirst hfirst)]
  · rfl

theorem State.lossBeforeBoundary_others (s : State) (h : HeadId) : OtherHeads h s (s.lossBeforeBoundary h) := by
  unfold State.lossBeforeBoundary
  split
  · exact s.takeFollowLoss_others h
  · exact OtherHeads.refl h s

theorem State.computeFollow_head (s : State) (h : HeadId) (t : Timing) (time : Time) :
    (s.computeFollow h t time).head h =
      match s.followStart h with
      | none => { s.head h with frameLines := some t.totalLines }
      | some start => (s.head h).followedBy t (phaseErrorOf t (s.head h).follow.lead start time) := by
  unfold State.computeFollow
  split
  · rename_i hnone; simp [hnone]
  · rename_i hsome; dsimp only; split <;> simp [hsome]

theorem State.computeFollow_others (s : State) (h : HeadId) (t : Timing) (time : Time) :
    OtherHeads h s (s.computeFollow h t time) := by
  unfold State.computeFollow
  split
  · exact s.modHead_others h _
  · dsimp only
    split
    · exact s.modHead_others h _
    · exact (s.modHead_others h _).trans (OtherHeads.of_only (State.raise_only _ _) (by decide))

theorem State.followBoundary_others (s : State) (h : HeadId) (t : Timing) (time : Time) :
    OtherHeads h s (s.followBoundary h t time) :=
  (s.lossBeforeBoundary_others h).trans (State.computeFollow_others _ h t time)

/-- Rate follow at a boundary changes the frame's lines and the follow settings alone. -/
theorem State.followBoundary_head (s : State) (h : HeadId) (t : Timing) (time : Time) :
    (s.followBoundary h t time).head h = { s.head h with
      frameLines := ((s.followBoundary h t time).head h).frameLines
      follow := ((s.followBoundary h t time).head h).follow } := by
  unfold State.followBoundary
  rw [State.computeFollow_head, State.lossBeforeBoundary_head]
  split <;> split <;> rfl

/-! ### The boundary -/

theorem Cursor.shown_latch_visible (c : Cursor) : c.shown.latch.visible = c.visible := by
  unfold Cursor.latch Cursor.shown
  split <;> split <;> rfl

theorem Cursor.shown_latch_colourA (c : Cursor) : c.shown.latch.colourA = c.colourA := by
  unfold Cursor.latch Cursor.shown
  split <;> split <;> rfl

theorem Cursor.shown_latch_colourB (c : Cursor) : c.shown.latch.colourB = c.colourB := by
  unfold Cursor.latch Cursor.shown
  split <;> split <;> rfl

/-- The state from which the follow work of a boundary starts. -/
theorem State.counted_head (s : State) (h : HeadId) : (s.modHead h Head.counted).head h = (s.head h).counted :=
  s.head_modHead_same h _

/-- A boundary's record of its head, in terms of the rate follow and the selection that it computes. -/
theorem State.boundary_head (s : State) (h : HeadId) (t : Timing) (time : Time) :
    (s.boundary h t time).head h = { s.head h with
      boundaryCount := (s.head h).boundaryCount + 1
      boundaries := (s.head h).boundaries + 1
      presentPending := false
      activeScene := if (s.head h).presentPending then (s.head h).pendingScene else (s.head h).activeScene
      frame := some ⟨decide ((s.head h).state = .muted), (s.head h).background, (s.head h).muteColour,
        (s.head h).cursor.visible, (s.head h).cursor.colourA, (s.head h).cursor.colourB, []⟩
      frameLines := (((s.modHead h Head.counted).followBoundary h t time).head h).frameLines
      follow := (((s.modHead h Head.counted).followBoundary h t time).head h).follow
      selection := ((s.boundary h t time).head h).selection
      cursor := (s.head h).cursor.shown.latch
      anc := (s.head h).anc.atBoundary } := by
  unfold State.boundary
  simp only [State.head_modHead_same, State.ancBoundary_head, State.cursorBoundary_head]
  rw [(State.selectAll_selection _ h).same, State.swapAtBoundary_head, State.followBoundary_head, State.counted_head]
  rw [← Cursor.shown_latch_visible, ← Cursor.shown_latch_colourA, ← Cursor.shown_latch_colourB]
  rfl

theorem State.boundary_others (s : State) (h : HeadId) (t : Timing) (time : Time) :
    OtherHeads h s (s.boundary h t time) :=
  ((((((s.modHead_others h _).trans (State.followBoundary_others _ h t time)).trans
    (State.swapAtBoundary_others _ h)).trans (State.selectAll_selection _ h).others).trans
    (State.cursorBoundary_others _ h)).trans (State.ancBoundary_others _ h)).trans (State.modHead_others _ h _)

/-! ### HEAD_OFF and the follow settings -/

theorem State.cancelShapes_head (s : State) (h : HeadId) :
    (s.cancelShapes h).head h =
      { s.head h with cursor := { (s.head h).cursor with back := .empty, waiting := none } } := by
  simp [State.cancelShapes, State.modCursor]

theorem State.cancelShapes_others (s : State) (h : HeadId) : OtherHeads h s (s.cancelShapes h) :=
  fun g hg => by simp [State.cancelShapes, State.modCursor, hg]

theorem State.stopFollow_head (s : State) (h : HeadId) :
    (s.stopFollow h).head h =
      { s.head h with follow := { (s.head h).follow.freed with phaseError := none } } := by
  simp [State.stopFollow]

theorem State.stopFollow_others (s : State) (h : HeadId) : OtherHeads h s (s.stopFollow h) :=
  (s.modHead_others h _).trans (OtherHeads.of_only (State.raiseFreeRun_only _ _ _) (by decide))

theorem State.stopAnc_head (s : State) (h : HeadId) :
    (s.stopAnc h).head h = { s.head h with anc := { (s.head h).anc with queue := [], contents := none } } := by
  simp [State.stopAnc, State.modAnc]

theorem State.stopAnc_others (s : State) (h : HeadId) : OtherHeads h s (s.stopAnc h) := s.modHead_others h _

theorem State.setFollow_head (s : State) (h : HeadId) (source : Option PortId) (w l : Nat) :
    (s.setFollow h source w l).head h =
      { s.head h with follow := (s.head h).follow.configured source w l } := by
  unfold State.setFollow
  dsimp only
  split <;> simp

theorem State.setFollow_others (s : State) (h : HeadId) (source : Option PortId) (w l : Nat) :
    OtherHeads h s (s.setFollow h source w l) := by
  unfold State.setFollow
  dsimp only
  split
  · exact s.modHead_others h _
  · exact (s.modHead_others h _).trans (OtherHeads.of_only (State.raiseFreeRun_only _ _ _) (by decide))

end Sys2Proof.Machine
end

section
/-! What each operation on a capture port does to the record of that port, and what a port event does to the heads. -/
namespace Sys2Proof.Machine

/-! ### The writer's side of a port -/

/-- Of every port nothing but the writer, the starved flag and the counters differs. -/
def OnlyWriter (s t : State) : Prop := ∀ p, t.port p = { s.port p with
  writer := (t.port p).writer, starved := (t.port p).starved, counters := (t.port p).counters }

theorem OnlyWriter.refl (s : State) : OnlyWriter s s := fun _ => rfl

theorem OnlyWriter.trans {s t u : State} (h₁ : OnlyWriter s t) (h₂ : OnlyWriter t u) : OnlyWriter s u :=
  fun p => by rw [h₂ p, h₁ p]

theorem OnlyWriter.of_only {l : List Part} {s t : State} (h : OnlyChanges l s t) (hl : Part.ports ∉ l) :
    OnlyWriter s t := fun p => by rw [State.port_of_only h hl p]

theorem OnlyWriter.modPort (s : State) (p : PortId) (f : Port → Port)
    (hf : ∀ q, f q = { q with writer := (f q).writer, starved := (f q).starved, counters := (f q).counters }) :
    OnlyWriter s (s.modPort p f) := by
  intro q
  by_cases hq : q = p
  · subst hq; rw [State.port_modPort_same]; exact hf _
  · rw [State.port_modPort_other _ _ hq]

theorem State.countPort_writer (s : State) (p : PortId) (f : PortCounters → PortCounters) :
    OnlyWriter s (s.countPort p f) := .modPort s p _ fun _ => rfl

theorem State.countDrop_writer (s : State) (p : PortId) (i : SlotId) : OnlyWriter s (s.countDrop p i) := by
  unfold State.countDrop
  split
  · split
    · exact .refl s
    · exact s.countPort_writer p _
  · exact .refl s

theorem State.evictOldest_writer (s : State) (p : PortId) : OnlyWriter s (s.evictOldest p) := by
  unfold State.evictOldest
  split
  · exact .refl s
  · exact ((s.countDrop_writer p _).trans (.of_only (State.setReady_only _ _ _) (by decide))).trans
      (.of_only (State.retireSlot_only _ _) (by decide))

theorem State.evict_writer (n : Nat) (p : PortId) : ∀ s, OnlyWriter s (State.evict n p s) := by
  induction n with
  | zero => exact fun s => .refl s
  | succ n ih => exact fun s => (s.evictOldest_writer p).trans (ih _)

theorem State.evictSurplus_writer (s : State) (p : PortId) : OnlyWriter s (s.evictSurplus p) :=
  State.evict_writer _ p s

theorem State.grant_writer (s : State) (p : PortId) (g : Geometry) (n : FrameNumber) (i : SlotId) :
    OnlyWriter s (s.grant p g n i) := by
  unfold State.grant
  dsimp only
  have hslot : OnlyWriter s (s.setSlot i (.filling p g)) := .of_only (s.setSlot_only _ _) (by decide)
  split
  · exact (hslot.trans (.modPort _ p _ fun _ => rfl)).trans (.of_only (State.raise_only _ _) (by decide))
  · exact hslot

theorem State.skip_writer (s : State) (p : PortId) (n : FrameNumber) : OnlyWriter s (s.skip p n) := by
  unfold State.skip
  dsimp only
  split
  · exact s.countPort_writer p _
  · exact ((s.countPort_writer p _).trans (.modPort _ p _ fun _ => rfl)).trans
      (.of_only (State.raise_only _ _) (by decide))

theorem State.claim_writer (s : State) (p : PortId) (g : Geometry) (n : FrameNumber) :
    OnlyWriter s (s.claim p g n).2 := by
  unfold State.claim
  split
  · exact (OnlyWriter.of_only (s.setFreeList_only _) (by decide)).trans (State.grant_writer _ _ _ _ _)
  · split
    · exact (((s.countDrop_writer p _).trans (State.countPort_writer _ p _)).trans
        (.of_only (State.setReady_only _ _ _) (by decide))).trans (State.grant_writer _ _ _ _ _)
    · exact s.skip_writer p n

theorem State.complete_writer (s : State) (p : PortId) (i : SlotId) (n : FrameNumber) :
    OnlyWriter s (s.complete p i n) := by
  unfold State.complete
  split
  · exact (((OnlyWriter.of_only (s.setSlot_only _ _) (by decide)).trans
      (.of_only (State.setReady_only _ _ _) (by decide))).trans (State.countPort_writer _ p _)).trans
      (State.evictSurplus_writer _ p)
  all_goals exact .refl s

theorem State.abortFill_writer (s : State) (p : PortId) (w : Writer) : OnlyWriter s (s.abortFill p w) := by
  unfold State.abortFill
  split
  · exact ((OnlyWriter.of_only (s.freeSlot_only _) (by decide)).trans (State.countPort_writer _ p _)).trans
      (.modPort _ p _ fun _ => rfl)
  all_goals exact .refl s

theorem State.claimFor_writer (s : State) (p : PortId) (m : Measurement) : OnlyWriter s (s.claimFor p m) := by
  unfold State.claimFor
  have h := s.claim_writer p m.geometry (s.port p).frameNumber
  split
  · rename_i e
    rw [e] at h
    exact h.trans (.modPort _ p _ fun _ => rfl)
  · rename_i e
    rw [e] at h
    exact h

theorem State.restart_writer (s : State) (p : PortId) (m : Measurement) (i : SlotId) :
    OnlyWriter s (s.restart p m i) :=
  ((OnlyWriter.of_only (s.setSlot_only _ _) (by decide)).trans (State.countPort_writer _ p _)).trans
    (.modPort _ p _ fun _ => rfl)

theorem State.offerToWriter_writer (s : State) (p : PortId) (m : Measurement) (b : Bool) :
    OnlyWriter s (s.offerToWriter p m b) := by
  unfold State.offerToWriter
  split
  · exact .refl s
  · split
    · exact s.claimFor_writer p m
    · exact .refl s
  · split
    · exact s.restart_writer p m _
    · split
      · exact .modPort s p _ fun _ => rfl
      · exact .refl s

theorem State.completeFill_writer (s : State) (p : PortId) (i : SlotId) (n : FrameNumber) :
    OnlyWriter s (s.completeFill p i n) := (s.complete_writer p i n).trans (.modPort _ p _ fun _ => rfl)

theorem State.takeFillEnd_writer (s : State) (p : PortId) (px : List Byte) : OnlyWriter s (s.takeFillEnd p px) := by
  have hwrite : ∀ i stage, OnlyWriter s (s.writePixels i stage px) :=
    fun i stage => .of_only (s.writePixels_only i stage px) (by decide)
  unfold State.takeFillEnd
  split
  · exact (hwrite _ _).trans (State.completeFill_writer _ p _ _)
  · exact (hwrite _ _).trans (.modPort _ p _ fun _ => rfl)
  · exact (hwrite _ _).trans (State.completeFill_writer _ p _ _)
  all_goals exact .refl s

theorem State.captureOn_writer (s : State) (p : PortId) : OnlyWriter s (s.captureOn p) := by
  unfold State.captureOn
  split
  · exact .modPort s p _ fun _ => rfl
  all_goals exact .refl s

theorem State.captureOff_writer (s : State) (p : PortId) : OnlyWriter s (s.captureOff p) := by
  unfold State.captureOff
  split
  · exact .refl s
  · exact .modPort s p _ fun _ => rfl
  · exact s.abortFill_writer p _

theorem State.flush_writer (s : State) (p : PortId) : OnlyWriter s (s.flush p) :=
  .of_only (s.flush_only p) (by decide)

/-! ### Leaving LOCKED -/

theorem State.leaveLocked_head (s : State) (p : PortId) (start : Option Time) (h : HeadId) :
    (s.leaveLocked p start).head h = followLossArises p start (s.head h) := by
  unfold State.leaveLocked
  match h with
  | 0 => rw [State.head_modHead_other _ _ (by decide), State.head_modHead_same, State.head_abortFill]
  | 1 => rw [State.head_modHead_same, State.head_modHead_other _ _ (by decide), State.head_abortFill]

theorem State.leaveLocked_writer (s : State) (p : PortId) (start : Option Time) :
    OnlyWriter s (s.leaveLocked p start) :=
  ((s.abortFill_writer p _).trans (.of_only (State.modHead_only _ _ _) (by decide))).trans
    (.of_only (State.modHead_only _ _ _) (by decide))

/-- What a measured start makes of the state, but for what follows on leaving LOCKED. -/
def State.measuredPort (s : State) (p : PortId) (level : FieldLevel) (m : Measurement) (time : Time) : State :=
  if ((s.port p).detector.measured m).state = (s.port p).detector.state then
    s.modPort p fun q => q.afterMeasure level m time
  else (s.modPort p fun q => q.afterMeasure level m time).raise (.inputState p ((s.port p).detector.measured m).state
    (some (noticeMeasurement ((s.port p).detector.measured m) m)))

theorem State.measuredStart_eq (s : State) (p : PortId) (level : FieldLevel) (m : Measurement) (time : Time) :
    s.measuredStart p level m time =
      if ((s.port p).detector.isLocked && !((s.port p).detector.measured m).isLocked) = true then
        (s.measuredPort p level m time).leaveLocked p (s.port p).usableStart
      else s.measuredPort p level m time := by
  unfold State.measuredStart State.measuredPort
  simp only [State.port_modPort_same, Port.afterMeasure]

theorem State.measuredPort_head (s : State) (p : PortId) (level : FieldLevel) (m : Measurement) (time : Time)
    (h : HeadId) : (s.measuredPort p level m time).head h = s.head h := by
  unfold State.measuredPort
  split <;> rfl

theorem State.measuredPort_port (s : State) (p : PortId) (level : FieldLevel) (m : Measurement) (time : Time) :
    (s.measuredPort p level m time).port p = (s.port p).afterMeasure level m time := by
  unfold State.measuredPort
  split <;> simp

theorem State.measuredPort_other (s : State) {p q : PortId} (level : FieldLevel) (m : Measurement) (time : Time)
    (hq : q ≠ p) : (s.measuredPort p level m time).port q = s.port q := by
  unfold State.measuredPort
  split <;> simp [hq]

theorem State.measuredStart_head (s : State) (p : PortId) (level : FieldLevel) (m : Measurement) (time : Time)
    (h : HeadId) : (s.measuredStart p level m time).head h =
      if ((s.port p).detector.isLocked && !((s.port p).detector.measured m).isLocked) = true then
        followLossArises p (s.port p).usableStart (s.head h)
      else s.head h := by
  rw [s.measuredStart_eq]
  split
  · rw [State.leaveLocked_head, State.measuredPort_head]
  · exact State.measuredPort_head ..

/-- But for the writer's side, the port of a measured start is `afterMeasure`. -/
theorem State.measuredStart_port (s : State) (p : PortId) (level : FieldLevel) (m : Measurement) (time : Time) :
    OnlyWriter (s.measuredPort p level m time) (s.measuredStart p level m time) := by
  rw [s.measuredStart_eq]
  split
  · exact State.leaveLocked_writer _ p _
  · exact .refl _

theorem State.measuredStart_detector (s : State) (p : PortId) (level : FieldLevel) (m : Measurement) (time : Time) :
    ((s.measuredStart p level m time).port p).detector = (s.port p).detector.measured m := by
  rw [s.measuredStart_port p level m time p, State.measuredPort_port]
  rfl

/-- A start in another state than NO_SIGNAL, in terms of the locked measurement that it leaves. -/
theorem State.takeStart_eq (s : State) (p : PortId) (level : FieldLevel) (w : Option Nat) (n : Nat) (time : Time) :
    s.takeStart p level w n time =
      if (s.port p).detector = .noSignal then s.firstStart p level time
      else match ((s.port p).detector.measured ((s.port p).measure level w n time)).lockedMeasurement with
        | some m => (s.measuredStart p level ((s.port p).measure level w n time) time).lockedStart p m level time
        | none => s.measuredStart p level ((s.port p).measure level w n time) time := by
  unfold State.takeStart
  split
  · rename_i e; rw [if_pos e]
  all_goals
    rename_i e
    rw [if_neg (by rw [e]; simp)]
    simp only [State.measuredStart_detector] <;> rfl

theorem State.lockedStart_head (s : State) (p : PortId) (m : Measurement) (l : FieldLevel) (time : Time) (h : HeadId) :
    (s.lockedStart p m l time).head h = s.head h :=
  State.head_of_only (s.lockedStart_only p m l time) (by decide) h

/-- What a start does to a head: a follow loss arises, when the detector leaves LOCKED. -/
theorem State.takeStart_head (s : State) (p : PortId) (level : FieldLevel) (w : Option Nat) (n : Nat) (time : Time)
    (h : HeadId) : (s.takeStart p level w n time).head h =
      if ((s.port p).detector.isLocked &&
          !((s.port p).detector.measured ((s.port p).measure level w n time)).isLocked) = true then
        followLossArises p (s.port p).usableStart (s.head h)
      else s.head h := by
  rw [s.takeStart_eq]
  split
  · rename_i e
    have hfirst : (s.firstStart p level time).head h = s.head h :=
      State.head_of_only (s.firstStart_only p level time) (by decide) h
    rw [hfirst, if_neg]
    rw [e]
    simp [Detector.isLocked, Detector.lockedMeasurement]
  · split
    · rw [State.lockedStart_head, State.measuredStart_head]
    · exact State.measuredStart_head ..

theorem State.loseSignal_head (s : State) (p : PortId) (h : HeadId) :
    (s.loseSignal p).head h = if (s.port p).detector.isLocked then
      followLossArises p (s.port p).usableStart (s.head h) else s.head h := by
  unfold State.loseSignal
  dsimp only
  split
  · rw [State.leaveLocked_head]; rfl
  · rfl

theorem State.loseSignal_writer (s : State) (p : PortId) :
    OnlyWriter (s.modPort p Port.loseSignal) (s.loseSignal p) := by
  unfold State.loseSignal
  dsimp only
  have hraise : OnlyWriter (s.modPort p Port.loseSignal)
      ((s.modPort p Port.loseSignal).raise (.inputState p .noSignal none)) :=
    .of_only (State.raise_only _ _) (by decide)
  split
  · exact hraise.trans (State.leaveLocked_writer _ p _)
  · exact hraise

theorem Port.lossTimerRunning_of_isLocked {q : Port} (h : q.detector.isLocked = true) :
    q.lossTimerRunning = true := by
  unfold Port.lossTimerRunning
  cases hd : q.detector <;> simp [hd, Detector.isLocked, Detector.lockedMeasurement, Detector.state] at h ⊢

theorem State.resetDetector_head (s : State) (p : PortId) (h : HeadId) :
    (s.resetDetector p).head h = if (s.port p).detector.isLocked then
      followLossArises p (s.port p).usableStart (s.head h) else s.head h := by
  unfold State.resetDetector
  dsimp only
  rw [State.head_modPort]
  split
  · exact s.loseSignal_head p h
  · rename_i hstopped
    rw [if_neg fun hlocked => hstopped (Port.lossTimerRunning_of_isLocked hlocked)]
    rfl

theorem State.resetDetector_writer (s : State) (p : PortId) :
    OnlyWriter (s.modPort p fun q => { q.loseSignal with latest := none }) (s.resetDetector p) := by
  have hmod : ∀ {a b : State}, OnlyWriter a b → OnlyWriter (a.modPort p fun q => { q with latest := none })
      (b.modPort p fun q => { q with latest := none }) := by
    intro a b hab q
    by_cases hq : q = p
    · subst hq; simp only [State.port_modPort_same]; rw [hab q]
    · simp only [State.port_modPort_other _ _ hq]; exact hab q
  have hcompose : (s.modPort p fun q => { q.loseSignal with latest := none }) =
      (s.modPort p Port.loseSignal).modPort p fun q => { q with latest := none } := by
    simp [State.modPort, State.port]
  rw [hcompose]
  unfold State.resetDetector
  dsimp only
  split
  · exact hmod (s.loseSignal_writer p)
  · exact .refl _

/-- Ending the fill and flushing the list, PORT_RESET's first steps, leave the detector to its last step. -/
theorem State.resetPort_head (s : State) (p : PortId) (h : HeadId) :
    (s.resetPort p).head h = if (s.port p).detector.isLocked then
      followLossArises p (s.port p).usableStart (s.head h) else s.head h := by
  have hwriter := ((s.captureOff_writer p).trans (State.flush_writer _ p)) p
  have hhead : ((s.captureOff p).flush p).head h = s.head h :=
    (State.head_of_only (State.flush_only _ p) (by decide) h).trans
      (State.head_of_only (s.captureOff_only p) (by decide) h)
  unfold State.resetPort
  rw [State.head_modPort, State.resetDetector_head, hhead, hwriter]
  rfl

end Sys2Proof.Machine
end

section
/-! The invariants of the heads, of rate follow, and of the blocks outside the ready state. -/
namespace Sys2Proof.Machine

/-! ### Outside the ready state every block is at reset -/

theorem Effect.blocksOk {s t : State} (h : Effect s t) (hs : BlocksOk s) : BlocksOk t := by
  intro hphase
  cases h with
  | linkAndNotices h =>
    have hdevice : t.device = s.device := h .device (by decide)
    obtain ⟨hpool, hports, hheads, hlibrary, hloader⟩ := hs (hdevice ▸ hphase)
    exact ⟨(h .pool (by decide)).trans hpool, (h .ports (by decide)).trans hports,
      (h .heads (by decide)).trans hheads, (h .library (by decide)).trans hlibrary,
      (h .loader (by decide)).trans hloader⟩
  | deviceReset phase cause straps _ h => subst h; exact ⟨rfl, rfl, rfl, rfl, rfl⟩
  | startUp failing hstarting h =>
    subst h
    exact hs (by rw [hstarting]; decide)
  | blocks u v hready hu hc hv =>
    have hdevice : t.device = u.device := (hv .device (by decide)).trans (hc.only .device (by decide))
    exact absurd (hdevice ▸ hready) hphase

/-! ### The heads -/

/-- The part of `HeadOk` that rate follow and its frame lines take part in. -/
theorem HeadOk.withFollow {hd : Head} {f : Follow} {n : Option Nat} (h : HeadOk hd) (hon : hd.state ≠ .off)
    (hlines : ∀ k ∈ n, ∀ t ∈ hd.timing, t.activeLines + 8 ≤ k ∧ k ≤ 2048) (hwindow : f.window ≤ 64)
    (hlead : f.lead ≤ 255) (hrun : f.runCount < 8) : HeadOk { hd with follow := f, frameLines := n } := by
  obtain ⟨htiming, hsome, _, _, _, _, _, hqueue, hline, hline', hmark, hscenes⟩ := h
  exact ⟨htiming, hsome, fun hoff => absurd hoff hon, hlines, hwindow, hlead, hrun, hqueue, hline, hline', hmark,
    hscenes⟩

theorem HeadOk.withAnc {hd : Head} {a : Ancillary} (h : HeadOk hd)
    (hcontents : hd.state = .off → a.contents = none) (hqueue : a.queue.length ≤ Config.maxPairs)
    (hline : 1 ≤ a.line ∧ a.line ≤ 8) (hmark : a.lowMark ≤ 31) : HeadOk { hd with anc := a } := by
  obtain ⟨htiming, hsome, hoff, hlines, hwindow, hlead, hrun, _, _, _, _, hscenes⟩ := h
  refine ⟨htiming, hsome, fun e => ?_, hlines, hwindow, hlead, hrun, hqueue, hline.1, hline.2, hmark, hscenes⟩
  obtain ⟨h₁, h₂, h₃, h₄, h₅, h₆, _⟩ := hoff e
  exact ⟨h₁, h₂, h₃, h₄, h₅, h₆, hcontents e⟩

theorem HeadOk.withScenes {hd : Head} {new active : Scene} (h : HeadOk hd)
    (hnew : ∀ p : Position, ∀ r ∈ new[p], r.inRange = true)
    (hactive : ∀ p : Position, ∀ r ∈ active[p], r.inRange = true) :
    HeadOk { hd with pendingScene := new, activeScene := active } := by
  obtain ⟨htiming, hsome, hoff, hlines, hwindow, hlead, hrun, hqueue, hline, hline', hmark, _⟩ := h
  exact ⟨htiming, hsome, hoff, hlines, hwindow, hlead, hrun, hqueue, hline, hline', hmark,
    fun p => ⟨hnew p, hactive p⟩⟩

theorem HeadOk.pending_inRange {hd : Head} (h : HeadOk hd) (p : Position) : ∀ r ∈ hd.pendingScene[p], r.inRange = true := by
  obtain ⟨_, _, _, _, _, _, _, _, _, _, _, hscenes⟩ := h
  exact (hscenes p).1

theorem HeadOk.active_inRange {hd : Head} (h : HeadOk hd) (p : Position) : ∀ r ∈ hd.activeScene[p], r.inRange = true := by
  obtain ⟨_, _, _, _, _, _, _, _, _, _, _, hscenes⟩ := h
  exact (hscenes p).2

theorem HeadOk.window_lead_run {hd : Head} (h : HeadOk hd) :
    hd.follow.window ≤ 64 ∧ hd.follow.lead ≤ 255 ∧ hd.follow.runCount < 8 := by
  obtain ⟨_, _, _, _, hwindow, hlead, hrun, _⟩ := h
  exact ⟨hwindow, hlead, hrun⟩

theorem HeadOk.anc_bounds {hd : Head} (h : HeadOk hd) :
    hd.anc.queue.length ≤ Config.maxPairs ∧ (1 ≤ hd.anc.line ∧ hd.anc.line ≤ 8) ∧ hd.anc.lowMark ≤ 31 := by
  obtain ⟨_, _, _, _, _, _, _, hqueue, hline, hline', hmark, _⟩ := h
  exact ⟨hqueue, ⟨hline, hline'⟩, hmark⟩

theorem HeadOk.contents_of_off {hd : Head} (h : HeadOk hd) (hoff : hd.state = .off) : hd.anc.contents = none := by
  obtain ⟨_, _, h, _⟩ := h
  obtain ⟨_, _, _, _, _, _, hcontents⟩ := h hoff
  exact hcontents

theorem followLossArises_headOk {p : PortId} {start : Option Time} {hd : Head} (h : HeadOk hd) :
    HeadOk (followLossArises p start hd) := by
  unfold followLossArises
  split <;> exact h

/-- The follow state and run count after an error keep the run count below 8 and leave FREE_RUN. -/
theorem followAfter_spec (st : FollowState) (run : Nat) (e : Int) :
    (followAfter st run e).1 ≠ .freeRun ∧ (followAfter st run e).2 < 8 := by
  unfold followAfter
  split <;> (try split) <;> simp_all

theorem followedLines_range {t : Timing} (h : t.inRange = true) (window : Nat) (e : Int) :
    t.activeLines + 8 ≤ followedLines t window e ∧ followedLines t window e ≤ 2048 := by
  simp only [Timing.inRange, Bool.and_eq_true, decide_eq_true_eq] at h
  unfold followedLines
  dsimp only
  omega

theorem Timing.totalLines_range {t : Timing} (h : t.inRange = true) :
    t.activeLines + 8 ≤ t.totalLines ∧ t.totalLines ≤ 2048 := by
  simp only [Timing.inRange, Bool.and_eq_true, decide_eq_true_eq] at h
  omega

theorem Follow.freed_bounds {f : Follow} (h : f.window ≤ 64 ∧ f.lead ≤ 255) :
    f.freed.window ≤ 64 ∧ f.freed.lead ≤ 255 ∧ f.freed.runCount < 8 := ⟨h.1, h.2, Nat.zero_lt_succ 7⟩

/-- A boundary keeps the follow settings of its head in range, and begins a frame of a legal number of lines. -/
theorem State.followBoundary_ranges {s : State} {h : HeadId} {t : Timing} (ok : HeadOk (s.head h))
    (ht : (s.head h).timing = some t) (time : Time) :
    let hd := (s.followBoundary h t time).head h
    (hd.follow.window ≤ 64 ∧ hd.follow.lead ≤ 255 ∧ hd.follow.runCount < 8) ∧
    ∀ n ∈ hd.frameLines, t.activeLines + 8 ≤ n ∧ n ≤ 2048 := by
  have hrange : t.inRange = true := ok.1 t ht
  have hbounds := ok.window_lead_run
  have hbefore : ((s.lossBeforeBoundary h).head h).follow.window ≤ 64 ∧
      ((s.lossBeforeBoundary h).head h).follow.lead ≤ 255 ∧ ((s.lossBeforeBoundary h).head h).follow.runCount < 8 := by
    rw [s.lossBeforeBoundary_head h]
    split
    · exact Follow.freed_bounds ⟨hbounds.1, hbounds.2.1⟩
    · exact hbounds
  dsimp only [State.followBoundary]
  rw [State.computeFollow_head]
  split
  · exact ⟨hbefore, fun n hn => by cases hn; exact Timing.totalLines_range hrange⟩
  · refine ⟨⟨hbefore.1, hbefore.2.1, (followAfter_spec _ _ _).2⟩, fun n hn => ?_⟩
    cases hn
    exact followedLines_range hrange _ _

theorem Ancillary.atBoundary_bounds (a : Ancillary) :
    a.atBoundary.queue.length ≤ a.queue.length ∧ a.atBoundary.line = a.line ∧ a.atBoundary.lowMark = a.lowMark := by
  unfold Ancillary.atBoundary
  split
  · split
    · rename_i e; simp [e]
    · simp
  · simp

theorem boundary_headOk {s : State} {h : HeadId} {t : Timing} (ok : HeadOk (s.head h))
    (hon : (s.head h).state ≠ .off) (ht : (s.head h).timing = some t) (time : Time) :
    HeadOk ((s.boundary h t time).head h) := by
  have hcounted : (s.modHead h Head.counted).head h = (s.head h).counted := s.counted_head h
  have hranges := State.followBoundary_ranges (s := s.modHead h Head.counted) (h := h) (t := t)
    (by rw [hcounted]; exact ok) (by rw [hcounted]; exact ht) time
  obtain ⟨⟨hwindow, hlead, hrun⟩, hlines⟩ := hranges
  obtain ⟨hqueue, hline, hmark⟩ := ok.anc_bounds
  obtain ⟨hlength, hline', hmark'⟩ := (s.head h).anc.atBoundary_bounds
  rw [s.boundary_head h t time]
  have hfollow := ok.withFollow hon (fun n hn t' ht' => by
    rw [ht] at ht'; cases ht'; exact hlines n hn) hwindow hlead hrun
  have hanc := hfollow.withAnc (a := (s.head h).anc.atBoundary) (fun e => absurd e hon) (hlength.trans hqueue)
    (hline' ▸ hline) (hmark' ▸ hmark)
  have hscenes := hanc.withScenes (new := (s.head h).pendingScene)
    (active := if (s.head h).presentPending then (s.head h).pendingScene else (s.head h).activeScene)
    ok.pending_inRange (by split; exacts [ok.pending_inRange, ok.active_inRange])
  obtain ⟨htiming, hsome, _, h₄⟩ := hscenes
  exact ⟨htiming, hsome, fun e => absurd e hon, h₄⟩

theorem takeBoundary_headsOk {s : State} (h : HeadId) (time : Time) (ok : HeadsOk s) :
    HeadsOk (s.takeBoundary h time) := by
  have hboundary : ∀ t, (s.head h).state ≠ .off → (s.head h).timing = some t → HeadsOk (s.boundary h t time) := by
    intro t hon ht g
    by_cases hg : g = h
    · subst hg; exact boundary_headOk (ok g) hon ht time
    · rw [s.boundary_others h t time g hg]; exact ok g
  unfold State.takeBoundary
  split
  · rename_i hstate ht; exact hboundary _ (by rw [hstate]; decide) ht
  · rename_i hstate ht; exact hboundary _ (by rw [hstate]; decide) ht
  all_goals exact ok

/-- What R56 makes of a head, but for its selection state, cursor and counts, which `HeadOk` does not mention. -/
theorem State.switchOff_head (s : State) (h : HeadId) :
    (s.switchOff h).head h = { s.head h with
      state := .off
      presentPending := false
      frameLines := none
      frame := none
      activeScene := if (s.head h).presentPending then (s.head h).pendingScene else (s.head h).activeScene
      selection := if (s.head h).presentPending then Vector.replicate 12 .cleared
        else ((s.clearSelections h).head h).selection
      cursor := { (s.head h).cursor with back := .empty, waiting := none }
      anc := { (s.head h).anc with queue := [], contents := none }
      follow := { (s.head h).follow.freed with phaseError := none } } := by
  have hclear := (s.clearSelections_selection h).same
  unfold State.switchOff
  rw [State.stopFollow_head, State.stopAnc_head, State.cancelShapes_head, State.presentAtOff_head,
    State.head_modHead_same, hclear]
  cases hpending : (s.head h).presentPending <;> simp [Head.switchedOff, hpending]

theorem State.switchOff_others (s : State) (h : HeadId) : OtherHeads h s (s.switchOff h) := by
  unfold State.switchOff
  have hcleared := (s.clearSelections_selection h).others.trans (State.modHead_others _ h Head.switchedOff)
  exact (((hcleared.trans (State.presentAtOff_others _ h)).trans (State.cancelShapes_others _ h)).trans
    (State.stopAnc_others _ h)).trans (State.stopFollow_others _ h)

theorem switchOff_headOk {s : State} {h : HeadId} (ok : HeadOk (s.head h)) : HeadOk ((s.switchOff h).head h) := by
  obtain ⟨htiming, _, _, _, hwindow, hlead, _, _, hline, hline', hmark, hscenes⟩ := ok
  rw [s.switchOff_head h]
  refine ⟨htiming, fun hon => absurd rfl hon, fun _ => ⟨rfl, rfl, rfl, rfl, rfl, rfl, rfl⟩, nofun, hwindow, hlead,
    Nat.zero_lt_succ 7, Nat.zero_le _, hline, hline', hmark, fun p => ⟨(hscenes p).1, ?_⟩⟩
  dsimp only
  split
  exacts [(hscenes p).1, (hscenes p).2]

theorem setFollow_headOk {hd : Head} {source : Option PortId} {w l : Nat} (ok : HeadOk hd) (hw : w ≤ 64)
    (hl : l ≤ 255) : HeadOk { hd with follow := hd.follow.configured source w l } := by
  obtain ⟨htiming, hsome, hoff, hlines, _, _, hrun, hrest⟩ := ok
  unfold Follow.configured
  split
  · refine ⟨htiming, hsome, fun e => ?_, hlines, hw, hl, Nat.zero_lt_succ 7, hrest⟩
    obtain ⟨h₁, h₂, h₃, _, _, h₆, h₇⟩ := hoff e
    exact ⟨h₁, h₂, h₃, rfl, rfl, h₆, h₇⟩
  · exact ⟨htiming, hsome, hoff, hlines, hw, hl, hrun, hrest⟩

/-- A head that is freed of its follow source. -/
theorem HeadOk.freed {hd : Head} (ok : HeadOk hd) : HeadOk { hd with follow := hd.follow.freed } := by
  obtain ⟨htiming, hsome, hoff, hlines, hw, hl, _, hrest⟩ := ok
  refine ⟨htiming, hsome, fun e => ?_, hlines, hw, hl, Nat.zero_lt_succ 7, hrest⟩
  obtain ⟨h₁, h₂, h₃, _, _, h₆, h₇⟩ := hoff e
  exact ⟨h₁, h₂, h₃, rfl, rfl, h₆, h₇⟩

theorem headsOk_modHead {s : State} (h : HeadId) {f : Head → Head} (ok : HeadsOk s) (hf : HeadOk (f (s.head h))) :
    HeadsOk (s.modHead h f) := by
  intro g
  by_cases hg : g = h
  · subst hg; rw [State.head_modHead_same]; exact hf
  · rw [State.head_modHead_other _ _ hg]; exact ok g

theorem headsOk_of_head {s t : State} (h : HeadId) (ok : HeadsOk s) (hsame : HeadOk (t.head h))
    (hothers : OtherHeads h s t) : HeadsOk t := by
  intro g
  by_cases hg : g = h
  · subst hg; exact hsame
  · rw [hothers g hg]; exact ok g

theorem headsOk_of_only {l : List Part} {s t : State} (h : OnlyChanges l s t) (hl : Part.heads ∉ l) (ok : HeadsOk s) :
    HeadsOk t := fun g => (State.head_of_only h hl g) ▸ ok g

theorem headOn_headOk {hd : Head} (ok : HeadOk hd) (hoff : hd.state = .off) (ht : hd.timing ≠ none) :
    HeadOk hd.switchedOn := by
  obtain ⟨htiming, _, hat, _, hw, hl, _, hrest⟩ := ok
  obtain ⟨_, hlines, _⟩ := hat hoff
  refine ⟨htiming, fun _ => Option.isSome_iff_ne_none.2 ht, (by intro e; cases e), ?_, hw, hl, Nat.zero_lt_succ 7, hrest⟩
  show ∀ n ∈ hd.frameLines, _
  rw [hlines]
  nofun

theorem timing_headOk {hd : Head} {t : Timing} (ok : HeadOk hd) (hrange : t.inRange = true) (hoff : hd.state = .off) :
    HeadOk { hd with timing := some t } := by
  obtain ⟨_, _, hat, _, hrest⟩ := ok
  obtain ⟨_, hlines, _⟩ := hat hoff
  refine ⟨fun t' ht' => by cases ht'; exact hrange, fun _ => rfl, hat, ?_, hrest⟩
  show ∀ n ∈ hd.frameLines, _
  rw [hlines]
  nofun

theorem mute_headOk {hd : Head} (on : Bool) (ok : HeadOk hd) (hon : hd.state ≠ .off) :
    HeadOk { hd with state := if on then .muted else .running } := by
  obtain ⟨htiming, hsome, _, hrest⟩ := ok
  exact ⟨htiming, fun _ => hsome hon, (by intro e; cases on <;> cases e), hrest⟩

theorem present_headOk {hd : Head} (ok : HeadOk hd) (hon : hd.state ≠ .off) :
    HeadOk { hd with presentPending := true } := by
  obtain ⟨htiming, hsome, _, hrest⟩ := ok
  exact ⟨htiming, hsome, fun e => absurd e hon, hrest⟩

/-- A scene with one position changed to a record in range. -/
theorem scene_set_inRange {sc : Scene} {p : Position} {r : Option WindowRecord}
    (hsc : ∀ q : Position, ∀ w ∈ sc[q], w.inRange = true) (hr : ∀ w ∈ r, w.inRange = true) (q : Position) :
    ∀ w ∈ (sc.set p r)[q], w.inRange = true := by
  by_cases hq : p.val = q.val
  · have e : (sc.set p r)[q] = r := by simp [hq]
    rw [e]; exact hr
  · have e : (sc.set p r)[q] = sc[q] := by simp [Vector.getElem_set_ne, hq]
    rw [e]; exact hsc q

theorem allAbsent_getElem (p : Position) : Scene.allAbsent[p] = none := by
  simp [Scene.allAbsent]

theorem State.putPending_head (s : State) (h : HeadId) (p : Position) (r : Option WindowRecord) :
    (s.putPending h p r).head h = { s.head h with pendingScene := (s.head h).pendingScene.set p r } := by
  simp [State.putPending]

theorem State.putPending_others (s : State) (h : HeadId) (p : Position) (r : Option WindowRecord) :
    OtherHeads h s (s.putPending h p r) := fun g hg => by simp [State.putPending, hg]

theorem putPending_headsOk {s : State} (h : HeadId) (p : Position) {r : Option WindowRecord}
    (hr : ∀ w ∈ r, w.inRange = true) (ok : HeadsOk s) : HeadsOk (s.putPending h p r) := by
  refine headsOk_of_head h ok ?_ (s.putPending_others h p r)
  rw [s.putPending_head]
  exact (ok h).withScenes (scene_set_inRange (ok h).pending_inRange hr) (ok h).active_inRange

theorem State.reloadPending_head (s : State) (h : HeadId) (sc : Scene) :
    (s.reloadPending h sc).head h = { s.head h with pendingScene := sc } := by
  simp [State.reloadPending]

theorem State.reloadPending_others (s : State) (h : HeadId) (sc : Scene) :
    OtherHeads h s (s.reloadPending h sc) := fun g hg => by simp [State.reloadPending, hg]

theorem reloadPending_headsOk {s : State} (h : HeadId) (b : Bool) (ok : HeadsOk s) :
    HeadsOk (s.reloadPending h (if b then .allAbsent else (s.head h).activeScene)) := by
  refine headsOk_of_head h ok ?_ (s.reloadPending_others h _)
  rw [s.reloadPending_head]
  refine (ok h).withScenes ?_ (ok h).active_inRange
  cases b
  · exact (ok h).active_inRange
  · intro p w hw
    rw [if_pos rfl, allAbsent_getElem] at hw
    cases hw

theorem State.takeShortfall_head (s : State) (h : HeadId) (l : Nat) (m : List MissedPixel) :
    s.takeShortfall h l m = s ∨ ∃ t d, (s.head h).timing = some t ∧ (s.head h).frame = some d ∧ d.muted = false ∧
      l < t.activeLines ∧ m.filter (s.readsPixel h d l) ≠ [] ∧
      s.takeShortfall h l m = (s.modHead h fun hd => { hd with
        shortfalls := hd.shortfalls + 1
        frame := some { d with missed := d.missed ++ (m.filter (s.readsPixel h d l)).map fun x => (l, x) } }).raise
        (.fetchShortfall h (s.head h).boundaryCount l) := by
  unfold State.takeShortfall
  split
  · rename_i t d ht hd
    dsimp only
    split
    · rename_i hguard
      obtain ⟨hmuted, hline, hhit, _⟩ := hguard
      exact .inr ⟨t, d, ht, hd, hmuted, hline, hhit, rfl⟩
    · exact .inl rfl
  all_goals exact .inl rfl

theorem takeShortfall_headsOk {s : State} (h : HeadId) (l : Nat) (m : List MissedPixel) (ok : HeadsOk s) :
    HeadsOk (s.takeShortfall h l m) := by
  rcases s.takeShortfall_head h l m with e | ⟨t, d, _, hframe, _, _, _, e⟩
  · rw [e]; exact ok
  · rw [e]
    refine headsOk_of_only (State.raise_only _ _) (by decide) (headsOk_modHead h ok ?_)
    obtain ⟨htiming, hsome, hoff, hrest⟩ := ok h
    refine ⟨htiming, hsome, fun e => ?_, hrest⟩
    obtain ⟨_, _, hnone, _⟩ := hoff e
    rw [hnone] at hframe
    cases hframe

theorem swapOff_headsOk {s : State} (h : HeadId) (ok : HeadsOk s) : HeadsOk (s.swapOff h) := by
  refine headsOk_of_head h ok ?_ (s.swapOff_others h)
  rw [s.swapOff_head]
  exact (ok h).withScenes (ok h).pending_inRange (ok h).pending_inRange

theorem takeFollowLoss_headsOk {s : State} (h : HeadId) (ok : HeadsOk s) : HeadsOk (s.takeFollowLoss h) := by
  refine headsOk_of_head h ok ?_ (s.takeFollowLoss_others h)
  rw [s.takeFollowLoss_head]
  split
  exacts [ok h, (ok h).freed]

/-- The shape loader changes of a head its back buffer and its waiting request alone. -/
theorem headsOk_of_cursor {s t : State}
    (h : ∀ g, ∃ c, t.head g = { s.head g with cursor := c }) (ok : HeadsOk s) : HeadsOk t := by
  intro g
  obtain ⟨c, e⟩ := h g
  rw [e]
  exact ok g

theorem State.modCursor_cursor (s : State) (h : HeadId) (f : Cursor → Cursor) (g : HeadId) :
    ∃ c, (s.modCursor h f).head g = { s.head g with cursor := c } := by
  by_cases hg : g = h
  · subst hg; exact ⟨_, s.head_modHead_same g _⟩
  · exact ⟨_, s.head_modHead_other _ hg⟩

theorem State.startJob_cursor (s : State) (g : HeadId) : ∃ c, s.startJob.head g = { s.head g with cursor := c } := by
  unfold State.startJob
  split
  · dsimp only
    split
    · rename_i h i rest _ _ _
      unfold State.beginJob
      simp only [State.head_dropUseOf, State.head_addUse]
      exact State.modCursor_cursor _ h _ g
    · exact ⟨_, rfl⟩
  all_goals exact ⟨_, rfl⟩

theorem State.queueWaiting_cursor (s : State) (h g : HeadId) :
    ∃ c, (s.queueWaiting h).head g = { s.head g with cursor := c } := by
  unfold State.queueWaiting
  split
  · exact ⟨_, rfl⟩
  · exact State.modCursor_cursor _ h _ g

theorem State.finishJob_cursor (s : State) (g : HeadId) : ∃ c, s.finishJob.head g = { s.head g with cursor := c } := by
  unfold State.finishJob
  split
  · exact ⟨_, rfl⟩
  · rename_i h i _
    split
    · exact ⟨_, rfl⟩
    · obtain ⟨c, e⟩ := State.queueWaiting_cursor _ h g
      rw [e]
      obtain ⟨c', e'⟩ := State.modCursor_cursor ({ s with loader := { s.loader with job := none } }) h _ g
      rw [e']
      exact ⟨_, rfl⟩

theorem State.placeShape_cursor (s : State) (h : HeadId) (i : LibId) (g : HeadId) :
    ∃ c, (s.placeShape h i).head g = { s.head g with cursor := c } := by
  unfold State.placeShape
  split
  · exact ⟨_, rfl⟩
  · exact ⟨_, rfl⟩
  · exact s.modCursor_cursor h _ g

theorem headsOk_of_lossArises {s t : State} {p : PortId} {start : Option Time} {b : Bool}
    (h : ∀ g, t.head g = if b then followLossArises p start (s.head g) else s.head g) (ok : HeadsOk s) :
    HeadsOk t := by
  intro g
  rw [h g]
  split
  exacts [followLossArises_headOk (ok g), ok g]

theorem BlockChange.headsOk {s t : State} (h : BlockChange s t) (ok : HeadsOk s) : HeadsOk t := by
  cases h with
  | start p l w n time => exact headsOk_of_lossArises (s.takeStart_head p l w n time) ok
  | loseSignal p _ => exact headsOk_of_lossArises (s.loseSignal_head p) ok
  | resetPort p => exact headsOk_of_lossArises (s.resetPort_head p) ok
  | boundary h time => exact takeBoundary_headsOk h time ok
  | shortfall h l m => exact takeShortfall_headsOk h l m ok
  | followLoss h => exact takeFollowLoss_headsOk h ok
  | startJob => exact headsOk_of_cursor s.startJob_cursor ok
  | finishJob => exact headsOk_of_cursor s.finishJob_cursor ok
  | placeShape h i _ => exact headsOk_of_cursor (s.placeShape_cursor h i) ok
  | cursor h f _ => exact headsOk_of_cursor (s.modCursor_cursor h f) ok
  | timing h t hrange hoff => exact headsOk_modHead h ok (timing_headOk (ok h) hrange hoff)
  | headOn h hoff ht => exact headsOk_modHead h ok (headOn_headOk (ok h) hoff ht)
  | headOff h _ => exact headsOk_of_head h ok (switchOff_headOk (ok h)) (s.switchOff_others h)
  | mute h on hon => exact headsOk_modHead h ok (mute_headOk on (ok h) hon)
  | background h b m => exact headsOk_modHead h ok (ok h)
  | follow h source w l hw hl =>
    refine headsOk_of_head h ok ?_ (s.setFollow_others h source w l)
    rw [s.setFollow_head]
    exact setFollow_headOk (ok h) hw hl
  | put h p r _ _ hrange => exact putPending_headsOk h p (fun w hw => by cases hw; exact hrange) ok
  | remove h p _ => exact putPending_headsOk h p nofun ok
  | restart h b _ => exact reloadPending_headsOk h b ok
  | presentOff h _ _ => exact swapOff_headsOk h ok
  | present h _ hon => exact headsOk_modHead h ok (present_headOk (ok h) hon)
  | ancConfig h _ _ _ _ h₁ h₂ h₃ =>
    exact headsOk_modHead h ok ((ok h).withAnc (ok h).contents_of_off (ok h).anc_bounds.1 ⟨h₁, h₂⟩ h₃)
  | ancPush h pairs hroom =>
    exact headsOk_modHead h ok ((ok h).withAnc (ok h).contents_of_off
      (by rw [List.length_append]; exact hroom) (ok h).anc_bounds.2.1 (ok h).anc_bounds.2.2)
  | ancFlush h =>
    exact headsOk_modHead h ok ((ok h).withAnc (ok h).contents_of_off (Nat.zero_le _) (ok h).anc_bounds.2.1
      (ok h).anc_bounds.2.2)
  | clearHead h => exact headsOk_modHead h ok (ok h)
  | fillEnd p px => exact headsOk_of_only (s.takeFillEnd_only p px) (by decide) ok
  | captureOn p => exact headsOk_of_only (s.captureOn_only p) (by decide) ok
  | captureOff p => exact headsOk_of_only (s.captureOff_only p) (by decide) ok
  | depth p k _ _ => exact headsOk_of_only (State.evictSurplus_only _ p) (by decide) (s := s.modPort p _) ok
  | flush p => exact headsOk_of_only (s.flush_only p) (by decide) ok
  | movePin i p j _ _ => exact headsOk_of_only (s.movePin_only i _) (by decide) ok
  | emptyPin i => exact headsOk_of_only (s.emptyPin_only i) (by decide) ok
  | verified i rest _ => exact headsOk_of_only (s.verified_only i rest) (by decide) ok
  | abandon i => exact headsOk_of_only (s.abandon_only i) (by decide) ok
  | libData i e n bs _ _ =>
    exact headsOk_of_only (t := State.writeBytes (entryAddress e) n bs s)
      (State.writeBytes_only (entryAddress e) bs n s) (by decide) ok
  | libOpen | libClose | libDelete | clearPort => exact ok

/-! ### Rate follow -/

/-- A port that is usable as a follow source (R62). -/
def Port.usable (q : Port) : Prop :=
  q.detector.isLocked = true ∧ q.startedSinceLock = true ∧ q.latestFrameStart.isSome = true

/-- The rate follow of one head in terms of which ports are usable. -/
def Follow.ok (f : Follow) (usable : PortId → Prop) : Prop :=
  (f.state = .freeRun → f.loss = .clear) ∧
  (f.state ≠ .freeRun → f.loss = .clear → ∃ p, f.source = some p ∧ usable p)

theorem followOk_iff {s : State} : FollowOk s ↔ ∀ h, (s.head h).follow.ok fun p => (s.port p).usable := Iff.rfl

theorem Follow.ok.mono {f : Follow} {u v : PortId → Prop} (h : f.ok u) (huv : ∀ p, u p → v p) : f.ok v :=
  ⟨h.1, fun hstate hloss => by
    obtain ⟨p, hsource, hp⟩ := h.2 hstate hloss
    exact ⟨p, hsource, huv p hp⟩⟩

theorem Follow.ok_of_freed (f : Follow) (u : PortId → Prop) (h₁ : f.state = .freeRun) (h₂ : f.loss = .clear) : f.ok u :=
  ⟨fun _ => h₂, fun hstate => absurd h₁ hstate⟩

theorem FollowLoss.arise_ne_clear (l : FollowLoss) (start : Option Time) : l.arise start ≠ .clear := by
  cases l <;> cases start <;> nofun

/-- When a port is no longer usable and the loss has arisen at the heads that follow it, rate follow is as it should
be. -/
theorem followLossArises_ok {p : PortId} {start : Option Time} {hd : Head} {u v : PortId → Prop} (h : hd.follow.ok u)
    (huv : ∀ q, q ≠ p → u q → v q) : (followLossArises p start hd).follow.ok v := by
  unfold followLossArises
  split
  · rename_i hfollows
    exact ⟨fun hfree => absurd hfree hfollows.2, fun _ hclear => absurd hclear (FollowLoss.arise_ne_clear _ _)⟩
  · rename_i hnot
    refine ⟨h.1, fun hstate hclear => ?_⟩
    obtain ⟨q, hsource, hq⟩ := h.2 hstate hclear
    exact ⟨q, hsource, huv q (fun e => hnot ⟨e ▸ hsource, hstate⟩) hq⟩

/-- The detector of port `p` is no longer LOCKED and the losses have arisen, or the port is as usable as it was. -/
theorem followOk_of_lossArises {s t : State} {p : PortId} {start : Option Time} {b : Bool}
    (h : ∀ g, t.head g = if b then followLossArises p start (s.head g) else s.head g)
    (hothers : ∀ q, q ≠ p → (s.port q).usable → (t.port q).usable)
    (hsame : b = false → (s.port p).usable → (t.port p).usable) (ok : FollowOk s) : FollowOk t := by
  rw [followOk_iff] at ok ⊢
  intro g
  rw [h g]
  cases b with
  | true => exact followLossArises_ok (ok g) hothers
  | false =>
    refine (ok g).mono fun q hq => ?_
    by_cases e : q = p
    · subst e; exact hsame rfl hq
    · exact hothers q e hq

theorem OnlyWriter.usable {s t : State} (h : OnlyWriter s t) {p : PortId} (hp : (s.port p).usable) :
    (t.port p).usable := by
  rw [h p]; exact hp

theorem Port.afterMeasure_usable {q : Port} {level : FieldLevel} {m : Measurement} {time : Time} (h : q.usable)
    (hlocked : (q.detector.measured m).isLocked = true) : (q.afterMeasure level m time).usable := by
  obtain ⟨h₁, h₂, h₃⟩ := h
  exact ⟨hlocked, by simp [Port.afterMeasure, h₁, h₂, hlocked], h₃⟩

theorem Port.numbered_usable {q : Port} (time : Time) (h : q.detector.isLocked = true) : (q.numbered time).usable :=
  ⟨h, rfl, rfl⟩

theorem State.lockedStart_usable {s : State} {p : PortId} {m : Measurement} {l : FieldLevel} {time : Time}
    {q : PortId} (h : (s.port q).usable) : ((s.lockedStart p m l time).port q).usable := by
  unfold State.lockedStart
  split
  · refine (State.offerToWriter_writer _ p m true).usable ?_
    by_cases e : q = p
    · subst e; rw [State.port_modPort_same]; exact Port.numbered_usable time h.1
    · rw [State.port_modPort_other _ _ e]; exact h
  · exact (s.offerToWriter_writer p m false).usable h

theorem Detector.isLocked_eq_false {d : Detector} (h : d = .noSignal) : d.isLocked = false := by subst h; rfl

theorem takeStart_followOk {s : State} (p : PortId) (l : FieldLevel) (w : Option Nat) (n : Nat) (time : Time)
    (ok : FollowOk s) : FollowOk (s.takeStart p l w n time) := by
  have hmeasured : ∀ q, (q = p → ((s.port p).detector.measured ((s.port p).measure l w n time)).isLocked = true) →
      (s.port q).usable → ((s.measuredStart p l ((s.port p).measure l w n time) time).port q).usable := by
    intro q hlocked hq
    refine (s.measuredStart_port p l _ time).usable ?_
    by_cases e : q = p
    · subst e; rw [State.measuredPort_port]; exact Port.afterMeasure_usable hq (hlocked rfl)
    · rw [State.measuredPort_other _ _ _ _ e]; exact hq
  have hstart : ∀ q, (q = p → (s.port p).detector.isLocked = true →
      ((s.port p).detector.measured ((s.port p).measure l w n time)).isLocked = true) →
      (s.port q).usable → ((s.takeStart p l w n time).port q).usable := by
    intro q hlocked hq
    rw [s.takeStart_eq]
    split
    · rename_i hno
      by_cases e : q = p
      · subst e
        have hnot := Detector.isLocked_eq_false hno
        rw [hq.1] at hnot
        cases hnot
      · unfold State.firstStart
        rw [State.port_raise, State.port_modPort_other _ _ e]
        exact hq
    · have hq' := hmeasured q (fun e => hlocked e (e ▸ hq.1)) hq
      split
      · exact State.lockedStart_usable hq'
      · exact hq'
  refine followOk_of_lossArises (s.takeStart_head p l w n time) (fun q e => hstart q fun h => absurd h e)
    (fun hb => hstart p fun _ hlocked => ?_) ok
  rw [hlocked] at hb
  simpa using hb

theorem loseSignal_followOk {s : State} (p : PortId) (ok : FollowOk s) : FollowOk (s.loseSignal p) := by
  refine followOk_of_lossArises (s.loseSignal_head p) (fun q e hq => ?_) (fun hb hp => ?_) ok
  · refine (s.loseSignal_writer p).usable ?_
    rw [State.port_modPort_other _ _ e]
    exact hq
  · rw [hp.1] at hb; cases hb

theorem resetPort_followOk {s : State} (p : PortId) (ok : FollowOk s) : FollowOk (s.resetPort p) := by
  refine followOk_of_lossArises (s.resetPort_head p) (fun q e hq => ?_) (fun hb hp => ?_) ok
  · unfold State.resetPort
    rw [State.port_modPort_other _ _ e]
    refine (State.resetDetector_writer _ p).usable ?_
    rw [State.port_modPort_other _ _ e]
    exact ((s.captureOff_writer p).trans (State.flush_writer _ p)).usable hq
  · rw [hp.1] at hb; cases hb

theorem followOk_of_ports {s t : State} (hports : ∀ p, (s.port p).usable → (t.port p).usable)
    (hheads : ∀ h, (t.head h).follow = (s.head h).follow) (ok : FollowOk s) : FollowOk t := by
  rw [followOk_iff] at ok ⊢
  intro g
  rw [hheads g]
  exact (ok g).mono hports

theorem followOk_of_writer {l : List Part} {s t : State} (hwriter : OnlyWriter s t) (h : OnlyChanges l s t)
    (hl : Part.heads ∉ l) (ok : FollowOk s) : FollowOk t :=
  followOk_of_ports (fun _ hp => hwriter.usable hp) (fun g => by rw [State.head_of_only h hl g]) ok

/-- A change of one head's rate follow, with the ports as they were. -/
theorem followOk_of_head {s t : State} (h : HeadId) (hports : ∀ p, t.port p = s.port p) (hothers : OtherHeads h s t)
    (hsame : (s.head h).follow.ok (fun p => (s.port p).usable) → (t.head h).follow.ok fun p => (s.port p).usable)
    (ok : FollowOk s) : FollowOk t := by
  rw [followOk_iff] at ok ⊢
  intro g
  simp only [hports]
  by_cases hg : g = h
  · subst hg; exact hsame (ok g)
  · rw [hothers g hg]; exact ok g

theorem State.usableStart_some {s : State} {source : Option PortId} {start : Time}
    (h : s.usableStart source = some start) : ∃ p, source = some p ∧ (s.port p).usable := by
  unfold State.usableStart at h
  split at h
  · cases h
  · rename_i p
    unfold Port.usableStart at h
    split at h
    · rename_i hlocked
      rw [Bool.and_eq_true] at hlocked
      exact ⟨p, rfl, hlocked.1, hlocked.2, by rw [h]; rfl⟩
    · cases h

/-- The rate follow that a boundary leaves: with an error computed from a usable source it is PULLING or FOLLOWING,
and a loss that is still due is still to be taken. -/
theorem State.followBoundary_ok {s : State} {h : HeadId} {t : Timing} {time : Time}
    (ok : (s.head h).follow.ok fun p => (s.port p).usable) :
    ((s.followBoundary h t time).head h).follow.ok fun p => (s.port p).usable := by
  have hbefore : ((s.lossBeforeBoundary h).head h).follow.ok fun p => (s.port p).usable := by
    rw [s.lossBeforeBoundary_head h]
    split
    · exact Follow.ok_of_freed _ _ rfl rfl
    · exact ok
  have hports : ∀ p, (s.lossBeforeBoundary h).port p = s.port p :=
    State.port_of_only (s.lossBeforeBoundary_only h) (by decide)
  unfold State.followBoundary
  rw [State.computeFollow_head]
  split
  · exact hbefore
  · rename_i start hstart
    refine ⟨fun hfree => absurd hfree (followAfter_spec _ _ _).1, fun _ hclear => ?_⟩
    have hclear' : ((s.lossBeforeBoundary h).head h).follow.loss = .clear := hclear
    unfold State.followStart at hstart
    rw [hclear'] at hstart
    obtain ⟨p, hsource, hp⟩ := State.usableStart_some hstart
    rw [hports p] at hp
    exact ⟨p, hsource, hp⟩

theorem takeBoundary_followOk {s : State} (h : HeadId) (time : Time) (ok : FollowOk s) :
    FollowOk (s.takeBoundary h time) := by
  have hboundary : ∀ t, FollowOk (s.boundary h t time) := fun t =>
    followOk_of_head h (State.port_of_only (s.boundary_only h t time) (by decide)) (s.boundary_others h t time)
      (fun hok => by
        rw [s.boundary_head h t time]
        exact State.followBoundary_ok (s := s.modHead h Head.counted) (by rw [s.counted_head h]; exact hok)) ok
  unfold State.takeBoundary
  split
  · exact hboundary _
  · exact hboundary _
  all_goals exact ok

theorem Follow.configured_ok {f : Follow} {u : PortId → Prop} (h : f.ok u) (source : Option PortId) (w l : Nat) :
    (f.configured source w l).ok u := by
  unfold Follow.configured
  split
  · exact Follow.ok_of_freed _ _ rfl rfl
  · exact h

/-- A change of heads that keeps their rate follow. -/
theorem followOk_of_only {l : List Part} {s t : State} (h : OnlyChanges l s t) (hl : Part.ports ∉ l)
    (hheads : ∀ g, (t.head g).follow = (s.head g).follow) (ok : FollowOk s) : FollowOk t :=
  followOk_of_ports (fun p hp => by rw [State.port_of_only h hl p]; exact hp) hheads ok

theorem follow_of_head {s t : State} {h : HeadId} (hothers : OtherHeads h s t)
    (hsame : (t.head h).follow = (s.head h).follow) (g : HeadId) : (t.head g).follow = (s.head g).follow := by
  by_cases hg : g = h
  · subst hg; exact hsame
  · rw [hothers g hg]

theorem follow_of_cursor {s t : State} {g : HeadId} (h : ∃ c, t.head g = { s.head g with cursor := c }) :
    (t.head g).follow = (s.head g).follow := by
  obtain ⟨c, e⟩ := h
  rw [e]

theorem State.modHead_follow (s : State) (h : HeadId) (f : Head → Head) (hf : ∀ hd, (f hd).follow = hd.follow)
    (g : HeadId) : ((s.modHead h f).head g).follow = (s.head g).follow :=
  follow_of_head (s.modHead_others h f) (by rw [State.head_modHead_same]; exact hf _) g

theorem State.takeShortfall_follow (s : State) (h : HeadId) (l : Nat) (m : List MissedPixel) (g : HeadId) :
    ((s.takeShortfall h l m).head g).follow = (s.head g).follow := by
  rcases s.takeShortfall_head h l m with e | ⟨t, d, _, _, _, _, _, e⟩
  · rw [e]
  · rw [e, State.head_raise]
    exact follow_of_head (s.modHead_others h _) (by rw [State.head_modHead_same]) g

theorem BlockChange.followOk {s t : State} (h : BlockChange s t) (ok : FollowOk s) : FollowOk t := by
  cases h with
  | start p l w n time => exact takeStart_followOk p l w n time ok
  | loseSignal p _ => exact loseSignal_followOk p ok
  | resetPort p => exact resetPort_followOk p ok
  | boundary h time => exact takeBoundary_followOk h time ok
  | shortfall h l m =>
    exact followOk_of_only (s.takeShortfall_only h l m) (by decide) (s.takeShortfall_follow h l m) ok
  | followLoss h =>
    refine followOk_of_head h (State.port_of_only (s.takeFollowLoss_only h) (by decide)) (s.takeFollowLoss_others h)
      (fun hok => ?_) ok
    rw [s.takeFollowLoss_head]
    split
    exacts [hok, Follow.ok_of_freed _ _ rfl rfl]
  | headOn h _ _ =>
    refine followOk_of_head (s := s) h (fun _ => rfl) (s.modHead_others h _) (fun _ => ?_) ok
    rw [State.head_modHead_same]
    exact Follow.ok_of_freed _ _ rfl rfl
  | headOff h _ =>
    refine followOk_of_head h (State.port_of_only (s.switchOff_only h) (by decide)) (s.switchOff_others h)
      (fun _ => ?_) ok
    rw [s.switchOff_head]
    exact Follow.ok_of_freed _ _ rfl rfl
  | follow h source w l _ _ =>
    refine followOk_of_head h (State.port_of_only (s.setFollow_only h source w l) (by decide))
      (s.setFollow_others h source w l) (fun hok => ?_) ok
    rw [s.setFollow_head]
    exact Follow.configured_ok hok source w l
  | startJob => exact followOk_of_only s.startJob_only (by decide) (fun g => follow_of_cursor (s.startJob_cursor g)) ok
  | finishJob =>
    exact followOk_of_only s.finishJob_only (by decide) (fun g => follow_of_cursor (s.finishJob_cursor g)) ok
  | placeShape h i _ =>
    exact followOk_of_only (s.placeShape_only h i) (by decide) (fun g => follow_of_cursor (s.placeShape_cursor h i g)) ok
  | put h p r _ _ _ =>
    exact followOk_of_only (s.putPending_only h p _) (by decide)
      (follow_of_head (s.putPending_others h p _) (by rw [s.putPending_head])) ok
  | remove h p _ =>
    exact followOk_of_only (s.putPending_only h p _) (by decide)
      (follow_of_head (s.putPending_others h p _) (by rw [s.putPending_head])) ok
  | restart h b _ =>
    exact followOk_of_only (s.reloadPending_only h _) (by decide)
      (follow_of_head (s.reloadPending_others h _) (by rw [s.reloadPending_head])) ok
  | presentOff h _ _ =>
    exact followOk_of_only (s.swapOff_only h) (by decide)
      (follow_of_head (s.swapOff_others h) (by rw [s.swapOff_head])) ok
  | timing h | mute h | background h | present h | cursor h | ancConfig h | ancPush h | ancFlush h
  | clearHead h =>
    exact followOk_of_only (s.modHead_only h _) (by decide) (s.modHead_follow h _ fun _ => rfl) ok
  | fillEnd p px => exact followOk_of_writer (s.takeFillEnd_writer p px) (s.takeFillEnd_only p px) (by decide) ok
  | captureOn p => exact followOk_of_writer (s.captureOn_writer p) (s.captureOn_only p) (by decide) ok
  | captureOff p => exact followOk_of_writer (s.captureOff_writer p) (s.captureOff_only p) (by decide) ok
  | clearPort p =>
    exact followOk_of_writer (.modPort s p _ fun _ => rfl) (s.modPort_only p _) (by decide) ok
  | depth p k _ _ =>
    have hdepth : FollowOk (s.modPort p fun q => { q with depth := k }) :=
      followOk_of_ports (s := s) (fun q hq => by
        by_cases e : q = p
        · subst e; rw [State.port_modPort_same]; exact hq
        · rw [State.port_modPort_other _ _ e]; exact hq) (fun _ => rfl) ok
    exact followOk_of_writer (State.evictSurplus_writer _ p) (State.evictSurplus_only _ p) (by decide) hdepth
  | flush p => exact followOk_of_only (s.flush_only p) (by decide) (fun g => by
      rw [State.head_of_only (s.flush_only p) (by decide) g]) ok
  | movePin i p j _ _ => exact followOk_of_only (s.movePin_only i _) (by decide) (fun g => by
      rw [State.head_of_only (s.movePin_only i _) (by decide) g]) ok
  | emptyPin i => exact followOk_of_only (s.emptyPin_only i) (by decide) (fun g => by
      rw [State.head_of_only (s.emptyPin_only i) (by decide) g]) ok
  | verified i rest _ => exact followOk_of_only (s.verified_only i rest) (by decide) (fun g => by
      rw [State.head_of_only (s.verified_only i rest) (by decide) g]) ok
  | abandon i => exact followOk_of_only (s.abandon_only i) (by decide) (fun g => by
      rw [State.head_of_only (s.abandon_only i) (by decide) g]) ok
  | libData i e n bs _ _ =>
    have hwrite := State.writeBytes_only (entryAddress e) bs n s
    exact followOk_of_only (t := State.writeBytes (entryAddress e) n bs s) hwrite (by decide) (fun g => by
      rw [State.head_of_only hwrite (by decide) g]) ok
  | libOpen | libClose | libDelete => exact ok

/-! ### Every step -/

theorem headsOk_reset : HeadsOk State.reset := by decide +kernel

theorem followOk_reset : FollowOk State.reset := by decide +kernel

theorem headsOk_depends {s t : State} (h : t.heads = s.heads) (ok : HeadsOk s) : HeadsOk t := fun g => by
  have e : t.head g = s.head g := congrArg (fun v : Vector Head 2 => v[g]) h
  rw [e]
  exact ok g

theorem followOk_depends {s t : State} (hheads : t.heads = s.heads) (hports : t.ports = s.ports) (ok : FollowOk s) :
    FollowOk t := by
  refine followOk_of_ports (fun p hp => ?_) (fun g => ?_) ok
  · have e : t.port p = s.port p := congrArg (fun v : Vector Port 4 => v[p]) hports
    rw [e]
    exact hp
  · exact congrArg (fun v : Vector Head 2 => v[g].follow) hheads

/-- Settles O60: each change of the blocks keeps the heads and their rate follow, and outside the ready state no block
changes. -/
theorem stepsKeepHeadsAndResetBlocks : Obligations.StepsKeepHeadsAndResetBlocks := by
  refine ⟨fun s t ok h => ?_, fun s t ok h => ?_, fun s t ok h => ?_⟩
  · exact step_keeps (parts := [.heads]) headsOk_reset (fun hsame => headsOk_depends (hsame .heads (by decide)))
      (by decide) BlockChange.headsOk h ok
  · exact step_keeps (parts := [.heads, .ports]) followOk_reset
      (fun hsame => followOk_depends (hsame .heads (by decide)) (hsame .ports (by decide)))
      (by decide) BlockChange.followOk h ok
  · rcases step_effect h with rfl | ⟨rest, heffect⟩
    · exact ok
    · exact heffect.blocksOk ok

end Sys2Proof.Machine
end

section
/-! What the slot manager's operations do to the slots, the free list and the ready lists (chapter 1). -/
namespace Sys2Proof.Machine

/-! ### Retiring frames (R7, R8) -/

theorem State.slot_retireSlot_same (s : State) (i : SlotId) : (s.retireSlot i).slot i = (s.slot i).retired := by
  unfold State.retireSlot Slot.retired
  cases h : s.slot i with
  | free => exact h
  | filling p g => exact h
  | held f => exact h
  | ready f =>
    dsimp only
    split
    · simp [State.freeSlot]
    · simp

theorem State.slot_retireSlot_other (s : State) {i j : SlotId} (h : j ≠ i) :
    (s.retireSlot i).slot j = s.slot j := by
  unfold State.retireSlot
  cases s.slot i with
  | free => rfl
  | filling p g => rfl
  | held f => rfl
  | ready f =>
    dsimp only
    split
    · simp [State.freeSlot, h]
    · simp [h]

@[simp] theorem State.readyList_retireSlot (s : State) (i : SlotId) (p : PortId) :
    (s.retireSlot i).readyList p = s.readyList p := by
  unfold State.retireSlot
  cases s.slot i with
  | free => rfl
  | filling p g => rfl
  | held f => rfl
  | ready f => dsimp only; split <;> rfl

@[simp] theorem State.pins_retireSlot (s : State) (i : SlotId) : (s.retireSlot i).pool.pins = s.pool.pins := by
  unfold State.retireSlot
  cases s.slot i with
  | free => rfl
  | filling p g => rfl
  | held f => rfl
  | ready f => dsimp only; split <;> rfl

theorem State.freeList_retireSlot (s : State) {i : SlotId} {f : StoredFrame} (h : s.slot i = .ready f) :
    (s.retireSlot i).pool.freeList =
      s.pool.freeList ++ [i].filter (fun j => decide ((s.slot j).refs = 0)) := by
  have hrefs : (s.slot i).refs = f.refs := by rw [h]; rfl
  unfold State.retireSlot
  rw [h]
  dsimp only
  split
  · rename_i hzero
    simp [State.freeSlot, hrefs, hzero]
  · rename_i hzero
    simp [hrefs, hzero]

/-- Slots of a list that all hold READY frames. -/
def State.AllReady (s : State) (l : List SlotId) : Prop := ∀ i ∈ l, ∃ f, s.slot i = .ready f

/-- The slots, the free list, the other ready lists and the pins after the frames `l` are retired one after another. -/
theorem State.foldl_retireSlot {l : List SlotId} : ∀ {s : State}, l.Nodup → s.AllReady l →
    (∀ i ∈ l, (l.foldl State.retireSlot s).slot i = (s.slot i).retired) ∧
    (∀ i, i ∉ l → (l.foldl State.retireSlot s).slot i = s.slot i) ∧
    (l.foldl State.retireSlot s).pool.freeList =
      s.pool.freeList ++ l.filter (fun i => decide ((s.slot i).refs = 0)) ∧
    (l.foldl State.retireSlot s).pool.ready = s.pool.ready ∧
    (l.foldl State.retireSlot s).pool.pins = s.pool.pins := by
  induction l with
  | nil => exact fun {s} _ _ => ⟨by simp, fun _ _ => rfl, by simp, rfl, rfl⟩
  | cons i l ih =>
    intro s hnodup hready
    obtain ⟨hi, hl⟩ := List.nodup_cons.1 hnodup
    obtain ⟨f, hf⟩ := hready i List.mem_cons_self
    have hother : ∀ j ∈ l, (s.retireSlot i).slot j = s.slot j :=
      fun j hj => s.slot_retireSlot_other fun e => hi (e ▸ hj)
    obtain ⟨hin, hout, hfree, hlists, hpins⟩ := ih (s := s.retireSlot i) hl fun j hj => by
      rw [hother j hj]; exact hready j (List.mem_cons_of_mem _ hj)
    refine ⟨fun j hj => ?_, fun j hj => ?_, ?_, ?_, ?_⟩
    · rcases List.mem_cons.1 hj with rfl | hj
      · exact (hout j hi).trans (s.slot_retireSlot_same j)
      · rw [List.foldl_cons, hin j hj, hother j hj]
    · rw [List.mem_cons, not_or] at hj
      exact (hout j hj.2).trans (s.slot_retireSlot_other hj.1)
    · have hfilter : l.filter (fun j => decide (((s.retireSlot i).slot j).refs = 0)) =
          l.filter (fun j => decide ((s.slot j).refs = 0)) :=
        List.filter_congr fun j hj => by rw [hother j hj]
      rw [List.foldl_cons, hfree, s.freeList_retireSlot hf, hfilter, List.append_assoc, ← List.filter_append]
      rfl
    · rw [List.foldl_cons, hlists]
      exact Vector.ext fun k hk => s.readyList_retireSlot i ⟨k, hk⟩
    · rw [List.foldl_cons, hpins, s.pins_retireSlot]

/-- PORT_FLUSH's operation retires the whole ready list. -/
theorem State.flush_retires {s : State} {p : PortId} (hnodup : (s.readyList p).Nodup)
    (hready : s.AllReady (s.readyList p)) :
    (s.flush p).readyList p = [] ∧ Retires s (s.flush p) p (s.readyList p) := by
  obtain ⟨hin, hout, hfree, hlists, hpins⟩ :=
    State.foldl_retireSlot (s := s.setReady p []) hnodup hready
  have hlist : ∀ q, (s.flush p).readyList q = (s.setReady p []).readyList q :=
    fun q => congrArg (fun v : Vector (List SlotId) 4 => v[q]) hlists
  refine ⟨(hlist p).trans (s.readyList_setReady_same p []), hin, hout, hfree, fun q hq => ?_, hpins⟩
  exact (hlist q).trans (s.readyList_setReady_other [] hq)

theorem State.slot_countDrop (s : State) (p : PortId) (i j : SlotId) : (s.countDrop p i).slot j = s.slot j :=
  State.slot_of_only (s.countDrop_only p i) (by decide) j

theorem State.pool_countDrop (s : State) (p : PortId) (i : SlotId) : (s.countDrop p i).pool = s.pool :=
  s.countDrop_only p i .pool (by decide)

/-- The slot holds a frame that was never shown. -/
def State.unshown (s : State) (i : SlotId) : Bool := (s.slot i).frame?.any fun f => !f.shown

theorem State.port_countDrop (s : State) (p : PortId) (i : SlotId) :
    (s.countDrop p i).port p = { s.port p with counters := { (s.port p).counters with
      dropped := (s.port p).counters.dropped + BitVec.ofNat 32 ([i].filter s.unshown).length } } := by
  unfold State.countDrop
  cases h : (s.slot i).frame? with
  | none => simp [State.unshown, h]
  | some f =>
    dsimp only
    cases hshown : f.shown with
    | true => simp [State.unshown, h, hshown]
    | false => simp [State.unshown, h, hshown, State.countPort]

theorem OtherPorts.refl (p : PortId) (s : State) : OtherPorts p s s := fun _ _ => rfl

theorem OtherPorts.trans {p : PortId} {s t u : State} (h₁ : OtherPorts p s t) (h₂ : OtherPorts p t u) :
    OtherPorts p s u := fun q hq => (h₂ q hq).trans (h₁ q hq)

theorem OtherPorts.of_only {l : List Part} {p : PortId} {s t : State} (h : OnlyChanges l s t)
    (hl : Part.ports ∉ l) : OtherPorts p s t := fun q _ => State.port_of_only h hl q

theorem State.modPort_others (s : State) (p : PortId) (f : Port → Port) : OtherPorts p s (s.modPort p f) :=
  fun _ hq => s.port_modPort_other f hq

theorem State.countDrop_others (s : State) (p : PortId) (i : SlotId) : OtherPorts p s (s.countDrop p i) := by
  unfold State.countDrop
  split
  · split
    · exact .refl p s
    · exact s.modPort_others p _
  · exact .refl p s

/-- One eviction, of a ready list that is not empty. -/
theorem State.evictOldest_cons {s : State} {p : PortId} {i : SlotId} {l : List SlotId} (h : s.readyList p = i :: l) :
    s.evictOldest p = ((s.countDrop p i).setReady p l).retireSlot i := by
  unfold State.evictOldest
  rw [h]

theorem State.evictOldest_others (s : State) (p : PortId) : OtherPorts p s (s.evictOldest p) := by
  unfold State.evictOldest
  split
  · exact .refl p s
  · exact ((s.countDrop_others p _).trans (.of_only (State.setReady_only _ _ _) (by decide))).trans
      (.of_only (State.retireSlot_only _ _) (by decide))

theorem State.evict_others (n : Nat) (p : PortId) : ∀ s, OtherPorts p s (State.evict n p s) := by
  induction n with
  | zero => exact fun s => .refl p s
  | succ n ih => exact fun s => (s.evictOldest_others p).trans (ih _)

/-- `out.length` evictions retire the frames `out` at the front of the ready list, each with its own drop. -/
theorem State.evict_retires {p : PortId} {keep out : List SlotId} : ∀ {s : State},
    s.readyList p = out ++ keep → out.Nodup → s.AllReady out →
    (State.evict out.length p s).readyList p = keep ∧ Retires s (State.evict out.length p s) p out ∧
    (State.evict out.length p s).port p = { s.port p with counters := { (s.port p).counters with
      dropped := (s.port p).counters.dropped + BitVec.ofNat 32 (out.filter s.unshown).length } } := by
  induction out with
  | nil =>
    intro s hlist _ _
    exact ⟨hlist, ⟨by simp, fun _ _ => rfl, (List.append_nil _).symm, fun _ _ => rfl, rfl⟩, by simp [State.evict]⟩
  | cons i out ih =>
    intro s hlist hnodup hready
    obtain ⟨hi, hout⟩ := List.nodup_cons.1 hnodup
    obtain ⟨f, hf⟩ := hready i List.mem_cons_self
    have hu := State.evictOldest_cons (l := out ++ keep) hlist
    generalize hu' : s.evictOldest p = u at hu
    have hslot : ∀ j, j ≠ i → u.slot j = s.slot j := fun j hj => by
      rw [hu, State.slot_retireSlot_other _ hj]; exact s.slot_countDrop p i j
    have hslot' : ∀ j ∈ out, u.slot j = s.slot j := fun j hj => hslot j fun e => hi (e ▸ hj)
    have hslot_i : u.slot i = (s.slot i).retired := by
      rw [hu, State.slot_retireSlot_same, State.slot_setReady, s.slot_countDrop p i i]
    have hport : u.port p = (s.countDrop p i).port p := by
      rw [hu]; exact State.port_of_only (State.retireSlot_only _ _) (by decide) p
    obtain ⟨hkeep, ⟨hin, hrest, hfree, hlists, hpins⟩, hdrops⟩ := ih (s := u)
      (by rw [hu]; simp) hout fun j hj => by
        rw [hslot' j hj]; exact hready j (List.mem_cons_of_mem _ hj)
    have hevict : State.evict (i :: out).length p s = State.evict out.length p u := by
      rw [← hu']; rfl
    rw [hevict]
    refine ⟨hkeep, ⟨fun j hj => ?_, fun j hj => ?_, ?_, fun q hq => ?_, ?_⟩, ?_⟩
    · rcases List.mem_cons.1 hj with rfl | hj
      · exact (hrest j hi).trans hslot_i
      · rw [hin j hj, hslot' j hj]
    · rw [List.mem_cons, not_or] at hj
      exact (hrest j hj.2).trans (hslot j hj.1)
    · have hufree : u.pool.freeList = s.pool.freeList ++ [i].filter fun j => decide ((s.slot j).refs = 0) := by
        rw [hu, State.freeList_retireSlot (f := f) _ (by rw [State.slot_setReady, s.slot_countDrop]; exact hf)]
        simp only [State.setReady_pool_freeList, State.slot_setReady, State.slot_countDrop]
        rw [s.pool_countDrop]
      have hfilter : out.filter (fun j => decide ((u.slot j).refs = 0)) =
          out.filter (fun j => decide ((s.slot j).refs = 0)) :=
        List.filter_congr fun j hj => by rw [hslot' j hj]
      rw [hfree, hufree, List.append_assoc, hfilter, ← List.filter_append]
      rfl
    · rw [hlists q hq, hu, State.readyList_retireSlot, State.readyList_setReady_other _ _ hq]
      exact State.readyList_of_only (s.countDrop_only p i) (by decide) q
    · rw [hpins, hu, State.pins_retireSlot, State.setReady_pool_pins, s.pool_countDrop]
    · have hunshown : out.filter u.unshown = out.filter s.unshown :=
        List.filter_congr fun j hj => by unfold State.unshown; rw [hslot' j hj]
      rw [hdrops, hport, s.port_countDrop, hunshown]
      have hcount : ((i :: out).filter s.unshown).length =
          ([i].filter s.unshown).length + (out.filter s.unshown).length := by
        rw [← List.length_append, ← List.filter_append]; rfl
      simp only [hcount, BitVec.ofNat_add, BitVec.add_assoc]

/-! ### The invariant of the pool -/

/-- Slots, free list and ready lists agree, and the slots that are FILLING are those that `w` gives the ports. -/
structure Fits (s : State) (w : PortId → Option SlotId) : Prop where
  nodup : s.pool.freeList.Nodup
  free : ∀ i, i ∈ s.pool.freeList ↔ s.slot i = .free
  listNodup : ∀ p, (s.readyList p).Nodup
  ready : ∀ p i, i ∈ s.readyList p ↔ (s.slot i).readySource = some p
  filling : ∀ p i, w p = some i ↔ (s.slot i).fillingPort = some p

/-- The slots that the ports' writers fill. -/
def State.writers (s : State) : PortId → Option SlotId := fun p => (s.port p).writer.slot

/-- The ready lists are within their hold depths, which are 1 to 4 (R11). -/
def DepthsOk (s : State) : Prop :=
  ∀ p, (s.readyList p).length ≤ (s.port p).depth ∧ 1 ≤ (s.port p).depth ∧ (s.port p).depth ≤ 4

theorem poolOk_iff {s : State} : PoolOk s ↔ Fits s s.writers ∧ DepthsOk s := by
  constructor
  · rintro ⟨hnodup, hfree, hlists, hready, hfilling⟩
    exact ⟨⟨hnodup, hfree, fun p => (hlists p).1, hready, hfilling⟩, fun p => (hlists p).2⟩
  · rintro ⟨⟨hnodup, hfree, hlists, hready, hfilling⟩, hdepths⟩
    exact ⟨hnodup, hfree, fun p => ⟨hlists p, hdepths p⟩, hready, hfilling⟩

theorem Fits.congr {s t : State} {w : PortId → Option SlotId} (h : Fits s w) (e : t.pool = s.pool) : Fits t w := by
  have hslot : ∀ i, t.slot i = s.slot i := fun i => congrArg (fun v : Pool => v.slots[i]) e
  have hlist : ∀ p, t.readyList p = s.readyList p := fun p => congrArg (fun v : Pool => v.ready[p]) e
  exact ⟨e ▸ h.nodup, fun i => by rw [e, hslot]; exact h.free i, fun p => by rw [hlist]; exact h.listNodup p,
    fun p i => by rw [hlist, hslot]; exact h.ready p i, fun p i => by rw [hslot]; exact h.filling p i⟩

theorem Slot.readySource_eq_some {v : Slot} {p : PortId} (h : v.readySource = some p) :
    ∃ f, v = .ready f ∧ f.source = p := by
  cases v with
  | ready f => exact ⟨f, rfl, Option.some.inj h⟩
  | free => cases h
  | filling p g => cases h
  | held f => cases h

theorem Slot.fillingPort_eq_some {v : Slot} {p : PortId} (h : v.fillingPort = some p) : ∃ g, v = .filling p g := by
  cases v with
  | filling q g => exact ⟨g, by rw [Option.some.inj h]⟩
  | free => cases h
  | ready f => cases h
  | held f => cases h

theorem Fits.ready_frame {s : State} {w : PortId → Option SlotId} (h : Fits s w) {p : PortId} {i : SlotId}
    (hi : i ∈ s.readyList p) : ∃ f, s.slot i = .ready f ∧ f.source = p :=
  Slot.readySource_eq_some ((h.ready p i).1 hi)

theorem Fits.filling_slot {s : State} {w : PortId → Option SlotId} (h : Fits s w) {p : PortId} {i : SlotId}
    (hi : w p = some i) : ∃ g, s.slot i = .filling p g :=
  Slot.fillingPort_eq_some ((h.filling p i).1 hi)

theorem Fits.allReady {s : State} {w : PortId → Option SlotId} (h : Fits s w) {p : PortId} {l : List SlotId}
    (hl : l ⊆ s.readyList p) : s.AllReady l := fun _ hi =>
  let ⟨f, hf, _⟩ := h.ready_frame (hl hi)
  ⟨f, hf⟩

/-! ### The ledger of references -/

/-- The reference count of each slot is the one that `c` gives, and a HELD slot has at least one. -/
structure RefsFit (s : State) (c : SlotId → Nat) : Prop where
  count : ∀ i, (s.slot i).refs = c i
  held : ∀ i f, s.slot i = .held f → 1 ≤ f.refs

/-- The number of holders of each slot (R16). -/
def State.holdCount (s : State) : SlotId → Nat := fun i => s.holds.count (some i)

/-- An OFF head and an absent position have cleared selection state (R50, R56). -/
def ClearedOk (s : State) : Prop :=
  ∀ (h : HeadId) (p : Position),
    (s.head h).state = .off ∨ (s.head h).activeScene[p] = none → s.selectionAt h p = .cleared

theorem referencesOk_iff {s : State} : ReferencesOk s ↔ RefsFit s s.holdCount ∧ ClearedOk s := by
  constructor
  · rintro ⟨hcount, hheld, hcleared⟩
    refine ⟨⟨hcount, fun i f e => ?_⟩, hcleared⟩
    have := hheld i
    rw [e] at this
    exact this
  · rintro ⟨⟨hcount, hheld⟩, hcleared⟩
    refine ⟨hcount, fun i => ?_, hcleared⟩
    cases h : s.slot i with
    | held f => exact hheld i f h
    | free => trivial
    | filling p g => trivial
    | ready f => trivial

theorem RefsFit.congr {s t : State} {c : SlotId → Nat} (h : RefsFit s c) (e : t.pool = s.pool) : RefsFit t c := by
  have hslot : ∀ i, t.slot i = s.slot i := fun i => congrArg (fun v : Pool => v.slots[i]) e
  exact ⟨fun i => by rw [hslot]; exact h.count i, fun i f hf => h.held i f (by rw [← hslot]; exact hf)⟩

/-- The source and number of a frame stay where a ready list of `t` or the ledger `c` names its slot. -/
def KeepsFrames (s t : State) (c : SlotId → Nat) : Prop :=
  ∀ j, (∃ p, j ∈ t.readyList p) ∨ 1 ≤ c j → t.identityIn j = s.identityIn j

theorem KeepsFrames.of_slots {s t : State} {c : SlotId → Nat} (h : ∀ j, t.slot j = s.slot j) : KeepsFrames s t c :=
  fun j _ => by unfold State.identityIn; rw [h]

/-- One operation on the store: from writers `w` and ledger `c` to writers `w'` and ledger `c'`. -/
structure Shift (s t : State) (w w' : PortId → Option SlotId) (c c' : SlotId → Nat) : Prop where
  fits : Fits s w → Fits t w'
  refs : Fits s w → RefsFit s c → RefsFit t c'
  keeps : Fits s w → RefsFit s c → KeepsFrames s t c'
  lists : ∀ p, (t.readyList p).Sublist (s.readyList p)

theorem Shift.of_pool {s t : State} {w : PortId → Option SlotId} {c : SlotId → Nat} (e : t.pool = s.pool) :
    Shift s t w w c c :=
  ⟨fun h => h.congr e, fun _ h => h.congr e,
    fun _ _ => .of_slots fun j => congrArg (fun v : Pool => v.slots[j]) e,
    fun p => by rw [show t.readyList p = s.readyList p from congrArg (fun v : Pool => v.ready[p]) e]⟩

theorem Shift.trans {s t u : State} {w w' w'' : PortId → Option SlotId} {c c' c'' : SlotId → Nat}
    (h₁ : Shift s t w w' c c') (h₂ : Shift t u w' w'' c' c'') (hle : ∀ j, c'' j ≤ c' j) :
    Shift s u w w'' c c'' := by
  refine ⟨fun h => h₂.fits (h₁.fits h), fun h hr => h₂.refs (h₁.fits h) (h₁.refs h hr), fun h hr j hj => ?_,
    fun p => (h₂.lists p).trans (h₁.lists p)⟩
  refine (h₂.keeps (h₁.fits h) (h₁.refs h hr) j hj).trans (h₁.keeps h hr j ?_)
  rcases hj with ⟨p, hp⟩ | hj
  · exact .inl ⟨p, (h₂.lists p).subset hp⟩
  · exact .inr (hj.trans (hle j))

/-! ### The operations of the store -/

theorem Slot.retired_refs {v : Slot} : v.retired.refs = v.refs := by
  cases v with
  | ready f =>
    simp only [Slot.retired]
    split
    · rename_i e; exact e.symm
    · rfl
  | free => rfl
  | filling p g => rfl
  | held f => rfl

theorem Slot.retired_of_ready (f : StoredFrame) : (Slot.ready f).retired.readySource = none ∧
    (Slot.ready f).retired.fillingPort = none ∧ ((Slot.ready f).retired = .free ↔ f.refs = 0) := by
  simp only [Slot.retired]
  split
  · rename_i e; exact ⟨rfl, rfl, by simp [e]⟩
  · rename_i e; exact ⟨rfl, rfl, by simp [e]⟩

section
variable {s t : State} {p : PortId} {out keep : List SlotId} {w : PortId → Option SlotId} {c : SlotId → Nat}

theorem Fits.out_ready (fits : Fits s w) (hlist : s.readyList p = out ++ keep) {i : SlotId} (hi : i ∈ out) :
    ∃ f, s.slot i = .ready f ∧ f.source = p := fits.ready_frame (hlist ▸ List.mem_append_left _ hi)

theorem Retires.sublist (h : Retires s t p out) (hlist : s.readyList p = out ++ keep) (hkeep : t.readyList p = keep)
    (q : PortId) : (t.readyList q).Sublist (s.readyList q) := by
  obtain ⟨-, -, -, hothers, -⟩ := h
  by_cases e : q = p
  · subst e; rw [hkeep, hlist]; exact List.sublist_append_right _ _
  · rw [hothers q e]

/-- A retired frame stands in no ready list any more. -/
theorem Retires.not_listed (h : Retires s t p out) (fits : Fits s w) (hlist : s.readyList p = out ++ keep)
    (hkeep : t.readyList p = keep) {i : SlotId} (hi : i ∈ out) (q : PortId) : i ∉ t.readyList q := by
  obtain ⟨-, -, -, hothers, -⟩ := h
  intro hmem
  by_cases hq : q = p
  · subst hq
    have hnodup := fits.listNodup q
    rw [hlist] at hnodup
    rw [hkeep] at hmem
    exact (List.nodup_append.1 hnodup).2.2 i hi i hmem rfl
  · rw [hothers q hq] at hmem
    obtain ⟨f, hf, hsource⟩ := fits.out_ready hlist hi
    obtain ⟨f', hf', hsource'⟩ := fits.ready_frame hmem
    rw [hf] at hf'
    cases hf'
    exact hq (hsource'.symm.trans hsource)

theorem Fits.retires (fits : Fits s w) (h : Retires s t p out) (hlist : s.readyList p = out ++ keep)
    (hkeep : t.readyList p = keep) : Fits t w := by
  have hsub := h.sublist hlist hkeep
  have hgone : ∀ {i}, i ∈ out → ∀ q, i ∉ t.readyList q := fun hi => h.not_listed fits hlist hkeep hi
  obtain ⟨hin, hout, hfree, hothers, -⟩ := h
  have hnodup := fits.listNodup p
  rw [hlist] at hnodup
  constructor
  · rw [hfree]
    refine List.nodup_append.2 ⟨fits.nodup, (List.nodup_append.1 hnodup).1.filter _, fun i hi j hj e => ?_⟩
    subst e
    obtain ⟨f, hf, _⟩ := fits.out_ready hlist (List.mem_filter.1 hj).1
    have := (fits.free i).1 hi
    rw [hf] at this
    cases this
  · intro i
    rw [hfree, List.mem_append, fits.free i, List.mem_filter, decide_eq_true_eq]
    by_cases hi : i ∈ out
    · obtain ⟨f, hf, _⟩ := fits.out_ready hlist hi
      rw [hin i hi, hf, (Slot.retired_of_ready f).2.2]
      simp [hi, Slot.refs, Slot.frame?]
    · rw [hout i hi]
      simp [hi]
  · exact fun q => (fits.listNodup q).sublist (hsub q)
  · intro q i
    by_cases hi : i ∈ out
    · obtain ⟨f, hf, _⟩ := fits.out_ready hlist hi
      rw [hin i hi, hf, (Slot.retired_of_ready f).1]
      exact ⟨fun hmem => absurd hmem (hgone hi q), nofun⟩
    · rw [hout i hi, ← fits.ready q i]
      by_cases hq : q = p
      · subst hq; rw [hkeep, hlist, List.mem_append]; simp [hi]
      · rw [hothers q hq]
  · intro q i
    by_cases hi : i ∈ out
    · obtain ⟨f, hf, _⟩ := fits.out_ready hlist hi
      rw [hin i hi, fits.filling q i, hf, (Slot.retired_of_ready f).2.1]
      exact Iff.rfl
    · rw [hout i hi]; exact fits.filling q i

theorem RefsFit.retires (refs : RefsFit s c) (fits : Fits s w) (h : Retires s t p out)
    (hlist : s.readyList p = out ++ keep) : RefsFit t c := by
  obtain ⟨hin, hout, -⟩ := h
  refine ⟨fun i => ?_, fun i f hf => ?_⟩
  · by_cases hi : i ∈ out
    · rw [hin i hi, Slot.retired_refs]; exact refs.count i
    · rw [hout i hi]; exact refs.count i
  · by_cases hi : i ∈ out
    · obtain ⟨g, hg, _⟩ := fits.out_ready hlist hi
      rw [hin i hi, hg] at hf
      simp only [Slot.retired] at hf
      split at hf
      · cases hf
      · rename_i hne; cases hf; omega
    · rw [hout i hi] at hf; exact refs.held i f hf

theorem KeepsFrames.retires (refs : RefsFit s c) (fits : Fits s w) (h : Retires s t p out)
    (hlist : s.readyList p = out ++ keep) (hkeep : t.readyList p = keep) : KeepsFrames s t c := by
  intro j hj
  by_cases hi : j ∈ out
  · obtain ⟨f, hf, -⟩ := fits.out_ready hlist hi
    have hcount : 1 ≤ f.refs := by
      rcases hj with ⟨q, hq⟩ | hj
      · exact absurd hq (h.not_listed fits hlist hkeep hi q)
      · have := refs.count j
        rw [hf] at this
        exact hj.trans (le_of_eq this.symm)
    unfold State.identityIn
    rw [h.1 j hi, hf]
    simp only [Slot.retired]
    split
    · omega
    · rfl
  · unfold State.identityIn; rw [h.2.1 j hi]

/-- Frames leave the front of a ready list (R7, R8). -/
theorem Shift.retires (hlist : s.readyList p = out ++ keep) (hkeep : t.readyList p = keep)
    (h : Fits s w → Retires s t p out) (hothers : ∀ q, q ≠ p → t.readyList q = s.readyList q) : Shift s t w w c c := by
  refine ⟨fun fits => fits.retires (h fits) hlist hkeep, fun fits refs => refs.retires fits (h fits) hlist,
    fun fits refs => .retires refs fits (h fits) hlist hkeep, fun q => ?_⟩
  by_cases e : q = p
  · subst e; rw [hkeep, hlist]; exact List.sublist_append_right _ _
  · rw [hothers q e]

end

theorem Shift.flush (s : State) (p : PortId) (w : PortId → Option SlotId) (c : SlotId → Nat) :
    Shift s (s.flush p) w w c c := by
  have hlist : ∀ q, (s.flush p).readyList q = (s.setReady p []).readyList q := by
    intro q
    unfold State.flush
    generalize s.setReady p [] = u
    induction s.readyList p generalizing u with
    | nil => rfl
    | cons i l ih => rw [List.foldl_cons, ih, State.readyList_retireSlot]
  refine Shift.retires (List.append_nil _).symm ((hlist p).trans (s.readyList_setReady_same p []))
    (fun fits => (State.flush_retires (fits.listNodup p) (fits.allReady (List.Subset.refl _))).2) fun q hq => ?_
  exact (hlist q).trans (s.readyList_setReady_other [] hq)

theorem State.evictOldest_lists (s : State) (p : PortId) :
    (s.evictOldest p).readyList p = (s.readyList p).drop 1 ∧
    ∀ q, q ≠ p → (s.evictOldest p).readyList q = s.readyList q := by
  unfold State.evictOldest
  split
  · rename_i e; rw [e]; exact ⟨rfl, fun _ _ => rfl⟩
  · rename_i i l e
    refine ⟨by simp [e], fun q hq => ?_⟩
    rw [State.readyList_retireSlot, State.readyList_setReady_other _ _ hq]
    exact State.readyList_of_only (s.countDrop_only p i) (by decide) q

theorem State.evict_lists (n : Nat) (p : PortId) : ∀ s : State,
    (State.evict n p s).readyList p = (s.readyList p).drop n ∧
    ∀ q, q ≠ p → (State.evict n p s).readyList q = s.readyList q := by
  induction n with
  | zero => exact fun s => ⟨rfl, fun _ _ => rfl⟩
  | succ n ih =>
    intro s
    obtain ⟨hsame, hothers⟩ := ih (s.evictOldest p)
    obtain ⟨hsame', hothers'⟩ := s.evictOldest_lists p
    refine ⟨?_, fun q hq => (hothers q hq).trans (hothers' q hq)⟩
    rw [State.evict, hsame, hsame', List.drop_drop, Nat.add_comm]

theorem Shift.evict (n : Nat) (s : State) (p : PortId) (w : PortId → Option SlotId) (c : SlotId → Nat) :
    Shift s (State.evict n p s) w w c c := by
  induction n generalizing s with
  | zero => exact .of_pool rfl
  | succ n ih =>
    refine Shift.trans ?_ (ih _) fun _ => le_refl _
    cases hlist : s.readyList p with
    | nil =>
      have e : s.evictOldest p = s := by unfold State.evictOldest; rw [hlist]
      rw [e]
      exact .of_pool rfl
    | cons i l =>
      have hone : s.readyList p = [i] ++ l := hlist
      have e : s.evictOldest p = State.evict [i].length p s := rfl
      obtain ⟨hsame, hothers⟩ := s.evictOldest_lists p
      refine Shift.retires hone (by rw [hsame, hlist]; rfl) (fun fits => ?_) hothers
      rw [e]
      exact (State.evict_retires hone (by simp) (fits.allReady (by rw [hone]; simp))).2.1

theorem Shift.evictSurplus (s : State) (p : PortId) (w : PortId → Option SlotId) (c : SlotId → Nat) :
    Shift s (s.evictSurplus p) w w c c := .evict _ s p w c

/-- The writer of port `p` with slot `x`, the others as `w` gives them. -/
def writerOf (w : PortId → Option SlotId) (p : PortId) (x : Option SlotId) : PortId → Option SlotId :=
  Function.update w p x

@[simp] theorem writerOf_same (w : PortId → Option SlotId) (p : PortId) (x : Option SlotId) :
    writerOf w p x p = x := Function.update_self ..

theorem writerOf_other (w : PortId → Option SlotId) {p q : PortId} (x : Option SlotId) (h : q ≠ p) :
    writerOf w p x q = w q := Function.update_of_ne h ..

/-- One slot changes: the invariant of the pool in terms of that slot. -/
theorem Fits.setOne {s t : State} {w w' : PortId → Option SlotId} (fits : Fits s w) (i : SlotId)
    (hslot : ∀ j, j ≠ i → t.slot j = s.slot j) (hnodup : t.pool.freeList.Nodup)
    (hlists : ∀ q, (t.readyList q).Nodup)
    (hothers : ∀ j, j ≠ i → (j ∈ t.pool.freeList ↔ j ∈ s.pool.freeList) ∧
      (∀ q, j ∈ t.readyList q ↔ j ∈ s.readyList q) ∧ ∀ q, w' q = some j ↔ w q = some j)
    (hfree : i ∈ t.pool.freeList ↔ t.slot i = .free)
    (hready : ∀ q, i ∈ t.readyList q ↔ (t.slot i).readySource = some q)
    (hfilling : ∀ q, w' q = some i ↔ (t.slot i).fillingPort = some q) : Fits t w' := by
  refine ⟨hnodup, fun j => ?_, hlists, fun q j => ?_, fun q j => ?_⟩
  · by_cases e : j = i
    · subst e; exact hfree
    · rw [hslot j e, (hothers j e).1]; exact fits.free j
  · by_cases e : j = i
    · subst e; exact hready q
    · rw [hslot j e, (hothers j e).2.1]; exact fits.ready q j
  · by_cases e : j = i
    · subst e; exact hfilling q
    · rw [hslot j e, (hothers j e).2.2]; exact fits.filling q j

theorem RefsFit.setOne {s t : State} {c c' : SlotId → Nat} (refs : RefsFit s c) (i : SlotId)
    (hslot : ∀ j, j ≠ i → t.slot j = s.slot j) (hothers : ∀ j, j ≠ i → c' j = c j)
    (hcount : (t.slot i).refs = c' i) (hheld : ∀ f, t.slot i = .held f → 1 ≤ f.refs) : RefsFit t c' := by
  refine ⟨fun j => ?_, fun j f hf => ?_⟩
  · by_cases e : j = i
    · subst e; exact hcount
    · rw [hslot j e, hothers j e]; exact refs.count j
  · by_cases e : j = i
    · subst e; exact hheld f hf
    · rw [hslot j e] at hf; exact refs.held j f hf

theorem KeepsFrames.setOne {s t : State} {c : SlotId → Nat} (i : SlotId) (hslot : ∀ j, j ≠ i → t.slot j = s.slot j)
    (hkeep : (∃ p, i ∈ t.readyList p) ∨ 1 ≤ c i → t.identityIn i = s.identityIn i) : KeepsFrames s t c := by
  intro j hj
  by_cases e : j = i
  · subst e; exact hkeep hj
  · unfold State.identityIn; rw [hslot j e]

/-- The writers other than port `p`'s, when that port's slot changes from `x` to `y`. -/
theorem writerOf_iff {w : PortId → Option SlotId} {p : PortId} {x y : Option SlotId} (hw : w p = x) {j : SlotId}
    (hx : x ≠ some j) (hy : y ≠ some j) (q : PortId) : writerOf w p y q = some j ↔ w q = some j := by
  by_cases hq : q = p
  · subst hq; rw [writerOf_same, hw]; exact ⟨fun e => absurd e hy, fun e => absurd e hx⟩
  · rw [writerOf_other _ _ hq]

/-- A slot that comes to be FILLING for port `p`, when no writer fills it before. -/
theorem writerOf_filling {s : State} {w : PortId → Option SlotId} (fits : Fits s w) {p : PortId} {i : SlotId}
    (g : Geometry) (hi : (s.slot i).fillingPort = none) (q : PortId) :
    writerOf w p (some i) q = some i ↔ (Slot.filling p g).fillingPort = some q := by
  by_cases hq : q = p
  · subst hq; simp [Slot.fillingPort]
  · rw [writerOf_other _ _ hq, fits.filling q i, hi]
    simp [Slot.fillingPort, Ne.symm hq]

/-- A slot that was FILLING for port `p` and is so no more. -/
theorem writerOf_none {s : State} {w : PortId → Option SlotId} (fits : Fits s w) {p : PortId} {i : SlotId}
    (hw : w p = some i) (q : PortId) : writerOf w p none q ≠ some i := by
  by_cases hq : q = p
  · subst hq; simp
  · rw [writerOf_other _ _ hq]
    intro e
    have h₁ := (fits.filling q i).1 e
    rw [(fits.filling p i).1 hw] at h₁
    exact hq (Option.some.inj h₁).symm

/-- R14: the slot that a port fills is freed. -/
theorem Shift.freeFilling (s : State) {p : PortId} {i : SlotId} {w : PortId → Option SlotId} {c : SlotId → Nat}
    (hw : w p = some i) : Shift s (s.freeSlot i) w (writerOf w p none) c c := by
  have hslot : ∀ j, j ≠ i → (s.freeSlot i).slot j = s.slot j := fun j hj => by simp [State.freeSlot, hj]
  have hslot_i : (s.freeSlot i).slot i = .free := by simp [State.freeSlot]
  have hfreeList : (s.freeSlot i).pool.freeList = s.pool.freeList ++ [i] := rfl
  refine ⟨fun fits => ?_, fun fits refs => ?_, fun fits refs => ?_, fun q => List.Sublist.refl _⟩
  all_goals obtain ⟨g, hg⟩ := fits.filling_slot hw
  · have hnot : i ∉ s.pool.freeList := fun hi => by
      have := (fits.free i).1 hi
      rw [hg] at this
      cases this
    refine fits.setOne i hslot ?_ fits.listNodup (fun j e => ⟨?_, fun q => Iff.rfl, ?_⟩) ?_ (fun q => ?_) fun q => ?_
    · rw [hfreeList, ← List.concat_eq_append]; exact fits.nodup.concat hnot
    · rw [hfreeList, List.mem_append, List.mem_singleton]; simp [e]
    · exact writerOf_iff hw (by simpa using Ne.symm e) nofun
    · rw [hslot_i, hfreeList]; simp
    · rw [hslot_i]
      refine (fits.ready q i).trans ?_
      rw [hg]
      rfl
    · rw [hslot_i]; simp [writerOf_none fits hw q, Slot.fillingPort]
  · refine refs.setOne i hslot (fun _ _ => rfl) ?_ fun f hf => ?_
    · rw [hslot_i, ← refs.count i, hg]; rfl
    · rw [hslot_i] at hf; cases hf
  · refine .setOne i hslot fun _ => ?_
    unfold State.identityIn
    rw [hslot_i, hg]
    rfl

/-- R9: the slot at the head of the free list is filled for a port. -/
theorem Shift.fillFree (s : State) {p : PortId} {i : SlotId} {rest : List SlotId} (g : Geometry)
    {w : PortId → Option SlotId} {c : SlotId → Nat} (hfree : s.pool.freeList = i :: rest) (hw : w p = none) :
    Shift s ((s.setFreeList rest).setSlot i (.filling p g)) w (writerOf w p (some i)) c c := by
  have hslot : ∀ j, j ≠ i → ((s.setFreeList rest).setSlot i (.filling p g)).slot j = s.slot j :=
    fun j hj => by simp [hj]
  have hslot_i : ((s.setFreeList rest).setSlot i (.filling p g)).slot i = .filling p g := by simp
  have hfreeList : ((s.setFreeList rest).setSlot i (.filling p g)).pool.freeList = rest := rfl
  have hi : Fits s w → s.slot i = .free := fun fits => (fits.free i).1 (hfree ▸ List.mem_cons_self)
  refine ⟨fun fits => ?_, fun fits refs => ?_, fun fits refs => ?_, fun q => List.Sublist.refl _⟩
  · have hnodup := fits.nodup
    rw [hfree, List.nodup_cons] at hnodup
    refine fits.setOne i hslot hnodup.2 fits.listNodup (fun j e => ⟨?_, fun q => Iff.rfl, ?_⟩) ?_ (fun q => ?_)
      fun q => ?_
    · rw [hfreeList, hfree, List.mem_cons]; simp [e]
    · exact writerOf_iff hw nofun (by simpa using Ne.symm e)
    · rw [hslot_i, hfreeList]; simp [hnodup.1]
    · rw [hslot_i]
      refine (fits.ready q i).trans ?_
      rw [hi fits]
      rfl
    · rw [hslot_i]; exact writerOf_filling fits g (by rw [hi fits]; rfl) q
  · refine refs.setOne i hslot (fun _ _ => rfl) ?_ fun f hf => ?_
    · rw [hslot_i, ← refs.count i, hi fits]; rfl
    · rw [hslot_i] at hf; cases hf
  · refine .setOne i hslot fun _ => ?_
    unfold State.identityIn
    rw [hslot_i, hi fits]
    rfl

/-- R10: a READY slot with refs 0 is taken from its port's ready list and filled again. -/
theorem Shift.reclaim (s : State) {p : PortId} {i : SlotId} (g : Geometry) {w : PortId → Option SlotId}
    {c : SlotId → Nat} (hmem : i ∈ s.readyList p) (hrefs : (s.slot i).refs = 0) (hw : w p = none) :
    Shift s ((s.setReady p ((s.readyList p).erase i)).setSlot i (.filling p g)) w (writerOf w p (some i)) c c := by
  generalize ht : (s.setReady p ((s.readyList p).erase i)).setSlot i (.filling p g) = t
  have hslot : ∀ j, j ≠ i → t.slot j = s.slot j := fun j hj => by simp [← ht, hj]
  have hslot_i : t.slot i = .filling p g := by simp [← ht]
  have hfreeList : t.pool.freeList = s.pool.freeList := by rw [← ht]; rfl
  have hlist_p : t.readyList p = (s.readyList p).erase i := by simp [← ht]
  have hlist : ∀ q, q ≠ p → t.readyList q = s.readyList q := fun q hq => by simp [← ht, hq]
  have hnotmem : Fits s w → ∀ q, i ∉ t.readyList q := fun fits q hq => by
    by_cases e : q = p
    · subst e
      rw [hlist_p] at hq
      exact (fits.listNodup q).not_mem_erase hq
    · rw [hlist q e] at hq
      have h₁ := (fits.ready p i).1 hmem
      rw [(fits.ready q i).1 hq] at h₁
      exact e (Option.some.inj h₁)
  refine ⟨fun fits => ?_, fun fits refs => ?_, fun fits refs => ?_, fun q => ?_⟩
  · obtain ⟨f, hf, _⟩ := fits.ready_frame hmem
    refine fits.setOne i hslot (hfreeList ▸ fits.nodup) (fun q => ?_)
      (fun j e => ⟨by rw [hfreeList], fun q => ?_, ?_⟩) ?_ (fun q => ?_) fun q => ?_
    · by_cases e : q = p
      · subst e; rw [hlist_p]; exact (fits.listNodup q).erase i
      · rw [hlist q e]; exact fits.listNodup q
    · by_cases hq : q = p
      · subst hq; rw [hlist_p]; exact List.mem_erase_of_ne e
      · rw [hlist q hq]
    · exact writerOf_iff hw nofun (by simpa using Ne.symm e)
    · rw [hslot_i, hfreeList, fits.free i, hf]; simp
    · rw [hslot_i]; simp [hnotmem fits q, Slot.readySource]
    · rw [hslot_i]; exact writerOf_filling fits g (by rw [hf]; rfl) q
  · refine refs.setOne i hslot (fun _ _ => rfl) ?_ fun f hf => ?_
    · rw [hslot_i, ← refs.count i, hrefs]; rfl
    · rw [hslot_i] at hf; cases hf
  · refine .setOne i hslot fun hkeep => ?_
    rcases hkeep with ⟨q, hq⟩ | hcount
    · exact absurd hq (hnotmem fits q)
    · rw [← refs.count i, hrefs] at hcount
      cases hcount
  · by_cases hq : q = p
    · subst hq; rw [hlist_p]; exact List.erase_sublist
    · rw [hlist q hq]

/-- A slot's record is replaced by one of the same kind, with `d` more or fewer references. -/
theorem Shift.replace (s : State) (i : SlotId) (v : Slot) {w : PortId → Option SlotId} {c c' : SlotId → Nat}
    (hkind : Fits s w → (v = .free ↔ s.slot i = .free) ∧ v.readySource = (s.slot i).readySource ∧
      v.fillingPort = (s.slot i).fillingPort)
    (hothers : ∀ j, j ≠ i → c' j = c j) (hcount : Fits s w → RefsFit s c → v.refs = c' i)
    (hheld : RefsFit s c → ∀ f, v = .held f → 1 ≤ f.refs)
    (hframe : Fits s w → (v.frame?.map fun f => (f.source, f.number)) = s.identityIn i) :
    Shift s (s.setSlot i v) w w c c' := by
  have hslot : ∀ j, j ≠ i → (s.setSlot i v).slot j = s.slot j := fun j hj => by simp [hj]
  have hslot_i : (s.setSlot i v).slot i = v := by simp
  refine ⟨fun fits => ?_, fun fits refs => ?_, fun fits refs => ?_, fun q => List.Sublist.refl _⟩
  · obtain ⟨hfree, hready, hfilling⟩ := hkind fits
    refine fits.setOne i hslot fits.nodup fits.listNodup (fun j e => ⟨Iff.rfl, fun q => Iff.rfl, fun q => Iff.rfl⟩) ?_
      (fun q => ?_) fun q => ?_
    · rw [hslot_i, hfree]; exact fits.free i
    · rw [hslot_i, hready]; exact fits.ready q i
    · rw [hslot_i, hfilling]; exact fits.filling q i
  · exact refs.setOne i hslot hothers (by rw [hslot_i]; exact hcount fits refs) (by rw [hslot_i]; exact hheld refs)
  · refine .setOne i hslot fun _ => ?_
    rw [← hframe fits]
    unfold State.identityIn
    rw [hslot_i]

/-- R15: the geometry of the slot that a port fills is set again. -/
theorem Shift.refill (s : State) {p : PortId} {i : SlotId} (g : Geometry) {w : PortId → Option SlotId}
    {c : SlotId → Nat} (hw : w p = some i) : Shift s (s.setSlot i (.filling p g)) w w c c := by
  refine .replace s i _ (fun fits => ?_) (fun _ _ => rfl) (fun fits refs => ?_) nofun fun fits => ?_
  all_goals obtain ⟨g', hg'⟩ := fits.filling_slot hw
  · rw [hg']; simp [Slot.readySource, Slot.fillingPort]
  · rw [← refs.count i, hg']; rfl
  · unfold State.identityIn; rw [hg']; rfl

end Sys2Proof.Machine
end

section
/-! Reset, start-up, and what the processor does with a request before its block sees it (chapters 9 and 11). -/
namespace Sys2Proof.Machine

/-! ### The machine right after reset (R3, R49, R70, R129, R141, R150, R165, R175) -/

theorem poolOk_reset : PoolOk State.reset := by decide +kernel

theorem portsOk_reset : PortsOk State.reset := by decide +kernel

theorem slot_reset (i : SlotId) : State.reset.slot i = .free := by
  simp [State.slot, State.reset, Pool.reset]

theorem referencesOk_reset : ReferencesOk State.reset := by
  have hcount : ∀ i : SlotId, (State.reset.slot i).refs = State.reset.holds.count (some i) := by decide +kernel
  have hcleared : ∀ (h : HeadId) (p : Position), State.reset.selectionAt h p = .cleared := by decide
  exact ⟨hcount, fun i => by rw [slot_reset]; trivial, fun h p _ => hcleared h p⟩

theorem numbersOk_reset : NumbersOk State.reset := by decide +kernel

theorem entry_reset (i : LibId) : State.reset.entry i = .empty := by
  simp [State.entry, State.reset, Library.reset]

theorem libraryOk_reset : LibraryOk State.reset := by
  refine ⟨fun i e he => ?_, fun i j _ a ha => ?_, by decide +kernel, List.nodup_nil, fun i => ?_⟩
  · rw [entry_reset] at he; cases he
  · rw [entry_reset] at ha; cases ha
  · rw [entry_reset]; exact ⟨nofun, nofun⟩

theorem loaderOk_reset : LoaderOk State.reset := by
  have hback : ∀ h, (State.reset.head h).cursor.back = .empty := by decide
  have hwaiting : ∀ h, (State.reset.head h).cursor.waiting = none := by decide
  refine ⟨List.nodup_nil, nofun, fun h i => ?_, fun h hw => absurd (hwaiting h) hw⟩
  rw [hback]
  exact ⟨nofun, nofun⟩

theorem usesOk_reset : UsesOk State.reset := by
  have hnone : ∀ u ∈ (headIds.map fun h => (State.reset.head h).uses).flatten, u = none := by decide +kernel
  intro i
  have hcount : (headIds.map fun h => (State.reset.head h).uses).flatten.count (some i) = 0 :=
    List.count_eq_zero_of_not_mem fun h => absurd (hnone _ h) nofun
  rw [entry_reset, hcount]
  rfl

theorem noticesOk_reset : NoticesOk State.reset := by decide +kernel

theorem linkOk_reset : LinkOk State.reset := by decide +kernel

/-- Settles O2: the reset values are those of the model's reset state, and each invariant holds of them. -/
theorem resetLeavesEveryBlockAtItsResetValues : Obligations.ResetLeavesEveryBlockAtItsResetValues := by
  refine ⟨⟨rfl, ?_, ?_, ?_, ?_, ?_⟩, memoryOk_reset, poolOk_reset, portsOk_reset, referencesOk_reset,
    numbersOk_reset, libraryOk_reset, loaderOk_reset, usesOk_reset, noticesOk_reset, linkOk_reset, headsOk_reset,
    followOk_reset, fun _ => ⟨rfl, rfl, rfl, rfl, rfl⟩⟩
  · decide +kernel
  · decide +kernel
  · decide +kernel
  · exact ⟨entry_reset, rfl, by decide +kernel, rfl⟩
  · decide +kernel

/-! ### The reset pin and start-up (R176, R177) -/

theorem atReset_deviceReset (s : State) (phase : Phase) (cause : ResetCause) (straps : Straps) :
    AtReset straps (s.deviceReset phase cause straps) := ⟨rfl, rfl, rfl, rfl, rfl, rfl, rfl⟩

theorem exec_resetPinRelease_of_held {s : State} (straps : Straps) (h : s.device.phase = .held) :
    exec (.resetPinRelease straps) s = .next (s.deviceReset .starting .pin straps) := by
  have hheld : s.isHeld = true := by simp [State.isHeld, h]
  show Host.Outcome.next (if s.isHeld then _ else _) = _
  rw [if_pos hheld]

theorem exec_startUpEnd_of_starting {s : State} (failing : Option Nat) (h : s.device.phase = .starting) :
    exec (.startUpEnd failing) s = .next (s.endStartUp failing) := by
  show Host.Outcome.next (if s.device.phase = .starting then _ else _) = _
  rw [if_pos h]

theorem NoticeQueue.raise_reset (n : Notice) : NoticeQueue.reset.raise n = ⟨[⟨0, n, 0, .new, false⟩], 1, 0, false⟩ := by
  rw [NoticeQueue.raise_appends (by simp [NoticeQueue.reset]) (by decide)]
  rfl

/-- Settles O3: the device reset writes every block's reset values, and the end of start-up changes the phase and
raises READY. -/
theorem resetAndStartUpRestoreThePart : Obligations.ResetAndStartUpRestoreThePart := by
  refine ⟨⟨fun straps s => ?_, fun straps s hheld => ?_, fun s hstarting => ⟨?_, fun a => ?_⟩,
    NoticeQueue.raise_reset⟩, rfl, rfl, rfl, rfl⟩
  · exact ⟨_, rfl, atReset_deviceReset s _ _ straps, rfl, rfl, rfl⟩
  · exact ⟨_, exec_resetPinRelease_of_held straps hheld, atReset_deviceReset s _ _ straps, rfl, rfl, rfl⟩
  · exact ⟨_, exec_startUpEnd_of_starting none hstarting, rfl, rfl, rfl, (s.endStartUp_only none).weaken (by decide)⟩
  · exact ⟨_, exec_startUpEnd_of_starting (some a) hstarting, rfl, rfl, rfl, (s.endStartUp_only (some a)).weaken (by decide)⟩

/-! ### What the processor does with a request (R161) -/

/-- The block's part of the command of each request. The commands that are not requests have none; they are given
the one that answers OK. -/
def bodyOf : Instr → Body
  | .reset => resetBody
  | .info => infoBody
  | .statsRead => statsReadBody
  | .statsClear => statsClearBody
  | .echo => echoBody
  | .captureOn => captureBody
  | .captureOff => captureBody
  | .portDepth => portDepthBody
  | .portFlush => portFlushBody
  | .portReset => portResetBody
  | .portStatus => portStatusBody
  | .pinTake => pinTakeBody
  | .pinRelease => pinReleaseBody
  | .storeStatus => storeStatusBody
  | .scenePut => scenePutBody
  | .sceneRemove => sceneRemoveBody
  | .sceneRestart => sceneRestartBody
  | .sceneRead => sceneReadBody
  | .scenePresent => scenePresentBody
  | .headTiming => headTimingBody
  | .headOn => headOnBody
  | .headOff => headOffBody
  | .headMute => headMuteBody
  | .headBackground => headBackgroundBody
  | .headFollow => headFollowBody
  | .headStatus => headStatusBody
  | .libOpen => libOpenBody
  | .libData => libDataBody
  | .libClose => libCloseBody
  | .libDelete => libDeleteBody
  | .libList => libListBody
  | .libSpace => libSpaceBody
  | .cursorShape => cursorShapeBody
  | .cursorMove => cursorMoveBody
  | .cursorShow => cursorShowBody
  | .cursorPalette => cursorPaletteBody
  | .ancConfig => ancConfigBody
  | .ancPush => ancPushBody
  | .ancFlush => ancFlushBody
  | .ancStatus => ancStatusBody
  | _ => fun _ s => done s

/-- Code 0x10 is taken by CAPTURE_ON or CAPTURE_OFF according to its mode byte (log entry 17). -/
def modeFits (c : Instr) (r : Request) : Prop :=
  (c = .captureOn → ¬(r.payload.length = 2 ∧ byteAt r.payload 1 = 0)) ∧
  (c = .captureOff → ¬(r.payload.length = 2 ∧ byteAt r.payload 1 = 1))

/-- Every command of a request takes the oldest request, when it has its code and its mode fits, and runs the
block's body. -/
theorem exec_request {c : Instr} {code : Byte} (h : requestCode c = some code) :
    ∃ mine : Request → Bool, (∀ s, exec c s = .next (s.takeRequest mine (bodyOf c))) ∧
      ∀ r, mine r = true ↔ r.code = code ∧ modeFits c r := by
  cases c with
  | captureOn => cases h; exact ⟨_, fun _ => rfl, fun r => by simp [modeFits, imp_iff_not_or]⟩
  | captureOff => cases h; exact ⟨_, fun _ => rfl, fun r => by simp [modeFits, imp_iff_not_or]⟩
  | _ => cases h <;> exact ⟨_, fun _ => rfl, fun r => by simp [modeFits]⟩

theorem State.processorRuns_of_served {s : State} {r : Request} {rest : List Request} {code : Byte}
    (h : TakesServed s r rest code) : s.processorRuns = true := by
  rcases h.served with hphase | ⟨a, hphase⟩
  · simp [State.processorRuns, State.isReady, hphase, h.runs]
  · simp [State.processorRuns, State.isReady, State.isFaulted, hphase, h.runs]

/-- Once RESET has stopped the processor it takes no request. -/
theorem State.takeRequest_of_stopped {s : State} (h : s.link.stopped = true) (mine : Request → Bool) (body : Body) :
    s.takeRequest mine body = s := by
  rcases s.takeRequest_cases mine body with heq | ⟨r, rest, _, hruns, _⟩
  · exact heq
  · simp [State.processorRuns, h] at hruns

/-- A request that is this command's is popped, executed and answered. -/
theorem State.takeRequest_taken {s : State} {r : Request} {rest : List Request} {code : Byte} {mine : Request → Bool}
    (h : TakesServed s r rest code) (hmine : mine r = true) (body : Body) :
    s.takeRequest mine body =
      ((s.withRequests rest).execute r body).2.post r ((s.withRequests rest).execute r body).1 := by
  unfold State.takeRequest
  rw [h.oldest]
  simp [State.processorRuns_of_served h, hmine]

/-- A request that the processor itself refuses: nothing changes but its reply. -/
theorem refuses_of_execute {c : Instr} {s : State} {r : Request} {rest : List Request} {code : Byte} {st : Status}
    {mine : Request → Bool} {body : Body} (hexec : exec c s = .next (s.takeRequest mine body))
    (h : TakesServed s r rest code) (hmine : mine r = true)
    (hrefused : (s.withRequests rest).execute r body = (.refuse st, s.withRequests rest)) : Refuses c s r rest st := by
  refine performs_of_exec (u := s.withRequests rest) ?_ h.runs rfl (OnlyChanges.refl _ _) trivial
  rw [hexec, State.takeRequest_taken h hmine, hrefused]

theorem State.execute_of_unknown {s : State} {r : Request} {body : Body} (h : commandRule r.code = none) :
    s.execute r body = (.refuse .unknownCommand, s) := by
  unfold State.execute; rw [h]

theorem State.execute_of_badLength {s : State} {r : Request} {body : Body} {rule : LengthRule}
    (h : commandRule r.code = some rule) (hlen : rule.allows r.payload.length = false) :
    s.execute r body = (.refuse .badLength, s) := by
  unfold State.execute; rw [h]; simp [hlen]

theorem State.execute_of_faulted {s : State} {r : Request} {body : Body} {rule : LengthRule}
    (h : commandRule r.code = some rule) (hlen : rule.allows r.payload.length = true)
    (hfaulted : s.isFaulted = true) (hcode : servedInFaulted r.code = false) :
    s.execute r body = (.refuse .wrongState, s) := by
  unfold State.execute; rw [h]; simp [hlen, hfaulted, hcode]

/-- The mode of a request of another length than 2 fits both commands. -/
theorem modeFits_of_badLength {c : Instr} {code : Byte} {r : Request} {rule : LengthRule}
    (hc : requestCode c = some code) (hrule : commandRule code = some rule)
    (hlen : rule.allows r.payload.length = false) : modeFits c r := by
  have hcapture : ∀ c' : Instr, c = c' → requestCode c' = some 0x10 → r.payload.length ≠ 2 := by
    rintro _ rfl h10
    cases hc.symm.trans h10
    cases hrule
    exact of_decide_eq_false hlen
  exact ⟨fun e h => hcapture _ e rfl h.1, fun e h => hcapture _ e rfl h.1⟩

theorem servedInFaulted_eq_false {code : Byte} (h₁ : code ≠ 0x01) (h₂ : code ≠ 0x02) (h₃ : code ≠ 0x03)
    (h₅ : code ≠ 0x05) : servedInFaulted code = false := by
  unfold servedInFaulted
  rw [decide_eq_false h₁, decide_eq_false h₂, decide_eq_false h₃, decide_eq_false h₅]
  rfl

/-- A lookup in a list of distinct keys finds exactly the listed pairs. -/
theorem lookup_eq_some_iff_mem {α β : Type} [BEq α] [LawfulBEq α] {a : α} {b : β} :
    ∀ {l : List (α × β)}, (l.map Prod.fst).Nodup → (l.lookup a = some b ↔ (a, b) ∈ l)
  | [], _ => by simp
  | (k, v) :: l, hnodup => by
    rw [List.map_cons, List.nodup_cons] at hnodup
    have ih := lookup_eq_some_iff_mem (a := a) (b := b) hnodup.2
    by_cases hk : a = k
    · rw [← hk] at hnodup ⊢
      have hnot : (a, b) ∉ l := fun hmem => hnodup.1 (List.mem_map.2 ⟨(a, b), hmem, rfl⟩)
      simp [hnot, eq_comm]
    · have hne : (a == k) = false := by simpa using hk
      rw [List.lookup_cons, hne]
      simp [hk, ih]

theorem commandRule_eq_some_iff {code : Byte} {rule : LengthRule} :
    commandRule code = some rule ↔ (code, rule) ∈ commandTable :=
  lookup_eq_some_iff_mem (by decide)

/-- Settles O5: Table 11-5 has distinct codes, and the processor's checks come before the block's body. -/
theorem processorRefusesWhatItCannotServe : Obligations.ProcessorRefusesWhatItCannotServe := by
  refine ⟨⟨fun code rule => commandRule_eq_some_iff, fun k low high n => ?_⟩, fun s r rest code h hrule => ?_,
    fun c s r rest code rule hc h hrule hlen => ?_,
    fun c s r rest code rule a hc h hphase hrule hlen h₁ h₂ h₃ h₅ hon hoff => ?_⟩
  · simp [LengthRule.allows]
  · have hnone : commandRule r.code = none := h.code ▸ hrule
    exact refuses_of_execute rfl h (by rw [hnone]; rfl) (State.execute_of_unknown hnone)
  · obtain ⟨mine, hexec, hmine⟩ := exec_request hc
    refine refuses_of_execute (hexec s) h ((hmine r).2 ⟨h.code, modeFits_of_badLength hc hrule hlen⟩) ?_
    exact State.execute_of_badLength (h.code ▸ hrule) hlen
  · obtain ⟨mine, hexec, hmine⟩ := exec_request hc
    have hfits : modeFits c r := ⟨fun e hmode => hon e hmode.2, fun e hmode => hoff e hmode.2⟩
    refine refuses_of_execute (hexec s) h ((hmine r).2 ⟨h.code, hfits⟩) ?_
    refine State.execute_of_faulted (h.code ▸ hrule) hlen ?_ (h.code ▸ servedInFaulted_eq_false h₁ h₂ h₃ h₅)
    show (s.withRequests rest).isFaulted = true
    unfold State.isFaulted
    rw [show (s.withRequests rest).device.phase = .faulted a from hphase]

/-! ### RESET (R176) -/

/-- Settles O4: the RESET reply is posted after the processor has stopped, so that its end resets the part. -/
theorem resetRequestResetsAfterItsReply : Obligations.ResetRequestResetsAfterItsReply := by
  refine ⟨fun s r rest h hpayload => ?_, fun s c hstopped hc => ?_, fun straps s e bytes hline horigin => ?_⟩
  · have hlen : (LengthRule.exactly 0).allows r.payload.length = true := by rw [hpayload]; rfl
    refine ⟨_, State.runRequest_served h (.inr rfl) rfl hlen resetBody, ?_, ?_⟩
    · exact ((s.withRequests_only rest).trans (State.modLink_only _ _)).trans (State.post_only _ _ _)
    · rfl
  · rcases hc with hsome | rfl
    · obtain ⟨code, hcode⟩ := Option.isSome_iff_exists.1 hsome
      obtain ⟨mine, hexec, _⟩ := exec_request hcode
      rw [hexec, State.takeRequest_of_stopped hstopped]
    · exact congrArg Host.Outcome.next (State.takeRequest_of_stopped hstopped _ _)
  · refine ⟨s.deviceReset .starting .request straps, ?_, atReset_deviceReset s _ _ straps, rfl, rfl, rfl⟩
    show execTransmitComplete straps s = _
    unfold execTransmitComplete
    rw [hline]
    simp only [horigin]

end Sys2Proof.Machine
end

section
/-! The requests that report and change nothing, and the counters (R24, R47, R60, R78, R126, R127, R149, R180 to
R182). -/
namespace Sys2Proof.Machine

/-! ### Fields that name something -/

theorem withIndex_byteOf {n : Nat} (i : Fin n) (h : n ≤ 256) (bs : List Byte) (s : State)
    (f : Fin n → Reply × State) : withIndex n (byteOf i.val :: bs) s f = f i := by
  unfold withIndex
  rw [show byteAt (byteOf i.val :: bs) 0 = byteOf i.val from rfl, finOf_byteOf i h]

theorem withLibId_libIdByte (i : LibId) (bs : List Byte) (s : State) (f : LibId → Reply × State) :
    withLibId (libIdByte i :: bs) s f = f i := by
  unfold withLibId
  rw [show byteAt (libIdByte i :: bs) 0 = libIdByte i from rfl, libIdOf_libIdByte]

/-- A request whose body answers from the state as it stands. -/
theorem performs_report {c : Instr} {s : State} {r : Request} {rest : List Request} {rep : Reply} {code : Byte}
    {rule : LengthRule} {body : Body} {payload : List Byte} (hexec : exec c s = s.runRequest code body)
    (ht : Takes s r rest code) (hrule : commandRule code = some rule) (hpayload : r.payload = payload)
    (hlen : rule.allows payload.length = true)
    (hbody : body payload (s.withRequests rest) = (rep, s.withRequests rest)) :
    Performs c s r rest rep [] fun _ => True :=
  performs_of_body hexec ht hrule (hpayload ▸ hlen) (hpayload ▸ hbody) rfl (OnlyChanges.refl _ _) trivial

/-! ### STATS_READ and STATS_CLEAR (R180, R181) -/

theorem objectOf_port (p : PortId) : objectOf (byteOf p.val) = some (.port p) := by
  unfold objectOf; rw [finOf_byteOf p (by decide)]

theorem objectOf_head : ∀ h : HeadId, objectOf (byteOf (16 + h.val)) = some (.head h) := by decide

theorem objectOf_link : objectOf 0x20 = some .link := by decide

theorem objectOf_none {b : Byte} (hport : 3 < b.toNat) (h₀ : b ≠ 0x10) (h₁ : b ≠ 0x11) (hlink : b ≠ 0x20) :
    objectOf b = none := by
  have hnone : finOf 4 b = none := dif_neg (by omega)
  unfold objectOf
  rw [hnone]
  simp only [if_neg h₀, if_neg h₁, if_neg hlink]

theorem headCounterBytes_eq_layout (hd : Head) : headCounterBytes hd = headCountersLayout hd := by
  have hposition : ∀ p : Position, (if hd.activeScene[p].isSome then leBytes 4 hd.selection[p].repeats.toNat
      else zeros 4) = leBytes 4 (if hd.activeScene[p].isSome then hd.selection[p].repeats.toNat else 0) := by
    intro p
    split <;> rfl
  unfold headCounterBytes headCountersLayout
  simp only [hposition]

/-- STATS_READ of a byte that names an object. -/
theorem statsRead_performs {s : State} {r : Request} {rest : List Request} {b : Byte} {o : StatsObject}
    (ht : TakesServed s r rest 0x03) (hpayload : r.payload = [b]) (ho : objectOf b = some o) :
    Performs .statsRead s r rest (.ok (b :: counterBytes s o)) [] fun _ => True := by
  have hbody : statsReadBody r.payload (s.withRequests rest) = (.ok (b :: counterBytes s o), s.withRequests rest) := by
    unfold statsReadBody
    rw [hpayload, show byteAt [b] 0 = b from rfl, ho]
    cases o <;> rfl
  exact performs_of_served_body rfl ht rfl rfl (by rw [hpayload]; rfl) hbody rfl (OnlyChanges.refl _ _) trivial

theorem statsRead_refuses {s : State} {r : Request} {rest : List Request} {b : Byte}
    (ht : TakesServed s r rest 0x03) (hpayload : r.payload = [b]) (ho : objectOf b = none) :
    Refuses .statsRead s r rest .badValue := by
  have hbody : statsReadBody r.payload (s.withRequests rest) = (.refuse .badValue, s.withRequests rest) := by
    unfold statsReadBody
    rw [hpayload, show byteAt [b] 0 = b from rfl, ho]
    rfl
  exact performs_of_served_body rfl ht rfl rfl (by rw [hpayload]; rfl) hbody rfl (OnlyChanges.refl _ _) trivial

theorem statsClearBody_eq {s : State} {b : Byte} {o : StatsObject} (ho : objectOf b = some o) :
    statsClearBody [b] s = (.ok (b :: counterBytes s o), s.clearCounters o) := by
  unfold statsClearBody
  rw [show byteAt [b] 0 = b from rfl, ho]

theorem statsClear_refuses {s : State} {r : Request} {rest : List Request} {b : Byte}
    (ht : Takes s r rest 0x04) (hpayload : r.payload = [b]) (ho : objectOf b = none) :
    Refuses .statsClear s r rest .badValue := by
  refine refuses_of_body rfl ht rfl (by rw [hpayload]; rfl) ?_
  unfold statsClearBody
  rw [hpayload, show byteAt [b] 0 = b from rfl, ho]
  rfl

theorem statsClear_port {s : State} {r : Request} {rest : List Request} (ht : Takes s r rest 0x04) (p : PortId)
    (hpayload : r.payload = [byteOf p.val]) :
    Performs .statsClear s r rest (.ok (byteOf p.val :: portCountersLayout (s.port p))) [.ports] fun t =>
      OtherPorts p s t ∧ t.port p = { s.port p with counters := ⟨0, 0, 0, 0, 0, 0⟩ } := by
  have hbody : statsClearBody r.payload (s.withRequests rest) =
      (.ok (byteOf p.val :: portCountersLayout (s.port p)), (s.withRequests rest).clearCounters (.port p)) := by
    rw [hpayload]; exact statsClearBody_eq (objectOf_port p)
  refine performs_of_body rfl ht rfl (by rw [hpayload]; rfl) hbody rfl (State.modPort_only _ _ _) ?_
  exact ⟨fun q hq => State.port_modPort_other (s.withRequests rest) (fun q => { q with counters := .zero }) hq,
    State.port_modPort_same (s.withRequests rest) p fun q => { q with counters := .zero }⟩

theorem statsClear_head {s : State} {r : Request} {rest : List Request} (ht : Takes s r rest 0x04) (h : HeadId)
    (hpayload : r.payload = [byteOf (16 + h.val)]) :
    Performs .statsClear s r rest (.ok (byteOf (16 + h.val) :: headCountersLayout (s.head h))) [.heads] fun t =>
      OtherHeads h s t ∧
      (∀ p, t.selectionAt h p = { s.selectionAt h p with repeats := 0 }) ∧
      t.head h = { s.head h with
        boundaries := 0
        shortfalls := 0
        anc := { (s.head h).anc with sent := 0, defaults := 0 }
        selection := (t.head h).selection } := by
  have hbody : statsClearBody r.payload (s.withRequests rest) =
      (.ok (byteOf (16 + h.val) :: headCountersLayout (s.head h)), (s.withRequests rest).clearCounters (.head h)) := by
    rw [hpayload, statsClearBody_eq (objectOf_head h), ← headCounterBytes_eq_layout]
    rfl
  refine performs_of_body rfl ht rfl (by rw [hpayload]; rfl) hbody rfl (State.modHead_only _ _ _) ?_
  have hhead : ∀ rep, (((s.withRequests rest).clearCounters (.head h)).post r rep).head h = (s.head h).cleared :=
    fun _ => State.head_modHead_same (s.withRequests rest) h _
  refine ⟨fun g hg => State.head_modHead_other (s.withRequests rest) _ hg, fun p => ?_, ?_⟩
  · unfold State.selectionAt
    rw [hhead]
    exact Vector.getElem_map ..
  · rw [hhead]
    rfl

theorem statsClear_link {s : State} {r : Request} {rest : List Request} (ht : Takes s r rest 0x04)
    (hpayload : r.payload = [0x20]) :
    ∃ t, exec .statsClear s = .next t ∧ OnlyChanges [.link] s t ∧
      t.link = { s.link with
        requestQueue := rest
        replyLine := s.link.replyLine ++
          [⟨.posted r.crc, r.tag, r.code, .ok (0x20 :: linkCountersLayout s.link.counters)⟩]
        counters := ⟨0, 0, 0, 0, 0, 0, 0, 0, 0⟩ } := by
  have hbody : statsClearBody r.payload (s.withRequests rest) =
      (.ok (0x20 :: linkCountersLayout s.link.counters), (s.withRequests rest).clearCounters .link) := by
    rw [hpayload]; exact statsClearBody_eq objectOf_link
  refine ⟨_, State.runRequest_taken ht (rule := .exactly 1) rfl (by rw [hpayload]; rfl) statsClearBody, ?_, ?_⟩
  · rw [hbody]
    exact ((s.withRequests_only rest).trans (State.countLink_only _ _)).trans (State.post_only _ _ _)
  · rw [hbody]
    exact State.link_post (s := (s.withRequests rest).clearCounters .link) ht.runs r _

/-- Settles O7: the object byte names the counters, which are read or set to 0. -/
theorem statsReadAndClear : Obligations.StatsReadAndClear := by
  refine ⟨fun s r rest ht => ⟨fun p hp => statsRead_performs ht hp (objectOf_port p), fun h hp => ?_,
      fun hp => statsRead_performs ht hp objectOf_link, fun b hp hport h₀ h₁ hlink =>
        statsRead_refuses ht hp (objectOf_none hport h₀ h₁ hlink)⟩,
    fun s r rest ht => ⟨statsClear_port ht, statsClear_head ht, statsClear_link ht,
      fun b hp hport h₀ h₁ hlink => statsClear_refuses ht hp (objectOf_none hport h₀ h₁ hlink)⟩⟩
  rw [← headCounterBytes_eq_layout]
  exact statsRead_performs ht hp (objectOf_head h)

/-! ### The layouts of the reports (Tables 11-9 and 11-10) -/

theorem byteOf_getD_leBytes (k n : Nat) : ∀ j, j < k → (leBytes k n).getD j 0 = byteOf (n / 256 ^ j) := by
  induction k generalizing n with
  | zero => exact fun j hj => absurd hj (Nat.not_lt_zero j)
  | succ k ih =>
    intro j hj
    cases j with
    | zero => simp [leBytes]
    | succ j =>
      rw [leBytes, List.getD_cons_succ, ih _ _ (Nat.lt_of_succ_lt_succ hj), Nat.div_div_eq_div_mul, Nat.pow_succ,
        Nat.mul_comm]

theorem signedField_eq (i : Int) : signedField i = signedBytes i := by
  simp [signedField, signedBytes, BitVec.toNat_ofInt]

theorem signedBytes_length (i : Int) : (signedBytes i).length = 2 := leBytes_length 2 _

theorem measurementField_eq (m : Option Measurement) : measurementField m = measurementBytes m := by
  cases m <;> rfl

theorem measurementBytes_length (m : Option Measurement) : (measurementBytes m).length = 10 := by
  cases m <;> simp [measurementBytes]

theorem portReport_eq_layout (q : Port) (n : Nat) : portReport q n = portLayout q n := by
  have hdetector : [q.detector.state.byte] ++ measurementBytes q.detector.lockedMeasurement ++
      measurementBytes q.latest ++ measurementBytes q.detector.reference ++
      [byteOf q.detector.matchCount, byteOf q.detector.outOfRange] =
      (match q.detector with
        | .noSignal => [0] ++ measurementField none ++ measurementField q.latest ++ measurementField none ++ [0, 0]
        | .acquiring r k o =>
          [1] ++ measurementField none ++ measurementField q.latest ++ measurementField r ++ [byteOf k, byteOf o]
        | .locked m =>
          [2] ++ measurementField (some m) ++ measurementField q.latest ++ measurementField none ++ [0, 0]
        | .unsupported =>
          [3] ++ measurementField none ++ measurementField q.latest ++ measurementField none ++ [0, 0]) := by
    simp only [measurementField_eq]
    cases q.detector <;> rfl
  have hwriter : [q.writer.byte] ++ q.writer.fillBytes =
      (match q.writer with
        | .off => [0] ++ List.replicate 10 0
        | .armed => [1] ++ List.replicate 10 0
        | .filling .progressive i n => [2, 1, byteOf i.val] ++ leBytes 8 n.toNat
        | .filling .first i n => [3, 1, byteOf i.val] ++ leBytes 8 n.toNat
        | .filling .await i n => [4, 1, byteOf i.val] ++ leBytes 8 n.toNat
        | .filling .second i n => [5, 1, byteOf i.val] ++ leBytes 8 n.toNat) := by
    cases q.writer with
    | off => rfl
    | armed => rfl
    | filling m i n => cases m <;> rfl
  calc portReport q n
      = ([q.detector.state.byte] ++ measurementBytes q.detector.lockedMeasurement ++ measurementBytes q.latest ++
          measurementBytes q.detector.reference ++ [byteOf q.detector.matchCount, byteOf q.detector.outOfRange]) ++
        ([q.writer.byte] ++ q.writer.fillBytes) ++ leBytes 8 q.frameNumber.toNat ++
        [byteOf q.depth, byteOf n, flagByte q.starved] ++ q.counters.bytes := by
        simp only [portReport, List.append_assoc]
    _ = portLayout q n := by
        rw [hdetector, hwriter]
        simp only [PortCounters.bytes, ← List.append_assoc]
        rfl

theorem fillBytes_length (w : Writer) : w.fillBytes.length = 10 := by
  cases w <;> simp [Writer.fillBytes]

theorem portReport_length (q : Port) (n : Nat) : (portReport q n).length = 79 := by
  simp [portReport, PortCounters.bytes, measurementBytes_length, fillBytes_length]

theorem slotBytes_eq_layout (v : Slot) : v.bytes = slotLayout v := by
  cases v <;> rfl

theorem slotBytes_length (v : Slot) : v.bytes.length = 17 := by
  cases v <;> simp [Slot.bytes, StoredFrame.bytes, Geometry.bytes]

theorem pinBytes_eq_layout (v : Option PinEntry) : pinBytes v = pinLayout v := by
  cases v <;> rfl

theorem pinBytes_length (v : Option PinEntry) : (pinBytes v).length = 11 := by
  cases v <;> simp [pinBytes]

theorem storeSlots_length (s : State) {k : Nat} (h : 12 * k + 12 ≤ 24) : (storeSlots s k).length = 205 := by
  have hlen : ((slotIds.drop (12 * k)).take 12).length = 12 := by
    rw [List.length_take, List.length_drop, show slotIds.length = 24 from rfl]; omega
  have hrecords : (List.length ∘ fun i => (s.slot i).bytes) = fun _ : SlotId => 17 :=
    funext fun i => slotBytes_length _
  simp only [storeSlots, List.length_cons, List.length_flatten, List.map_map, hrecords, List.map_const', hlen]
  rfl

theorem storeLists_eq_layout (s : State) : storeLists s = listsLayout s := by
  have hpin : (pinIds.map fun i => pinBytes (s.pin i)) =
      ([0, 1, 2, 3, 4, 5, 6, 7] : List PinId).map fun i => pinLayout (s.pin i) :=
    List.map_congr_left fun i _ => pinBytes_eq_layout _
  unfold storeLists listsLayout
  rw [hpin]
  rfl

theorem storeLists_length (s : State) : (storeLists s).length =
    98 + (s.pool.freeList ++ s.readyList 0 ++ s.readyList 1 ++ s.readyList 2 ++ s.readyList 3).length := by
  simp only [storeLists, slotListBytes, portIds, pinIds, List.map_cons, List.map_nil, List.flatten_cons,
    List.flatten_nil, List.length_append, List.length_cons, List.length_map, List.length_nil, pinBytes_length]
  omega

/-- No slot stands in the free list and a ready list, or in two ready lists. -/
theorem nodup_lists_of_poolOk {s : State} (h : PoolOk s) :
    (s.pool.freeList ++ s.readyList 0 ++ s.readyList 1 ++ s.readyList 2 ++ s.readyList 3).Nodup := by
  obtain ⟨hnodup, hfree, hlists, hready, _⟩ := h
  have hapart : ∀ (p q : PortId) (i : SlotId), i ∈ s.readyList p → i ∈ s.readyList q → p = q := fun p q i hp hq =>
    Option.some.inj (((hready p i).1 hp).symm.trans ((hready q i).1 hq))
  have hnotFree : ∀ (p : PortId) (i : SlotId), i ∈ s.pool.freeList → i ∉ s.readyList p := fun p i hi hp => by
    have := (hready p i).1 hp
    rw [(hfree i).1 hi] at this
    cases this
  simp only [List.nodup_append, List.mem_append]
  refine ⟨⟨⟨⟨hnodup, (hlists 0).1, ?_⟩, (hlists 1).1, ?_⟩, (hlists 2).1, ?_⟩, (hlists 3).1, ?_⟩
  · rintro i hi _ hj rfl
    exact hnotFree 0 i hi hj
  · rintro i (hi | hi) _ hj rfl
    · exact hnotFree 1 i hi hj
    · exact absurd (hapart 0 1 i hi hj) (by decide)
  · rintro i ((hi | hi) | hi) _ hj rfl
    · exact hnotFree 2 i hi hj
    · exact absurd (hapart 0 2 i hi hj) (by decide)
    · exact absurd (hapart 1 2 i hi hj) (by decide)
  · rintro i (((hi | hi) | hi) | hi) _ hj rfl
    · exact hnotFree 3 i hi hj
    · exact absurd (hapart 0 3 i hi hj) (by decide)
    · exact absurd (hapart 1 3 i hi hj) (by decide)
    · exact absurd (hapart 2 3 i hi hj) (by decide)

theorem storeLists_bounds {s : State} (h : PoolOk s) : 98 ≤ (storeLists s).length ∧ (storeLists s).length ≤ 122 := by
  have hcard := (nodup_lists_of_poolOk h).length_le_card
  rw [show Fintype.card SlotId = 24 from Fintype.card_fin 24] at hcard
  rw [storeLists_length]
  omega

theorem headReport_eq_layout (hd : Head) : headReport hd = headLayout hd := by
  have hstate : [hd.state.byte] = (match hd.state with
      | .off => [0]
      | .running => [1]
      | .muted => [2] : List Byte) := by
    cases hd.state <;> rfl
  have hsource : [followSourceByte hd.follow.source] = (match hd.follow.source with
      | none => [255]
      | some p => [byteOf p.val] : List Byte) := by
    cases hd.follow.source <;> rfl
  have hfollow : [hd.follow.state.byte] = (match hd.follow.state with
      | .freeRun => [0]
      | .pulling => [1]
      | .following => [2] : List Byte) := by
    cases hd.follow.state <;> rfl
  have htiming : timingBytes hd.timing = optionalField 12 (hd.timing.map fun t => leBytes 2 t.activeWidth ++
      leBytes 2 t.activeLines ++ leBytes 2 t.totalWidth ++ leBytes 2 t.totalLines ++ leBytes 4 t.pixelClock) := by
    cases hd.timing <;> rfl
  have hlines : optionalBytes 2 hd.frameLines = optionalField 2 (hd.frameLines.map (leBytes 2)) := by
    cases hd.frameLines <;> rfl
  have herror : phaseErrorBytes hd.follow.phaseError = optionalField 2 (hd.follow.phaseError.map signedField) := by
    cases hd.follow.phaseError with
    | none => rfl
    | some e => exact congrArg (List.cons 1) (signedField_eq e).symm
  calc headReport hd
      = [hd.state.byte] ++ [flagByte hd.presentPending] ++ timingBytes hd.timing ++ leBytes 4 hd.boundaryCount.toNat ++
        optionalBytes 2 hd.frameLines ++ hd.background.bytes ++ hd.muteColour.bytes ++
        [followSourceByte hd.follow.source] ++ [byteOf hd.follow.window, byteOf hd.follow.lead] ++
        [hd.follow.state.byte] ++ [byteOf hd.follow.runCount] ++ phaseErrorBytes hd.follow.phaseError := by
        simp [headReport]
    _ = headLayout hd := by
        rw [hstate, hsource, hfollow, htiming, hlines, herror]
        rfl

theorem headReport_length (hd : Head) : (headReport hd).length = 36 := by
  have htiming : (timingBytes hd.timing).length = 13 := by cases hd.timing <;> simp [timingBytes]
  have hlines : (optionalBytes 2 hd.frameLines).length = 3 := by cases hd.frameLines <;> simp [optionalBytes]
  have herror : (phaseErrorBytes hd.follow.phaseError).length = 3 := by
    cases hd.follow.phaseError <;> simp [phaseErrorBytes, signedBytes_length]
  simp [headReport, htiming, hlines, herror]

theorem infoBytes_some (e : EntryInfo) : infoBytes (some e) = infoLayout e := by
  cases hk : e.kind <;> simp [infoBytes, infoLayout, hk, EntryKind.byte]

theorem infoBytes_length (e : Option EntryInfo) : (infoBytes e).length = 17 := by
  cases e <;> simp [infoBytes]

theorem entryReport_eq_layout (s : State) (i : LibId) : entryReport s i = entryLayout s i := by
  have hplace : byteOf (if i ∈ s.library.verifyQueue.drop 1 then 1 else 0) =
      if i ∈ s.library.verifyQueue.drop 1 then 1 else 0 := by
    split <;> rfl
  unfold entryReport entryLayout
  rw [← hplace]
  cases s.entry i with
  | empty => rfl
  | receiving e n => simp [Entry.byte, Entry.info?, Entry.received, Entry.useCount, infoBytes_some]; rfl
  | verifying e => simp [Entry.byte, Entry.info?, Entry.received, Entry.useCount, infoBytes_some]; rfl
  | valid e n => simp [Entry.byte, Entry.info?, Entry.received, Entry.useCount, infoBytes_some]

theorem entryReport_length (s : State) (i : LibId) : (entryReport s i).length = 24 := by
  simp [entryReport, infoBytes_length]

theorem jobBytes_eq_layout (l : Loader) (h : HeadId) : (l.jobOf h).bytes =
    (match l.job.filter (fun e => decide (e.1 = h)), l.queue.find? fun e => decide (e.1 = h) with
      | some e, _ => [2, idField e.2]
      | none, some e => [1, idField e.2]
      | none, none => [0, 0]) := by
  have hqueued : (Loader.jobOf.queuedOf l h).bytes =
      (match l.queue.find? fun e => decide (e.1 = h) with
        | some e => [1, idField e.2]
        | none => [0, 0]) := by
    unfold Loader.jobOf.queuedOf
    cases l.queue.find? fun e => decide (e.1 = h) <;> rfl
  unfold Loader.jobOf
  cases hjob : l.job with
  | none =>
    refine hqueued.trans ?_
    cases l.queue.find? fun e => decide (e.1 = h) <;> rfl
  | some e =>
    by_cases he : e.1 = h
    · simp [he, Option.filter, Job.bytes, libIdByte, idField]
    · simp only [he, if_false, Option.filter, decide_false, Bool.false_eq_true]
      refine hqueued.trans ?_
      cases l.queue.find? fun e => decide (e.1 = h) <;> rfl

theorem cursorReport_eq_layout (s : State) (h : HeadId) : cursorReport s h = cursorLayout s h (s.head h).cursor := by
  have hposition : pendingPositionBytes (s.head h).cursor.pendingPosition =
      optionalField 4 ((s.head h).cursor.pendingPosition.map fun q => signedField q.1 ++ signedField q.2) := by
    simp only [signedField_eq]
    cases (s.head h).cursor.pendingPosition <;> rfl
  have hback : (s.head h).cursor.back.bytes = (match (s.head h).cursor.back with
      | .empty => [0, 0]
      | .loading i => [1, idField i]
      | .loaded sh => [2, idField sh.id]) := by
    cases (s.head h).cursor.back <;> rfl
  have hfront : idBytes ((s.head h).cursor.front.map Shape.id) =
      optionalField 1 ((s.head h).cursor.front.map fun sh => [idField sh.id]) := by
    cases (s.head h).cursor.front <;> rfl
  have hwaiting : idBytes (s.head h).cursor.waiting = optionalField 1 ((s.head h).cursor.waiting.map fun i => [idField i]) := by
    cases (s.head h).cursor.waiting <;> rfl
  simp only [cursorReport]
  rw [jobBytes_eq_layout, hback, hposition, hfront, hwaiting]
  simp only [← signedField_eq]
  rfl

theorem cursorReport_length (s : State) (h : HeadId) : (cursorReport s h).length = 24 := by
  have hid : ∀ i, (idBytes i).length = 2 := fun i => by cases i <;> simp [idBytes]
  have hposition : (pendingPositionBytes (s.head h).cursor.pendingPosition).length = 5 := by
    cases (s.head h).cursor.pendingPosition <;> simp [pendingPositionBytes, signedBytes_length]
  have hback : (s.head h).cursor.back.bytes.length = 2 := by cases (s.head h).cursor.back <;> rfl
  have hjob : (s.loader.jobOf h).bytes.length = 2 := by cases s.loader.jobOf h <;> rfl
  simp [cursorReport, signedBytes_length, hid, hposition, hback, hjob]

theorem inserterReport_eq_layout (a : Ancillary) : inserterReport a = inserterLayout a := by
  unfold inserterReport inserterLayout
  cases a.queue <;> rfl

theorem inserterReport_length (a : Ancillary) : (inserterReport a).length = 17 := by
  rw [inserterReport_eq_layout]
  unfold inserterLayout
  cases a.queue <;> simp

theorem selectionReport_eq_layout (v : Selection) : selectionReport v = selectionLayout v := by
  unfold selectionReport selectionLayout
  cases v.current <;> cases v.lastShown <;> rfl

theorem selectionReport_length (v : Selection) : (selectionReport v).length = 23 := by
  rw [selectionReport_eq_layout]
  unfold selectionLayout
  cases v.current <;> cases v.lastShown <;> simp [optionalField]

/-! ### The bytes of a window record (Table 11-7) -/

theorem Rect.bytes_length (r : Rect) : r.bytes.length = 8 := by simp [Rect.bytes]

theorem referenceBytes_length (c : Content) : c.referenceBytes.length = 3 := by cases c <;> rfl

theorem choiceBytes_length (c : Content) : c.choiceBytes.length = 3 := by cases c <;> rfl

theorem fallbackBytes_length (f : Option Fallback) : (fallbackBytes f).length = 4 := by
  rcases f with _ | _ | _ <;> rfl

theorem cropBytes_length (r : Option Rect) : (cropBytes r).length = 8 := by
  cases r with
  | none => rfl
  | some r => exact Rect.bytes_length r

theorem borderBytes_length (b : Option Border) : (borderBytes b).length = 5 := by cases b <;> rfl

theorem WindowRecord.bytes_length (r : WindowRecord) : r.bytes.length = 35 := by
  simp [WindowRecord.bytes, referenceBytes_length, choiceBytes_length, fallbackBytes_length, cropBytes_length,
    Rect.bytes_length, borderBytes_length]

/-! ### The requests that report -/

theorem portStatus_performs {s : State} {r : Request} {rest : List Request} {p : PortId} (ht : Takes s r rest 0x14)
    (hp : r.payload = [byteOf p.val]) :
    Performs .portStatus s r rest (.ok (portReport (s.port p) (s.readyList p).length)) [] fun _ => True :=
  performs_report rfl ht rfl hp rfl (withIndex_byteOf p (by decide) _ _ _)

theorem storeStatus_performs {s : State} {r : Request} {rest : List Request} {k : Fin 3} (ht : Takes s r rest 0x1A)
    (hp : r.payload = [byteOf k.val]) :
    Performs .storeStatus s r rest (.ok (if k = 2 then storeLists s else storeSlots s k.val)) [] fun _ => True :=
  performs_report rfl ht rfl hp rfl (withIndex_byteOf k (by decide) _ _ _)

theorem headStatus_performs {s : State} {r : Request} {rest : List Request} {h : HeadId} (ht : Takes s r rest 0x36)
    (hp : r.payload = [byteOf h.val]) :
    Performs .headStatus s r rest (.ok (headReport (s.head h))) [] fun _ => True :=
  performs_report rfl ht rfl hp rfl (withIndex_byteOf h (by decide) _ _ _)

theorem libList_performs {s : State} {r : Request} {rest : List Request} {i : LibId} (ht : Takes s r rest 0x44)
    (hp : r.payload = [libIdByte i]) : Performs .libList s r rest (.ok (entryReport s i)) [] fun _ => True :=
  performs_report rfl ht rfl hp rfl (withLibId_libIdByte i _ _ _)

theorem ancStatus_performs {s : State} {r : Request} {rest : List Request} {h : HeadId} (ht : Takes s r rest 0x5B)
    (hp : r.payload = [byteOf h.val]) :
    Performs .ancStatus s r rest (.ok (inserterReport (s.head h).anc)) [] fun _ => True :=
  performs_report rfl ht rfl hp rfl (withIndex_byteOf h (by decide) _ _ _)

theorem sceneRead_pending {s : State} {r : Request} {rest : List Request} {h : HeadId} {p : Position}
    (ht : Takes s r rest 0x23) (hp : r.payload = [byteOf h.val, 0, byteOf p.val]) :
    Performs .sceneRead s r rest (.ok (recordReport (s.head h).pendingScene[p])) [] fun _ => True := by
  refine performs_report rfl ht rfl hp rfl ((withIndex_byteOf h (by decide) _ _ _).trans ?_)
  rw [show byteAt [byteOf h.val, 0, byteOf p.val] 2 = byteOf p.val from rfl, finOf_byteOf p (by decide)]
  rfl

theorem sceneRead_active {s : State} {r : Request} {rest : List Request} {h : HeadId} {p : Position}
    (ht : Takes s r rest 0x23) (hp : r.payload = [byteOf h.val, 1, byteOf p.val]) :
    Performs .sceneRead s r rest
      (.ok (recordReport (s.head h).activeScene[p] ++ selectionReport (s.selectionAt h p))) [] fun _ => True := by
  refine performs_report rfl ht rfl hp rfl ((withIndex_byteOf h (by decide) _ _ _).trans ?_)
  rw [show byteAt [byteOf h.val, 1, byteOf p.val] 2 = byteOf p.val from rfl, finOf_byteOf p (by decide)]
  rfl

theorem echo_performs {s : State} {r : Request} {rest : List Request} (ht : TakesServed s r rest 0x05)
    (hlen : r.payload.length ≤ 256) : Performs .echo s r rest (.ok r.payload) [] fun _ => True :=
  performs_of_served_body (rule := .between 0 256) rfl ht rfl rfl (by simp [LengthRule.allows, hlen]) rfl rfl
    (OnlyChanges.refl _ _) trivial

/-- Settles O8: each report is its layout, and a request that reports answers from the state as it stands. -/
theorem reportsChangeNothing : Obligations.ReportsChangeNothing := by
  refine ⟨⟨fun n k => ⟨byteOf_toNat n, leBytes_length k n, byteOf_getD_leBytes k n⟩,
      fun q n => ⟨portReport_eq_layout q n, portReport_length q n⟩, fun s => ?_,
      fun hd => ⟨headReport_eq_layout hd, headReport_length hd⟩,
      fun s i => ⟨entryReport_eq_layout s i, entryReport_length s i⟩,
      fun s h => ⟨cursorReport_eq_layout s h, cursorReport_length s h⟩,
      fun a => ⟨inserterReport_eq_layout a, inserterReport_length a⟩,
      fun v => ⟨selectionReport_eq_layout v, selectionReport_length v⟩⟩,
    ⟨fun s r rest p ht hp => portStatus_performs ht hp, fun s r rest ht => ?_,
      fun s r rest h ht hp => headStatus_performs ht hp, fun s r rest i ht hp => libList_performs ht hp,
      fun s r rest ht hp => performs_report rfl ht rfl hp rfl rfl,
      fun s r rest h ht hp => ancStatus_performs ht hp⟩,
    fun s r rest h p ht => ⟨fun hp => ?_, fun hp => ?_, WindowRecord.bytes_length⟩,
    fun s r rest ht hlen => echo_performs ht hlen⟩
  · have hslots : ∀ l : List SlotId, (l.map fun i => (s.slot i).bytes) = l.map fun i => slotLayout (s.slot i) :=
      fun l => List.map_congr_left fun i _ => slotBytes_eq_layout _
    refine ⟨?_, ?_, storeSlots_length s (by decide), storeSlots_length s (by decide), storeLists_eq_layout s,
      storeLists_bounds⟩
    · unfold storeSlots; rw [hslots]; rfl
    · unfold storeSlots; rw [hslots]; rfl
  · exact ⟨fun hp => storeStatus_performs (k := 0) ht hp, fun hp => storeStatus_performs (k := 1) ht hp,
      fun hp => storeStatus_performs (k := 2) ht hp⟩
  · have hread := sceneRead_pending ht hp
    exact ⟨fun w hw => by rwa [hw] at hread, fun hnone => by rwa [hnone] at hread⟩
  · have hread := sceneRead_active ht hp
    exact ⟨fun w hw => by rwa [hw] at hread, fun hnone => by rwa [hnone] at hread⟩

end Sys2Proof.Machine
end

section
/-! What a request leaves alone: everything when it is refused, and the other head when it names one. -/
namespace Sys2Proof.Machine

/-! ### What a body answers -/

/-- A body's answer that is neither OK nor ACCEPTED comes with the state as it was. -/
def KeepsWhenRefused (s : State) (x : Reply × State) : Prop :=
  x.1.status = .ok ∨ x.1.status = .accepted ∨ x.2 = s

theorem KeepsWhenRefused.same (s : State) (rep : Reply) : KeepsWhenRefused s (rep, s) := .inr (.inr rfl)

theorem KeepsWhenRefused.answered {s t : State} {rep : Reply} (h : rep.status = .ok) : KeepsWhenRefused s (rep, t) :=
  .inl h

theorem KeepsWhenRefused.accepted {s t : State} {rep : Reply} (h : rep.status = .accepted) :
    KeepsWhenRefused s (rep, t) := .inr (.inl h)

theorem KeepsWhenRefused.withIndex {n : Nat} {bs : List Byte} {s : State} {f : Fin n → Reply × State}
    (h : ∀ i, KeepsWhenRefused s (f i)) : KeepsWhenRefused s (withIndex n bs s f) := by
  unfold Machine.withIndex
  split
  · exact h _
  · exact .same s _

theorem KeepsWhenRefused.withLibId {bs : List Byte} {s : State} {f : LibId → Reply × State}
    (h : ∀ i, KeepsWhenRefused s (f i)) : KeepsWhenRefused s (withLibId bs s f) := by
  unfold Machine.withLibId
  split
  · exact h _
  · exact .same s _

/-- What the body of a request that names head `h` answers: a refusal changes nothing, and no answer touches the
other head. -/
structure ServesHead (h : HeadId) (s : State) (x : Reply × State) : Prop where
  kept : KeepsWhenRefused s x
  others : OtherHeads h s x.2

theorem ServesHead.same (h : HeadId) (s : State) (rep : Reply) : ServesHead h s (rep, s) :=
  ⟨.same s rep, .refl h s⟩

theorem ServesHead.answered {h : HeadId} {s t : State} {rep : Reply} (hok : rep.status = .ok)
    (ht : OtherHeads h s t) : ServesHead h s (rep, t) := ⟨.answered hok, ht⟩

theorem ServesHead.done {h : HeadId} {s t : State} (ht : OtherHeads h s t) : ServesHead h s (done t) :=
  .answered rfl ht

theorem ServesHead.accepted {h : HeadId} {s t : State} {rep : Reply} (hok : rep.status = .accepted)
    (ht : OtherHeads h s t) : ServesHead h s (rep, t) := ⟨.accepted hok, ht⟩

/-! ### The bodies of the requests that name a head -/

/-- A body whose first byte names a head, which it serves. -/
def HeadBody (body : Body) : Prop :=
  ∀ bs s, ∃ f : HeadId → Reply × State, body bs s = withIndex 2 bs s f ∧ ∀ h, ServesHead h s (f h)

theorem scenePutBody_servesHead : HeadBody scenePutBody := fun bs s => ⟨_, rfl, fun h => by
  split
  · split
    · exact .same h s _
    · split
      · exact .done (s.putPending_others h _ _)
      · exact .same h s _
  · exact .same h s _⟩

theorem sceneRemoveBody_servesHead : HeadBody sceneRemoveBody := fun bs s => ⟨_, rfl, fun h => by
  split
  · exact .same h s _
  · split
    · exact .same h s _
    · exact .done (s.putPending_others h _ _)⟩

theorem sceneRestartBody_servesHead : HeadBody sceneRestartBody := fun bs s => ⟨_, rfl, fun h => by
  split
  · exact .same h s _
  · split
    · exact .same h s _
    · exact .done (s.reloadPending_others h _)⟩

theorem sceneReadBody_servesHead : HeadBody sceneReadBody := fun bs s => ⟨_, rfl, fun h => by
  split <;> exact .same h s _⟩

theorem scenePresentBody_servesHead : HeadBody scenePresentBody := fun bs s => ⟨_, rfl, fun h => by
  split
  · exact .same h s _
  · split
    · exact .same h s _
    · split
      · exact .done (s.swapOff_others h)
      · exact .accepted rfl (s.modHead_others h _)⟩

theorem headTimingBody_servesHead : HeadBody headTimingBody := fun bs s => ⟨_, rfl, fun h => by
  split
  · split
    · exact .done (s.modHead_others h _)
    · exact .same h s _
  · exact .same h s _⟩

theorem headOnBody_servesHead : HeadBody headOnBody := fun bs s => ⟨_, rfl, fun h => by
  split
  · exact .same h s _
  · split
    · exact .same h s _
    · split
      · exact .same h s _
      · exact .done (s.modHead_others h _)⟩

theorem headOffBody_servesHead : HeadBody headOffBody := fun bs s => ⟨_, rfl, fun h => by
  split
  · exact .same h s _
  · exact .done (s.switchOff_others h)⟩

theorem headMuteBody_servesHead : HeadBody headMuteBody := fun bs s => ⟨_, rfl, fun h => by
  split
  · exact .same h s _
  · split
    · exact .same h s _
    · exact .done (s.modHead_others h _)⟩

theorem headBackgroundBody_servesHead : HeadBody headBackgroundBody := fun _ s => ⟨_, rfl, fun h =>
  .done (s.modHead_others h _)⟩

theorem headFollowBody_servesHead : HeadBody headFollowBody := fun bs s => ⟨_, rfl, fun h => by
  split
  · exact .same h s _
  · split
    · exact .done (s.setFollow_others h _ _ _)
    · exact .same h s _⟩

theorem headStatusBody_servesHead : HeadBody headStatusBody := fun _ s => ⟨_, rfl, fun h => .same h s _⟩

theorem State.placeShape_others (s : State) (h : HeadId) (i : LibId) : OtherHeads h s (s.placeShape h i) := by
  unfold State.placeShape
  split
  · exact .of_only (s.setLoader_only _) (by decide)
  · exact .of_only (s.setLoader_only _) (by decide)
  · exact s.modHead_others h _

theorem cursorShapeBody_servesHead : HeadBody cursorShapeBody := fun bs s => ⟨_, rfl, fun h => by
  split
  · exact .same h s _
  · split
    · exact .accepted rfl (s.placeShape_others h _)
    · exact .same h s _⟩

theorem cursorMoveBody_servesHead : HeadBody cursorMoveBody := fun bs s => ⟨_, rfl, fun h => by
  split
  · exact .answered rfl (s.modHead_others h _)
  · exact .same h s _⟩

theorem cursorShowBody_servesHead : HeadBody cursorShowBody := fun bs s => ⟨_, rfl, fun h => by
  split
  · exact .answered rfl (s.modHead_others h _)
  · split
    · exact .answered rfl (s.modHead_others h _)
    · split
      · exact .same h s _
      · exact .same h s _⟩

theorem cursorPaletteBody_servesHead : HeadBody cursorPaletteBody := fun _ s => ⟨_, rfl, fun h =>
  .answered rfl (s.modHead_others h _)⟩

theorem ancConfigBody_servesHead : HeadBody ancConfigBody := fun bs s => ⟨_, rfl, fun h => by
  split
  · split
    · exact .answered rfl (s.modHead_others h _)
    · exact .same h s _
  · exact .same h s _⟩

theorem ancPushBody_servesHead : HeadBody ancPushBody := fun bs s => ⟨_, rfl, fun h => by
  split
  · exact .same h s _
  · split
    · exact .same h s _
    · exact .answered rfl (s.modHead_others h _)⟩

theorem ancFlushBody_servesHead : HeadBody ancFlushBody := fun _ s => ⟨_, rfl, fun h =>
  .answered rfl (s.modHead_others h _)⟩

theorem ancStatusBody_servesHead : HeadBody ancStatusBody := fun _ s => ⟨_, rfl, fun h => .same h s _⟩

/-- The command of every scene, head, cursor and inserter request serves the head that its first byte names. -/
theorem headBody_bodyOf {c : Instr} {code : Byte} (hc : requestCode c = some code) (hnames : codeNamesHead code = true) :
    HeadBody (bodyOf c) := by
  cases c with
  | scenePut => exact scenePutBody_servesHead
  | sceneRemove => exact sceneRemoveBody_servesHead
  | sceneRestart => exact sceneRestartBody_servesHead
  | sceneRead => exact sceneReadBody_servesHead
  | scenePresent => exact scenePresentBody_servesHead
  | headTiming => exact headTimingBody_servesHead
  | headOn => exact headOnBody_servesHead
  | headOff => exact headOffBody_servesHead
  | headMute => exact headMuteBody_servesHead
  | headBackground => exact headBackgroundBody_servesHead
  | headFollow => exact headFollowBody_servesHead
  | headStatus => exact headStatusBody_servesHead
  | cursorShape => exact cursorShapeBody_servesHead
  | cursorMove => exact cursorMoveBody_servesHead
  | cursorShow => exact cursorShowBody_servesHead
  | cursorPalette => exact cursorPaletteBody_servesHead
  | ancConfig => exact ancConfigBody_servesHead
  | ancPush => exact ancPushBody_servesHead
  | ancFlush => exact ancFlushBody_servesHead
  | ancStatus => exact ancStatusBody_servesHead
  | _ => cases hc <;> cases hnames

theorem HeadBody.keeps {body : Body} (h : HeadBody body) (bs : List Byte) (s : State) :
    KeepsWhenRefused s (body bs s) := by
  obtain ⟨f, hbody, hserves⟩ := h bs s
  rw [hbody]
  exact .withIndex fun i => (hserves i).kept

theorem HeadBody.others {body : Body} (hbody : HeadBody body) {bs : List Byte} {h : HeadId}
    (hnamed : byteAt bs 0 = byteOf h.val) (s : State) : OtherHeads h s (body bs s).2 := by
  obtain ⟨f, hbody, hserves⟩ := hbody bs s
  rw [hbody]
  unfold withIndex
  rw [hnamed, finOf_byteOf h (by decide)]
  exact (hserves h).others

/-! ### The bodies of the other requests -/

theorem captureBody_keeps (bs : List Byte) (s : State) : KeepsWhenRefused s (captureBody bs s) :=
  .withIndex fun p => by
    split
    · exact .answered rfl
    · split
      · exact .answered rfl
      · exact .same s _

theorem portDepthBody_keeps (bs : List Byte) (s : State) : KeepsWhenRefused s (portDepthBody bs s) :=
  .withIndex fun p => by
    split
    · exact .answered rfl
    · exact .same s _

theorem pinTakeBody_keeps (bs : List Byte) (s : State) : KeepsWhenRefused s (pinTakeBody bs s) :=
  .withIndex fun i => by
    split
    · exact .same s _
    · split
      · exact .same s _
      · split
        · exact .answered rfl
        · exact .answered rfl

theorem openEntry_keeps (s : State) (i : LibId) (e : EntryInfo) : KeepsWhenRefused s (s.openEntry i e) := by
  unfold State.openEntry
  split
  · split
    · exact .same s _
    · split
      · exact .same s _
      · exact .answered rfl
  all_goals exact .same s _

theorem libOpenBody_keeps (bs : List Byte) (s : State) : KeepsWhenRefused s (libOpenBody bs s) :=
  .withLibId fun i => by
    split
    · exact .same s _
    · split
      · exact openEntry_keeps s i _
      · exact .same s _

theorem libDataBody_keeps (bs : List Byte) (s : State) : KeepsWhenRefused s (libDataBody bs s) :=
  .withLibId fun i => by
    split
    · split
      · exact .same s _
      · split
        · exact .same s _
        · exact .answered rfl
    all_goals exact .same s _

theorem libCloseBody_keeps (bs : List Byte) (s : State) : KeepsWhenRefused s (libCloseBody bs s) :=
  .withLibId fun i => by
    split
    · split
      · exact .same s _
      · exact .accepted rfl
    all_goals exact .same s _

theorem libDeleteBody_keeps (bs : List Byte) (s : State) : KeepsWhenRefused s (libDeleteBody bs s) :=
  .withLibId fun i => by
    split
    · exact .same s _
    · exact .answered rfl
    · exact .same s _
    · split
      · exact .answered rfl
      · exact .same s _

theorem statsClearBody_keeps (bs : List Byte) (s : State) : KeepsWhenRefused s (statsClearBody bs s) := by
  unfold statsClearBody
  split
  · exact .answered rfl
  · exact .same s _

/-- R161: a body that answers neither OK nor ACCEPTED has changed nothing. -/
theorem bodyOf_keeps {c : Instr} {code : Byte} (hc : requestCode c = some code) (bs : List Byte) (s : State) :
    KeepsWhenRefused s (bodyOf c bs s) := by
  cases c with
  | reset => exact .answered rfl
  | info => exact .answered rfl
  | statsRead => exact .inr (.inr (statsReadBody_keeps bs s))
  | statsClear => exact statsClearBody_keeps bs s
  | echo => exact .answered rfl
  | captureOn => exact captureBody_keeps bs s
  | captureOff => exact captureBody_keeps bs s
  | portDepth => exact portDepthBody_keeps bs s
  | portFlush => exact .withIndex fun _ => .answered rfl
  | portReset => exact .withIndex fun _ => .answered rfl
  | portStatus => exact .withIndex fun _ => .answered rfl
  | pinTake => exact pinTakeBody_keeps bs s
  | pinRelease => exact .withIndex fun _ => .answered rfl
  | storeStatus => exact .withIndex fun _ => .answered rfl
  | libOpen => exact libOpenBody_keeps bs s
  | libData => exact libDataBody_keeps bs s
  | libClose => exact libCloseBody_keeps bs s
  | libDelete => exact libDeleteBody_keeps bs s
  | libList => exact .withLibId fun _ => .answered rfl
  | libSpace => exact .answered rfl
  | _ => cases hc <;> exact (headBody_bodyOf (by rfl) (by rfl)).keeps bs s

/-! ### Fields out of range -/

theorem finOf_none {n : Nat} {b : Byte} (h : n ≤ b.toNat) : finOf n b = none := dif_neg (Nat.not_lt.2 h)

theorem libIdOf_none {b : Byte} (h : b.toNat = 0 ∨ 64 < b.toNat) : libIdOf b = none := dif_neg (by omega)

theorem ne_zero_of_two_le {b : Byte} (h : 2 ≤ b.toNat) : b ≠ 0 := by
  rintro rfl
  exact absurd h (by decide)

theorem ne_one_of_two_le {b : Byte} (h : 2 ≤ b.toNat) : b ≠ 1 := by
  rintro rfl
  exact absurd h (by decide)

theorem flagOf_none {b : Byte} (h : 2 ≤ b.toNat) : flagOf b = none := by
  unfold flagOf
  rw [if_neg (ne_zero_of_two_le h), if_neg (ne_one_of_two_le h)]

theorem kindOf_none {b : Byte} (h : 2 ≤ b.toNat) : kindOf b = none := by
  unfold kindOf
  rw [if_neg (ne_zero_of_two_le h), if_neg (ne_one_of_two_le h)]

theorem withIndex_outOfRange {n : Nat} {bs : List Byte} {s : State} {f : Fin n → Reply × State}
    (h : n ≤ (byteAt bs 0).toNat) : withIndex n bs s f = (.refuse .badValue, s) := by
  unfold withIndex
  rw [finOf_none h]
  rfl

theorem withIndex_refuses {n : Nat} {bs : List Byte} {s : State} {f : Fin n → Reply × State} 
    (h : ∀ i, f i = (.refuse .badValue, s)) : withIndex n bs s f = (.refuse .badValue, s) := by
  unfold withIndex
  split
  · exact h _
  · rfl

theorem withLibId_outOfRange {bs : List Byte} {s : State} {f : LibId → Reply × State}
    (h : (byteAt bs 0).toNat = 0 ∨ 64 < (byteAt bs 0).toNat) : withLibId bs s f = (.refuse .badValue, s) := by
  unfold withLibId
  rw [libIdOf_none h]
  rfl

theorem withLibId_refuses {bs : List Byte} {s : State} {f : LibId → Reply × State}
    (h : ∀ i, f i = (.refuse .badValue, s)) : withLibId bs s f = (.refuse .badValue, s) := by
  unfold withLibId
  split
  · exact h _
  · rfl

/-- The fields of a request outside their ranges: the byte at 0 by what it names, the bytes at 1 and 2 by the code.
-/
def FieldOutOfRange (code : Byte) (b₀ b₁ b₂ : Nat) : Prop :=
  (code ∈ [0x10, 0x11, 0x12, 0x13, 0x14] ∧ 4 ≤ b₀) ∨ (code = 0x10 ∧ 2 ≤ b₁) ∨
    (code ∈ [0x18, 0x19] ∧ 8 ≤ b₀) ∨ (code = 0x18 ∧ 4 ≤ b₁) ∨ (code = 0x1A ∧ 3 ≤ b₀) ∨
    (codeNamesHead code = true ∧ 2 ≤ b₀) ∨ (code ∈ [0x20, 0x21] ∧ 12 ≤ b₁) ∨ (code = 0x22 ∧ 2 ≤ b₁) ∨
    (code = 0x23 ∧ (2 ≤ b₁ ∨ 12 ≤ b₂)) ∨ (code ∈ [0x40, 0x41, 0x42, 0x43, 0x44] ∧ (b₀ = 0 ∨ 64 < b₀)) ∨
    (code = 0x40 ∧ 2 ≤ b₁) ∨ (code = 0x50 ∧ (b₁ = 0 ∨ 64 < b₁))

theorem captureBody_badMode {bs : List Byte} (s : State) (h : 2 ≤ (byteAt bs 1).toNat) :
    captureBody bs s = (.refuse .badValue, s) :=
  withIndex_refuses fun p => by rw [if_neg (ne_one_of_two_le h), if_neg (ne_zero_of_two_le h)]; rfl

theorem pinTakeBody_badSource {bs : List Byte} (s : State) (h : 4 ≤ (byteAt bs 1).toNat) :
    pinTakeBody bs s = (.refuse .badValue, s) :=
  withIndex_refuses fun i => by rw [finOf_none h]; rfl

theorem scenePutBody_badPosition {bs : List Byte} (s : State) (h : 12 ≤ (byteAt bs 1).toNat) :
    scenePutBody bs s = (.refuse .badValue, s) :=
  withIndex_refuses fun i => by rw [finOf_none h]; rfl

theorem sceneRemoveBody_badPosition {bs : List Byte} (s : State) (h : 12 ≤ (byteAt bs 1).toNat) :
    sceneRemoveBody bs s = (.refuse .badValue, s) :=
  withIndex_refuses fun i => by rw [finOf_none h]; rfl

theorem sceneRestartBody_badSource {bs : List Byte} (s : State) (h : 2 ≤ (byteAt bs 1).toNat) :
    sceneRestartBody bs s = (.refuse .badValue, s) :=
  withIndex_refuses fun i => by rw [flagOf_none h]; rfl

theorem sceneReadBody_badScene {bs : List Byte} (s : State) (h : 2 ≤ (byteAt bs 1).toNat) :
    sceneReadBody bs s = (.refuse .badValue, s) :=
  withIndex_refuses fun i => by rw [flagOf_none h]; rfl

theorem sceneReadBody_badPosition {bs : List Byte} (s : State) (h : 12 ≤ (byteAt bs 2).toNat) :
    sceneReadBody bs s = (.refuse .badValue, s) :=
  withIndex_refuses fun i => by rw [finOf_none h]; rcases flagOf (byteAt bs 1) with _ | _ | _ <;> rfl

theorem libOpenBody_badKind {bs : List Byte} (s : State) (h : 2 ≤ (byteAt bs 1).toNat) :
    libOpenBody bs s = (.refuse .badValue, s) :=
  withLibId_refuses fun i => by rw [kindOf_none h]; rfl

theorem cursorShapeBody_badId {bs : List Byte} (s : State) (h : (byteAt bs 1).toNat = 0 ∨ 64 < (byteAt bs 1).toNat) :
    cursorShapeBody bs s = (.refuse .badValue, s) :=
  withIndex_refuses fun i => by rw [libIdOf_none h]; rfl

theorem HeadBody.outOfRange {body : Body} (hbody : HeadBody body) {bs : List Byte} (s : State)
    (h : 2 ≤ (byteAt bs 0).toNat) : body bs s = (.refuse .badValue, s) := by
  obtain ⟨f, hf, _⟩ := hbody bs s
  rw [hf, withIndex_outOfRange h]

/-- A field outside its range is refused with BAD_VALUE, whatever the state. -/
theorem bodyOf_badValue {c : Instr} {code : Byte} (hc : requestCode c = some code) {bs : List Byte} (s : State)
    (hout : FieldOutOfRange code (byteAt bs 0).toNat (byteAt bs 1).toNat (byteAt bs 2).toNat) :
    bodyOf c bs s = (.refuse .badValue, s) := by
  by_cases hnames : codeNamesHead code = true ∧ 2 ≤ (byteAt bs 0).toNat
  · exact (headBody_bodyOf hc hnames.1).outOfRange s hnames.2
  unfold FieldOutOfRange at hout
  rw [or_iff_right hnames] at hout
  cases c with
  | captureOn =>
    cases hc
    rcases (by simpa using hout : 4 ≤ (byteAt bs 0).toNat ∨ 2 ≤ (byteAt bs 1).toNat) with h | h
    · exact withIndex_outOfRange h
    · exact captureBody_badMode s h
  | captureOff =>
    cases hc
    rcases (by simpa using hout : 4 ≤ (byteAt bs 0).toNat ∨ 2 ≤ (byteAt bs 1).toNat) with h | h
    · exact withIndex_outOfRange h
    · exact captureBody_badMode s h
  | portDepth => cases hc; exact withIndex_outOfRange (by simpa using hout)
  | portFlush => cases hc; exact withIndex_outOfRange (by simpa using hout)
  | portReset => cases hc; exact withIndex_outOfRange (by simpa using hout)
  | portStatus => cases hc; exact withIndex_outOfRange (by simpa using hout)
  | pinTake =>
    cases hc
    rcases (by simpa using hout : 8 ≤ (byteAt bs 0).toNat ∨ 4 ≤ (byteAt bs 1).toNat) with h | h
    · exact withIndex_outOfRange h
    · exact pinTakeBody_badSource s h
  | pinRelease => cases hc; exact withIndex_outOfRange (by simpa using hout)
  | storeStatus => cases hc; exact withIndex_outOfRange (by simpa using hout)
  | scenePut => cases hc; exact scenePutBody_badPosition s (by simpa using hout)
  | sceneRemove => cases hc; exact sceneRemoveBody_badPosition s (by simpa using hout)
  | sceneRestart => cases hc; exact sceneRestartBody_badSource s (by simpa using hout)
  | sceneRead =>
    cases hc
    rcases (by simpa using hout : 2 ≤ (byteAt bs 1).toNat ∨ 12 ≤ (byteAt bs 2).toNat) with h | h
    · exact sceneReadBody_badScene s h
    · exact sceneReadBody_badPosition s h
  | libOpen =>
    cases hc
    rcases (by simpa using hout : ((byteAt bs 0).toNat = 0 ∨ 64 < (byteAt bs 0).toNat) ∨ 2 ≤ (byteAt bs 1).toNat) with
      h | h
    · exact withLibId_outOfRange h
    · exact libOpenBody_badKind s h
  | libData => cases hc; exact withLibId_outOfRange (by simpa using hout)
  | libClose => cases hc; exact withLibId_outOfRange (by simpa using hout)
  | libDelete => cases hc; exact withLibId_outOfRange (by simpa using hout)
  | libList => cases hc; exact withLibId_outOfRange (by simpa using hout)
  | cursorShape => cases hc; exact cursorShapeBody_badId s (by simpa using hout)
  | _ => cases hc <;> exact absurd hout (by simp)

/-! ### The requests -/

theorem Takes.served {s : State} {r : Request} {rest : List Request} {code : Byte} (h : Takes s r rest code) :
    TakesServed s r rest code := ⟨.inl h.ready, h.runs, h.oldest, h.code⟩

/-- A request in the ready state that passes the processor's checks runs the block's body. -/
theorem State.execute_of_ready {s : State} {r : Request} {body : Body} {rule : LengthRule}
    (hready : s.device.phase = .ready) (h : commandRule r.code = some rule)
    (hlen : rule.allows r.payload.length = true) : s.execute r body = body r.payload s := by
  have hfaulted : s.isFaulted = false := by simp [State.isFaulted, hready]
  unfold State.execute; rw [h]; simp [hlen, hfaulted]

/-- What taking request `r` gives: nothing, or the answer of the processor or of the block's body. -/
theorem State.takeRequest_outcome {s : State} {r : Request} {rest : List Request} {code : Byte}
    (h : Takes s r rest code) (mine : Request → Bool) (body : Body) :
    s.takeRequest mine body = s ∨ ∃ x, s.takeRequest mine body = x.2.post r x.1 ∧
      ((∃ st, x = (.refuse st, s.withRequests rest)) ∨ x = body r.payload (s.withRequests rest)) := by
  rcases s.takeRequest_cases mine body with heq | ⟨r', rest', holdest, _, _, heq⟩
  · exact .inl heq
  · rw [h.oldest] at holdest
    cases holdest
    exact .inr ⟨_, heq, State.execute_cases (s.withRequests rest) r body⟩

/-- A request that is refused changes nothing but the link, where its reply is posted. -/
theorem refused_answers {c : Instr} {code : Byte} {s t : State} {r : Request} {rest : List Request} {rep : Reply}
    (hc : requestCode c = some code) (h : Takes s r rest code) (hexec : exec c s = .next t)
    (hline : t.link.replyLine = s.link.replyLine ++ [⟨.posted r.crc, r.tag, r.code, rep⟩])
    (hok : rep.status ≠ .ok) (haccepted : rep.status ≠ .accepted) :
    OnlyChanges [.link] s t ∧ Answers s t r rest rep := by
  obtain ⟨mine, hrun, _⟩ := exec_request hc
  have htake : s.takeRequest mine (bodyOf c) = t := Host.Outcome.next.inj ((hrun s).symm.trans hexec)
  rcases State.takeRequest_outcome h mine (bodyOf c) with hsame | ⟨x, hpost, hx⟩
  · rw [← htake, hsame] at hline
    simp at hline
  · rw [htake] at hpost
    have hrep : x.1 = rep := by
      rw [hpost] at hline
      have := (List.append_inj' hline rfl).2
      simp only [List.cons.injEq, ReplyEntry.mk.injEq, and_true] at this
      exact this.2.2.2
    have hstate : x.2 = s.withRequests rest := by
      rcases hx with ⟨st, rfl⟩ | hbody
      · rfl
      · rcases bodyOf_keeps hc r.payload (s.withRequests rest) with hstatus | hstatus | hkept
        · rw [← hbody, hrep] at hstatus; exact absurd hstatus hok
        · rw [← hbody, hrep] at hstatus; exact absurd hstatus haccepted
        · rw [hbody, hkept]
    rw [hstate, hrep] at hpost
    subst hpost
    exact ⟨(s.withRequests_only rest).trans (State.post_only _ _ _), State.link_post (s := s.withRequests rest) h.runs r rep⟩

/-- A request that names head `h` leaves the other head alone. -/
theorem namesHead_others {c : Instr} {code : Byte} {s t : State} {r : Request} {rest : List Request} {h : HeadId}
    (hc : requestCode c = some code) (hnames : codeNamesHead code = true) (ht : Takes s r rest code)
    (hnamed : byteAt r.payload 0 = byteOf h.val) (hexec : exec c s = .next t) : OtherHeads h s t := by
  obtain ⟨mine, hrun, _⟩ := exec_request hc
  have htake : s.takeRequest mine (bodyOf c) = t := Host.Outcome.next.inj ((hrun s).symm.trans hexec)
  rcases State.takeRequest_outcome ht mine (bodyOf c) with hsame | ⟨x, hpost, hx⟩
  · rw [← htake, hsame]; exact .refl h s
  · rw [← htake, hpost]
    rcases hx with ⟨st, rfl⟩ | rfl
    · exact .refl h s
    · exact (headBody_bodyOf hc hnames).others hnamed (s.withRequests rest)

/-- Settles O9: a refusing body returns the state as it was, a field is checked before anything else of the body,
and the bodies of the requests that name a head modify that head alone. -/
theorem requestsTouchOnlyWhatTheyName : Obligations.RequestsTouchOnlyWhatTheyName := by
  refine ⟨⟨fun c code s t r rest rep hc ht hexec hline hok haccepted =>
      refused_answers hc ht hexec hline hok haccepted,
    fun c code s r rest rule b₀ b₁ b₂ hc ht hrule hlen h₀ h₁ h₂ hon hoff hout => ?_⟩,
    fun c code s t r rest h hc hnames ht hnamed hexec => namesHead_others hc hnames ht hnamed hexec⟩
  subst h₀ h₁ h₂
  have hmode : ∀ {k : Byte} {n : Nat}, k.toNat = n → (byteAt r.payload 1).toNat ≠ n →
      ¬(r.payload.length = 2 ∧ byteAt r.payload 1 = k) := fun hk hne hb => hne (hb.2 ▸ hk)
  obtain ⟨mine, hexec, hmine⟩ := exec_request hc
  have hfits : modeFits c r := ⟨fun e => hmode rfl (hon e), fun e => hmode rfl (hoff e)⟩
  refine refuses_of_execute (hexec s) ht.served ((hmine r).2 ⟨ht.code, hfits⟩) ?_
  rw [State.execute_of_ready (s := s.withRequests rest) ht.ready (ht.code ▸ hrule) hlen]
  exact bodyOf_badValue hc _ hout

end Sys2Proof.Machine
end

section
/-! What a start, a fill and a lost signal do to a capture port, its pool and the notices (chapter 2). -/
namespace Sys2Proof.Machine

/-! ### Events in the ready state -/

theorem whenReady_of_ready {s : State} (h : s.device.phase = .ready) (f : State → State) : whenReady s f = f s :=
  if_pos (s.isReady_iff.2 h)

theorem exec_start_of_ready {s : State} (h : s.device.phase = .ready) (p : PortId) (level : FieldLevel)
    (width : Option Nat) (lines : Nat) (time : Time) :
    exec (.start p level width lines time) s = .next (s.takeStart p level width lines time) :=
  congrArg Host.Outcome.next (whenReady_of_ready h _)

/-! ### The other ports -/

theorem State.grant_others (s : State) (p : PortId) (g : Geometry) (n : FrameNumber) (i : SlotId) :
    OtherPorts p s (s.grant p g n i) := by
  unfold State.grant
  dsimp only
  have hslot : OtherPorts p s (s.setSlot i (.filling p g)) := .of_only (s.setSlot_only _ _) (by decide)
  split
  · exact (hslot.trans (State.modPort_others _ p _)).trans (.of_only (State.raise_only _ _) (by decide))
  · exact hslot

theorem State.skip_others (s : State) (p : PortId) (n : FrameNumber) : OtherPorts p s (s.skip p n) := by
  unfold State.skip
  dsimp only
  split
  · exact s.modPort_others p _
  · exact ((s.modPort_others p _).trans (State.modPort_others _ p _)).trans
      (.of_only (State.raise_only _ _) (by decide))

theorem State.claim_others (s : State) (p : PortId) (g : Geometry) (n : FrameNumber) :
    OtherPorts p s (s.claim p g n).2 := by
  unfold State.claim
  split
  · exact (OtherPorts.of_only (s.setFreeList_only _) (by decide)).trans (State.grant_others _ _ _ _ _)
  · split
    · exact (((s.countDrop_others p _).trans (State.modPort_others _ p _)).trans
        (.of_only (State.setReady_only _ _ _) (by decide))).trans (State.grant_others _ _ _ _ _)
    · exact s.skip_others p n

theorem State.claimFor_others (s : State) (p : PortId) (m : Measurement) : OtherPorts p s (s.claimFor p m) := by
  unfold State.claimFor
  have h := s.claim_others p m.geometry (s.port p).frameNumber
  split
  · rename_i e
    rw [e] at h
    exact h.trans (State.modPort_others _ p _)
  · rename_i e
    rw [e] at h
    exact h

theorem State.restart_others (s : State) (p : PortId) (m : Measurement) (i : SlotId) :
    OtherPorts p s (s.restart p m i) :=
  ((OtherPorts.of_only (s.setSlot_only _ _) (by decide)).trans (State.modPort_others _ p _)).trans
    (State.modPort_others _ p _)

theorem State.offerToWriter_others (s : State) (p : PortId) (m : Measurement) (b : Bool) :
    OtherPorts p s (s.offerToWriter p m b) := by
  unfold State.offerToWriter
  split
  · exact .refl p s
  · split
    · exact s.claimFor_others p m
    · exact .refl p s
  · split
    · exact s.restart_others p m _
    · split
      · exact s.modPort_others p _
      · exact .refl p s

theorem State.lockedStart_others (s : State) (p : PortId) (m : Measurement) (level : FieldLevel) (time : Time) :
    OtherPorts p s (s.lockedStart p m level time) := by
  unfold State.lockedStart
  split
  · exact (s.modPort_others p _).trans (State.offerToWriter_others _ p m _)
  · exact s.offerToWriter_others p m _

theorem State.abortFill_others (s : State) (p : PortId) (w : Writer) : OtherPorts p s (s.abortFill p w) := by
  unfold State.abortFill
  split
  · exact ((OtherPorts.of_only (s.freeSlot_only _) (by decide)).trans (State.modPort_others _ p _)).trans
      (State.modPort_others _ p _)
  all_goals exact .refl p s

theorem State.leaveLocked_others (s : State) (p : PortId) (start : Option Time) :
    OtherPorts p s (s.leaveLocked p start) :=
  ((s.abortFill_others p _).trans (.of_only (State.modHead_only _ _ _) (by decide))).trans
    (.of_only (State.modHead_only _ _ _) (by decide))

theorem State.measuredStart_others (s : State) (p : PortId) (level : FieldLevel) (m : Measurement) (time : Time) :
    OtherPorts p s (s.measuredStart p level m time) := by
  have hport : OtherPorts p s (s.measuredPort p level m time) := fun q hq => s.measuredPort_other level m time hq
  rw [s.measuredStart_eq]
  split
  · exact hport.trans (State.leaveLocked_others _ p _)
  · exact hport

theorem State.takeStart_others (s : State) (p : PortId) (level : FieldLevel) (w : Option Nat) (n : Nat) (time : Time) :
    OtherPorts p s (s.takeStart p level w n time) := by
  rw [s.takeStart_eq]
  split
  · exact (s.modPort_others p _).trans (.of_only (State.raise_only _ _) (by decide))
  · split
    · exact (s.measuredStart_others p level _ time).trans (State.lockedStart_others _ p _ level time)
    · exact s.measuredStart_others p level _ time

/-! ### The measurement of a start (R28 to R33) -/

theorem Detector.isLocked_iff {d : Detector} : d.isLocked = true ↔ ∃ m, d = .locked m := by
  cases d <;> simp [Detector.isLocked, Detector.lockedMeasurement]

theorem Detector.lockedMeasurement_eq_some {d : Detector} {m : Measurement} :
    d.lockedMeasurement = some m ↔ d = .locked m := by
  cases d <;> simp [Detector.lockedMeasurement]

theorem Detector.isLocked_eq_false_iff {d : Detector} : d.isLocked = false ↔ ∀ m, d ≠ .locked m := by
  cases d <;> simp [Detector.isLocked, Detector.lockedMeasurement]

theorem State.measuredPort_only (s : State) (p : PortId) (level : FieldLevel) (m : Measurement) (time : Time) :
    OnlyChanges [.ports, .notices] s (s.measuredPort p level m time) := by
  have hport : OnlyChanges [.ports, .notices] s (s.modPort p fun q => q.afterMeasure level m time) :=
    (s.modPort_only p _).weaken (by decide)
  unfold State.measuredPort
  split
  · exact hport
  · exact hport.trans ((State.raise_only _ _).weaken (by decide))

theorem State.measuredPort_pool (s : State) (p : PortId) (level : FieldLevel) (m : Measurement) (time : Time) :
    (s.measuredPort p level m time).pool = s.pool := s.measuredPort_only p level m time .pool (by decide)

theorem State.measuredPort_heads (s : State) (p : PortId) (level : FieldLevel) (m : Measurement) (time : Time) :
    (s.measuredPort p level m time).heads = s.heads := s.measuredPort_only p level m time .heads (by decide)

/-- R35: a measured start raises INPUT_STATE when the detector's state changes. -/
theorem State.measuredPort_notices (s : State) (p : PortId) (level : FieldLevel) (m : Measurement) (time : Time) :
    (s.measuredPort p level m time).notices =
      if ((s.port p).detector.measured m).state = (s.port p).detector.state then s.notices
      else s.notices.raise (.inputState p ((s.port p).detector.measured m).state
        (some (noticeMeasurement ((s.port p).detector.measured m) m))) := by
  unfold State.measuredPort
  split <;> rfl

/-! ### A locked start -/

section
variable {s : State} {p : PortId} {level : FieldLevel} {width : Option Nat} {lines : Nat} {time : Time}
  {m : Measurement}

theorem LockedStart.ne_noSignal (h : LockedStart s p level width lines time m) : (s.port p).detector ≠ .noSignal := by
  intro hno
  have := h.locked
  rw [hno] at this
  cases this

/-- A start that leaves the detector LOCKED takes the measurement and offers the frame to the writer. -/
theorem LockedStart.takeStart_eq (h : LockedStart s p level width lines time m) :
    s.takeStart p level width lines time =
      (s.measuredPort p level ((s.port p).measure level width lines time) time).lockedStart p m level time := by
  have hlocked : ((s.port p).detector.measured ((s.port p).measure level width lines time)).lockedMeasurement =
      some m := Detector.lockedMeasurement_eq_some.2 h.locked
  have hstays : ¬((s.port p).detector.isLocked &&
      !((s.port p).detector.measured ((s.port p).measure level width lines time)).isLocked) = true := by
    rw [Detector.isLocked_iff.2 ⟨m, h.locked⟩]
    simp
  rw [s.takeStart_eq, if_neg h.ne_noSignal, hlocked]
  simp only [s.measuredStart_eq, if_neg hstays]

theorem LockedStart.port (h : LockedStart s p level width lines time m) :
    (s.measuredPort p level ((s.port p).measure level width lines time) time).port p =
      (s.port p).afterLockedStart level m ((s.port p).measure level width lines time) time := by
  rw [State.measuredPort_port]
  unfold Port.afterMeasure Port.afterLockedStart
  rw [h.locked]
  simp only [Bool.and_assoc]
  rw [show (Detector.locked m).isLocked = true from rfl, Bool.and_true]

theorem LockedStart.notices (h : LockedStart s p level width lines time m) :
    (s.measuredPort p level ((s.port p).measure level width lines time) time).notices = s.noticesAfterLock p m := by
  rw [State.measuredPort_notices, h.locked]
  unfold State.noticesAfterLock
  cases hd : (s.port p).detector <;> simp [Detector.state, Detector.isLocked, Detector.lockedMeasurement,
    noticeMeasurement]

/-- A locked start changes no head. -/
theorem LockedStart.only (h : LockedStart s p level width lines time m) :
    OnlyChanges [.ports, .pool, .notices] s (s.takeStart p level width lines time) := by
  rw [h.takeStart_eq]
  exact ((State.measuredPort_only _ _ _ _ _).weaken (by decide)).trans
    ((State.lockedStart_only _ _ _ _ _).weaken (by decide))

/-- A numbered locked start numbers the port and offers the frame to the writer. -/
theorem LockedStart.takeStart_numbered (h : LockedStart s p level width lines time m)
    (hnumbered : m.interlaced = false ∨ level = .first) :
    s.takeStart p level width lines time =
      ((s.measuredPort p level ((s.port p).measure level width lines time) time).modPort p
        fun q => q.numbered time).offerToWriter p m true := by
  have hfirst : (!m.interlaced || decide (level = .first)) = true := by
    rcases hnumbered with e | e <;> simp [e]
  rw [h.takeStart_eq]
  unfold State.lockedStart
  rw [if_pos hfirst]

/-- A locked start of a SECOND field is not numbered. -/
theorem LockedStart.takeStart_second (h : LockedStart s p level width lines time m) (hm : m.interlaced = true)
    (hlevel : level = .second) :
    s.takeStart p level width lines time =
      (s.measuredPort p level ((s.port p).measure level width lines time) time).offerToWriter p m false := by
  have hsecond : ¬(!m.interlaced || decide (level = .first)) = true := by simp [hm, hlevel]
  rw [h.takeStart_eq]
  unfold State.lockedStart
  rw [if_neg hsecond]

end

/-! ### Claims (R9 to R12) -/

theorem State.grant_port (s : State) (p : PortId) (g : Geometry) (n : FrameNumber) (i : SlotId) :
    (s.grant p g n i).port p = { s.port p with starved := false } := by
  unfold State.grant
  cases hstarved : (s.port p).starved with
  | true => simp [hstarved]
  | false => simp [hstarved]; rw [← hstarved]

theorem State.grant_pool (s : State) (p : PortId) (g : Geometry) (n : FrameNumber) (i : SlotId) :
    (s.grant p g n i).pool = { s.pool with slots := s.pool.slots.set i (.filling p g) } := by
  unfold State.grant
  dsimp only
  split <;> rfl

theorem State.grant_notices (s : State) (p : PortId) (g : Geometry) (n : FrameNumber) (i : SlotId) :
    (s.grant p g n i).notices =
      if (s.port p).starved then s.notices.raise (.captureResumed p n (s.port p).counters.skipped)
      else s.notices := by
  unfold State.grant
  dsimp only
  rw [State.port_setSlot]
  split <;> rfl

/-- R9: a claim with a free slot. -/
theorem State.claim_of_free {s : State} {p : PortId} {g : Geometry} {n : FrameNumber} {i : SlotId} {free : List SlotId}
    (h : s.pool.freeList = i :: free) : s.claim p g n = (some i, (s.setFreeList free).grant p g n i) := by
  unfold State.claim
  rw [h]

/-- R10: a claim that reclaims the oldest frame without a reference. -/
theorem State.claim_of_reclaimable {s : State} {p : PortId} {g : Geometry} {n : FrameNumber} {i : SlotId}
    (hfree : s.pool.freeList = []) (h : s.reclaimable p = some i) :
    s.claim p g n = (some i, (((s.countDrop p i).countPort p fun c => { c with reclaimed := c.reclaimed + 1 }).setReady p
      ((s.readyList p).erase i)).grant p g n i) := by
  have hlist : ((s.countDrop p i).countPort p fun c => { c with reclaimed := c.reclaimed + 1 }).readyList p =
      s.readyList p := State.readyList_of_only ((s.countDrop_only p i).trans (State.countPort_only _ _ _)) (by decide) p
  unfold State.claim
  rw [hfree, h]
  simp only [hlist]

/-- R12: a claim that finds no slot. -/
theorem State.claim_of_none {s : State} {p : PortId} {g : Geometry} {n : FrameNumber} (hfree : s.pool.freeList = [])
    (h : s.reclaimable p = none) : s.claim p g n = (none, s.skip p n) := by
  unfold State.claim
  rw [hfree, h]

theorem State.claimFor_of_some {s t : State} {p : PortId} {m : Measurement} {i : SlotId}
    (h : s.claim p m.geometry (s.port p).frameNumber = (some i, t)) :
    s.claimFor p m = t.modPort p fun q => { q with writer := .filling m.firstStage i q.frameNumber } := by
  unfold State.claimFor
  rw [h]

theorem State.claimFor_of_none {s t : State} {p : PortId} {m : Measurement}
    (h : s.claim p m.geometry (s.port p).frameNumber = (none, t)) : s.claimFor p m = t := by
  unfold State.claimFor
  rw [h]

theorem State.claimFor_free {s : State} {p : PortId} {m : Measurement} {i : SlotId} {free : List SlotId}
    (h : s.pool.freeList = i :: free) :
    (s.claimFor p m).port p = { s.port p with
      writer := .filling m.firstStage i (s.port p).frameNumber, starved := false } ∧
    (s.claimFor p m).pool = { s.pool with slots := s.pool.slots.set i (.filling p m.geometry), freeList := free } ∧
    (s.claimFor p m).notices =
      if (s.port p).starved then
        s.notices.raise (.captureResumed p (s.port p).frameNumber (s.port p).counters.skipped)
      else s.notices := by
  rw [State.claimFor_of_some (State.claim_of_free h)]
  refine ⟨?_, ?_, ?_⟩
  · rw [State.port_modPort_same, State.grant_port]; rfl
  · exact State.grant_pool ..
  · exact State.grant_notices ..

/-- R10: the oldest frame of a ready list with refs 0. -/
theorem State.reclaimable_eq_some {s : State} {p : PortId} {l₁ l₂ : List SlotId} {i : SlotId}
    (hlist : s.readyList p = l₁ ++ i :: l₂) (hheld : ∀ j ∈ l₁, (s.slot j).refs ≠ 0) (hi : (s.slot i).refs = 0) :
    s.reclaimable p = some i ∧ (s.readyList p).erase i = l₁ ++ l₂ := by
  have hnot : i ∉ l₁ := fun hmem => hheld i hmem hi
  refine ⟨?_, ?_⟩
  · unfold State.reclaimable
    rw [List.find?_eq_some_iff_append]
    exact ⟨decide_eq_true hi, l₁, l₂, hlist, fun j hj => by simpa using hheld j hj⟩
  · rw [hlist, List.erase_append_right _ hnot, List.erase_cons_head]

theorem State.reclaimable_eq_none {s : State} {p : PortId} (h : ∀ j ∈ s.readyList p, (s.slot j).refs ≠ 0) :
    s.reclaimable p = none :=
  List.find?_eq_none.2 fun j hj => by simpa using h j hj

theorem State.countDrop_port_of_ready {s : State} {p : PortId} {i : SlotId} {f : StoredFrame}
    (h : s.slot i = .ready f) : (s.countDrop p i).port p = { s.port p with counters := { (s.port p).counters with
      dropped := if f.shown then (s.port p).counters.dropped else (s.port p).counters.dropped + 1 } } := by
  have hframe : (s.slot i).frame? = some f := by rw [h]; rfl
  rw [s.port_countDrop]
  cases hshown : f.shown <;> simp [State.unshown, hframe, hshown]

theorem State.claimFor_reclaim {s : State} {p : PortId} {m : Measurement} {l₁ l₂ : List SlotId} {i : SlotId}
    {f : StoredFrame} (hfree : s.pool.freeList = []) (hlist : s.readyList p = l₁ ++ i :: l₂)
    (hheld : ∀ j ∈ l₁, (s.slot j).refs ≠ 0) (hi : s.slot i = .ready f) (hrefs : f.refs = 0) :
    (s.claimFor p m).port p = { s.port p with
      writer := .filling m.firstStage i (s.port p).frameNumber, starved := false
      counters := { (s.port p).counters with
        reclaimed := (s.port p).counters.reclaimed + 1
        dropped := if f.shown then (s.port p).counters.dropped else (s.port p).counters.dropped + 1 } } ∧
    (s.claimFor p m).pool = { s.pool with
      slots := s.pool.slots.set i (.filling p m.geometry), ready := s.pool.ready.set p (l₁ ++ l₂) } ∧
    (s.claimFor p m).notices =
      if (s.port p).starved then
        s.notices.raise (.captureResumed p (s.port p).frameNumber (s.port p).counters.skipped)
      else s.notices := by
  have hzero : (s.slot i).refs = 0 := by rw [hi]; exact hrefs
  obtain ⟨hreclaim, herase⟩ := State.reclaimable_eq_some hlist hheld hzero
  have hport : ((s.countDrop p i).countPort p fun c => { c with reclaimed := c.reclaimed + 1 }).port p =
      { s.port p with counters := { (s.port p).counters with
        reclaimed := (s.port p).counters.reclaimed + 1
        dropped := if f.shown then (s.port p).counters.dropped else (s.port p).counters.dropped + 1 } } := by
    rw [State.countPort, State.port_modPort_same, State.countDrop_port_of_ready hi]
  have hpool : ((s.countDrop p i).countPort p fun c => { c with reclaimed := c.reclaimed + 1 }).pool = s.pool :=
    s.pool_countDrop p i
  have hnotices : ((s.countDrop p i).countPort p fun c => { c with reclaimed := c.reclaimed + 1 }).notices = s.notices :=
    ((s.countDrop_only p i).trans (State.countPort_only _ _ _)) .notices (by decide)
  rw [State.claimFor_of_some (State.claim_of_reclaimable hfree hreclaim), herase]
  refine ⟨?_, ?_, ?_⟩
  · rw [State.port_modPort_same, State.grant_port, State.port_setReady, hport]
  · refine (State.grant_pool ..).trans ?_
    unfold State.setReady
    rw [hpool]
  · refine (State.grant_notices ..).trans ?_
    rw [State.port_setReady, hport]
    unfold State.setReady
    rw [hnotices]

theorem State.claimFor_skip {s : State} {p : PortId} {m : Measurement} (hfree : s.pool.freeList = [])
    (hheld : ∀ j ∈ s.readyList p, (s.slot j).refs ≠ 0) :
    (s.claimFor p m).port p = { s.port p with
      starved := true, counters := { (s.port p).counters with skipped := (s.port p).counters.skipped + 1 } } ∧
    (s.claimFor p m).notices =
      (if (s.port p).starved then s.notices else s.notices.raise (.captureStarved p (s.port p).frameNumber)) ∧
    OnlyChanges [.ports, .notices] s (s.claimFor p m) := by
  rw [State.claimFor_of_none (State.claim_of_none hfree (State.reclaimable_eq_none hheld))]
  refine ⟨?_, ?_, s.skip_only p _⟩
  · unfold State.skip
    cases hstarved : (s.port p).starved <;> simp [State.countPort, hstarved]
  · have hstarved : ((s.countPort p fun c => { c with skipped := c.skipped + 1 }).port p).starved =
        (s.port p).starved := by
      rw [State.countPort, State.port_modPort_same]
    unfold State.skip
    simp only [hstarved]
    split <;> rfl

/-! ### The obligations about locked starts -/

theorem nextFrameNumber_of_ne {n : FrameNumber} (h : n ≠ BitVec.allOnes 64) : nextFrameNumber n = n + 1 := if_neg h

/-- The state in which a numbered locked start offers the frame to the writer. -/
def State.offered (s : State) (p : PortId) (level : FieldLevel) (width : Option Nat) (lines : Nat) (time : Time) :
    State :=
  (s.measuredPort p level ((s.port p).measure level width lines time) time).modPort p fun q => q.numbered time

section
variable {s : State} {p : PortId} {level : FieldLevel} {width : Option Nat} {lines : Nat} {time : Time}
  {m : Measurement}

theorem State.offered_only : OnlyChanges [.ports, .notices] s (s.offered p level width lines time) :=
  (s.measuredPort_only p level _ time).trans ((State.modPort_only _ _ _).weaken (by decide))

theorem State.offered_pool : (s.offered p level width lines time).pool = s.pool :=
  State.offered_only .pool (by decide)

theorem State.offered_slot (i : SlotId) : (s.offered p level width lines time).slot i = s.slot i :=
  State.slot_of_only State.offered_only (by decide) i

theorem State.offered_readyList (q : PortId) : (s.offered p level width lines time).readyList q = s.readyList q :=
  State.readyList_of_only State.offered_only (by decide) q

theorem LockedStart.offered_port (h : LockedStart s p level width lines time m) :
    (s.offered p level width lines time).port p =
      ((s.port p).afterLockedStart level m ((s.port p).measure level width lines time) time).numbered time := by
  unfold State.offered
  rw [State.port_modPort_same, h.port]

theorem LockedStart.offered_notices (h : LockedStart s p level width lines time m) :
    (s.offered p level width lines time).notices = s.noticesAfterLock p m := h.notices

/-- A numbered locked start meets an ARMED writer. -/
theorem LockedStart.claims (h : LockedStart s p level width lines time m)
    (hnumbered : m.interlaced = false ∨ level = .first) (harmed : (s.port p).writer = .armed) :
    s.takeStart p level width lines time = (s.offered p level width lines time).claimFor p m := by
  have hwriter : ((s.offered p level width lines time).port p).writer = .armed := by
    rw [h.offered_port]; exact harmed
  rw [h.takeStart_numbered hnumbered]
  show (s.offered p level width lines time).offerToWriter p m true = _
  unfold State.offerToWriter
  rw [hwriter]
  rfl

end

/-- Settles O11: the claim takes a free slot, reclaims one, or skips; the port and the notices by the start. -/
theorem lockedStartClaimsASlot : Obligations.LockedStartClaimsASlot := by
  refine ⟨fun n => nextFrameNumber_of_ne, fun s p level width lines time m h hnumbered harmed q n c g stage hn hc hg
    hstage hq => ⟨fun i free hfree => ?_, fun l₁ i l₂ f hfree hlist hheld hi hrefs => ?_, fun hfree hheld => ?_⟩⟩
  all_goals
    have hgeometry : m.geometry = g := hg.symm
    have hfirst : m.firstStage = stage := hstage.symm
    have hexec := exec_start_of_ready h.ready p level width lines time
    have hclaim := h.claims hnumbered harmed
    subst hn hc hq hgeometry hfirst
  · obtain ⟨hport, hpool, hnotices⟩ := State.claimFor_free (m := m) (State.offered_pool.symm ▸ hfree :
      (s.offered p level width lines time).pool.freeList = i :: free)
    rw [h.offered_port] at hport hnotices
    rw [State.offered_pool] at hpool
    rw [h.offered_notices] at hnotices
    exact ⟨_, hexec, h.only, s.takeStart_others p level width lines time, hclaim ▸ hport, hclaim ▸ hpool, hclaim ▸ hnotices⟩
  · obtain ⟨hport, hpool, hnotices⟩ := State.claimFor_reclaim (m := m)
      (State.offered_pool.symm ▸ hfree : (s.offered p level width lines time).pool.freeList = [])
      ((State.offered_readyList p).trans hlist) (fun j hj => by rw [State.offered_slot]; exact hheld j hj)
      ((State.offered_slot i).trans hi) hrefs
    rw [h.offered_port] at hport hnotices
    rw [State.offered_pool] at hpool
    rw [h.offered_notices] at hnotices
    exact ⟨_, hexec, h.only, s.takeStart_others p level width lines time, hclaim ▸ hport, hclaim ▸ hpool, hclaim ▸ hnotices⟩
  · obtain ⟨hport, hnotices, honly⟩ := State.claimFor_skip (m := m)
      (State.offered_pool.symm ▸ hfree : (s.offered p level width lines time).pool.freeList = [])
      (fun j hj => by rw [State.offered_slot]; exact hheld j (State.offered_readyList p ▸ hj))
    rw [h.offered_port] at hport hnotices
    rw [h.offered_notices] at hnotices
    exact ⟨_, hexec, hclaim ▸ State.offered_only.trans honly, s.takeStart_others p level width lines time, hclaim ▸ hport,
      hclaim ▸ hnotices⟩

end Sys2Proof.Machine
end

section
/-! The obligations about the detector, the writer and a lost lock (chapter 2). -/
namespace Sys2Proof.Machine

/-! ### The writer at a locked start (R15, R38 to R40) -/

theorem State.restart_port (s : State) (p : PortId) (m : Measurement) (i : SlotId) :
    (s.restart p m i).port p = { s.port p with
      writer := .filling m.firstStage i (s.port p).frameNumber
      counters := { (s.port p).counters with aborted := (s.port p).counters.aborted + 1 } } := by
  unfold State.restart
  simp [State.countPort]

theorem State.restart_pool (s : State) (p : PortId) (m : Measurement) (i : SlotId) :
    (s.restart p m i).pool = { s.pool with slots := s.pool.slots.set i (.filling p m.geometry) } := rfl

section
variable {s : State} {p : PortId} {level : FieldLevel} {width : Option Nat} {lines : Nat} {time : Time}
  {m : Measurement}

theorem LockedStart.offered_writer (h : LockedStart s p level width lines time m) :
    ((s.offered p level width lines time).port p).writer = (s.port p).writer := by
  rw [h.offered_port]; rfl

theorem LockedStart.restarts (h : LockedStart s p level width lines time m)
    (hnumbered : m.interlaced = false ∨ level = .first) {stage : FillStage} {i : SlotId} {k : FrameNumber}
    (hwriter : (s.port p).writer = .filling stage i k) :
    s.takeStart p level width lines time = (s.offered p level width lines time).restart p m i := by
  rw [h.takeStart_numbered hnumbered]
  show (s.offered p level width lines time).offerToWriter p m true = _
  unfold State.offerToWriter
  rw [h.offered_writer, hwriter]
  rfl

theorem LockedStart.passesOff (h : LockedStart s p level width lines time m)
    (hnumbered : m.interlaced = false ∨ level = .first) (hwriter : (s.port p).writer = .off) :
    s.takeStart p level width lines time = s.offered p level width lines time := by
  rw [h.takeStart_numbered hnumbered]
  show (s.offered p level width lines time).offerToWriter p m true = _
  unfold State.offerToWriter
  rw [h.offered_writer, hwriter]

/-- A SECOND-field start moves AWAIT_SECOND on and leaves every other writer. -/
theorem State.offerToWriter_second (s : State) (p : PortId) (m : Measurement) :
    OnlyChanges [.ports] s (s.offerToWriter p m false) ∧
    (∀ i k, (s.port p).writer = .filling .await i k →
      (s.offerToWriter p m false).port p = { s.port p with writer := .filling .second i k }) ∧
    ((∀ i k, (s.port p).writer ≠ .filling .await i k) → (s.offerToWriter p m false).port p = s.port p) := by
  unfold State.offerToWriter
  cases hwriter : (s.port p).writer with
  | off => exact ⟨.refl _ s, nofun, fun _ => rfl⟩
  | armed => exact ⟨.refl _ s, nofun, fun _ => rfl⟩
  | filling stage i k =>
    simp only [if_false, Bool.false_eq_true]
    split
    · rename_i hawait
      refine ⟨s.modPort_only p _, fun i' k' e => ?_, fun hne => absurd (hawait ▸ rfl) (hne i k)⟩
      cases e
      exact s.port_modPort_same p _
    · rename_i hawait
      exact ⟨.refl _ s, fun i' k' e => absurd (Writer.filling.inj e).1 hawait, fun _ => rfl⟩

end

/-- Settles O12: by the writer that the start meets. -/
theorem lockedStartMeetsTheWriter : Obligations.LockedStartMeetsTheWriter := by
  intro s p level width lines time m h q q' n c g stage hn hc hg hstage hq hq'
  have hexec := exec_start_of_ready h.ready p level width lines time
  have hport : (s.offered p level width lines time).port p = q' := by
    rw [h.offered_port, hq', hq, hn, hc]; rfl
  have hothers := s.takeStart_others p level width lines time
  refine ⟨fun st i k hnumbered hwriter => ?_, fun hnumbered hwriter => ?_, fun hm hlevel => ?_⟩
  · have hrestart := h.restarts hnumbered hwriter
    refine ⟨_, hexec, h.only, hothers, ?_, ?_, ?_⟩
    · rw [hrestart, State.restart_port, hport, hq', hstage]
      rfl
    · rw [hrestart, State.restart_pool, State.offered_pool, hg]
      rfl
    · rw [hrestart]
      exact h.offered_notices
  · have hpasses := h.passesOff hnumbered hwriter
    exact ⟨_, hexec, hpasses ▸ State.offered_only, hothers, hpasses ▸ hport, hpasses ▸ h.offered_notices⟩
  · have hsecond := h.takeStart_second hm hlevel
    obtain ⟨honly, hawait, hother⟩ := State.offerToWriter_second
      (s.measuredPort p level ((s.port p).measure level width lines time) time) p m
    rw [h.port, ← hq] at hawait hother
    have hwriter : q.writer = (s.port p).writer := by rw [hq]; rfl
    rw [hwriter] at hawait hother
    rw [← hsecond] at hawait hother honly
    refine ⟨_, hexec, (s.measuredPort_only p level _ time).trans (honly.weaken (by decide)), hothers, ?_, hawait,
      hother⟩
    exact (honly .notices (by decide)).trans h.notices

/-! ### Leaving LOCKED (R34, R42, R65) -/

/-- R14: aborting the fill, on the pool and the port. -/
theorem State.abortFill_spec (s : State) (p : PortId) (after : Writer) :
    AbortsFill s (s.abortFill p after) p (s.port p) after := by
  unfold AbortsFill State.abortFill
  cases hwriter : (s.port p).writer with
  | off => exact ⟨rfl, rfl⟩
  | armed => exact ⟨rfl, rfl⟩
  | filling stage i n =>
    refine ⟨rfl, ?_⟩
    rw [State.port_modPort_same, State.countPort, State.port_modPort_same]
    rfl

/-- What has happened at a port before its fill is aborted leaves the pool and the writer alone. -/
theorem AbortsFill.after {s u t : State} {p : PortId} {q : Port} {w : Writer} (h : AbortsFill u t p (u.port p) w)
    (hpool : u.pool = s.pool) (hport : u.port p = q) (hwriter : q.writer = (s.port p).writer) :
    AbortsFill s t p q w := by
  unfold AbortsFill at h ⊢
  rw [hport, hwriter, hpool] at h
  exact h

/-- What happens at the heads after the fill is aborted leaves the pool and the ports alone. -/
theorem AbortsFill.then {s u t : State} {p : PortId} {q : Port} {w : Writer} (h : AbortsFill s u p q w)
    (hpool : t.pool = u.pool) (hport : t.port p = u.port p) : AbortsFill s t p q w := by
  unfold AbortsFill at h ⊢
  rw [hpool, hport]
  exact h

theorem State.leaveLocked_aborts (s : State) (p : PortId) (start : Option Time) :
    AbortsFill s (s.leaveLocked p start) p (s.port p) .armed := (s.abortFill_spec p .armed).then rfl rfl

theorem Port.usableStart_of_locked {q : Port} (h : q.detector.isLocked = true) :
    q.usableStart = if q.startedSinceLock then q.latestFrameStart else none := by
  unfold Port.usableStart
  rw [h, Bool.true_and]

/-- R65: the follow losses that arise when the detector of port `p` leaves LOCKED. -/
theorem followLosses_arise {s t : State} {p : PortId} (hlocked : (s.port p).detector.isLocked = true)
    (hheads : ∀ h, t.head h = followLossArises p (s.port p).usableStart (s.head h)) : FollowLossesArise s t p := by
  intro h
  refine ⟨(s.head h).follow.loss.arise (s.port p).usableStart, hheads h, fun start hclear hstarted hstart => ?_,
    fun hoverdue => ?_⟩
  · rw [Port.usableStart_of_locked hlocked, hclear, hstarted, hstart]
    rfl
  · rw [Port.usableStart_of_locked hlocked]
    cases hloss : (s.head h).follow.loss with
    | due t => rfl
    | overdue => rfl
    | clear =>
      rcases hoverdue with hne | hstopped | hnone
      · exact absurd hloss hne
      · rw [hstopped]; rfl
      · rw [hnone, ite_self]; rfl

theorem Detector.measured_of_mismatch {l m : Measurement} (h : m.identical l = false) :
    (Detector.locked l).measured m = if m.inRange then .acquiring (some m) 1 0 else .acquiring none 0 1 := by
  show (if m.identical l then _ else _) = _
  rw [h]
  cases m.inRange <;> rfl

theorem State.loseSignal_others (s : State) (p : PortId) : OtherPorts p s (s.loseSignal p) := by
  unfold State.loseSignal
  dsimp only
  have hraise : OtherPorts p s ((s.modPort p Port.loseSignal).raise (.inputState p .noSignal none)) :=
    (s.modPort_others p _).trans (.of_only (State.raise_only _ _) (by decide))
  split
  · exact hraise.trans (State.leaveLocked_others _ p _)
  · exact hraise

/-- Settles O13: the detector leaves LOCKED at a start that differs and at the expiry of the loss timer. -/
theorem losingLockAbortsTheFill : Obligations.LosingLockAbortsTheFill := by
  refine ⟨fun s p level width lines time l m hready hl hm hdiffers => ?_, fun s p hready hsignal => ?_⟩
  · have hlocked : (s.port p).detector.isLocked = true := Detector.isLocked_iff.2 ⟨l, hl⟩
    have hdetector : (s.port p).detector.measured m =
        if m.inRange then .acquiring (some m) 1 0 else .acquiring none 0 1 := by
      rw [hl]; exact Detector.measured_of_mismatch hdiffers
    have hacquiring : ((s.port p).detector.measured m).state = .acquiring ∧
        ((s.port p).detector.measured m).lockedMeasurement = none := by
      rw [hdetector]; split <;> exact ⟨rfl, rfl⟩
    obtain ⟨hstate, hnone⟩ := hacquiring
    have hleaves : ((s.port p).detector.isLocked && !((s.port p).detector.measured m).isLocked) = true := by
      rw [hlocked, Detector.isLocked, hnone]; rfl
    have htake : s.takeStart p level width lines time =
        (s.measuredPort p level m time).leaveLocked p (s.port p).usableStart := by
      rw [s.takeStart_eq, if_neg (by rw [hl]; nofun), ← hm, hnone]
      simp only [s.measuredStart_eq, if_pos hleaves]
    have hport : (s.measuredPort p level m time).port p = { s.port p with
        detector := if m.inRange then .acquiring (some m) 1 0 else .acquiring none 0 1
        startHistory := (level :: (s.port p).startHistory).take 2
        latest := some m
        lastStart := time
        startedSinceLock := false } := by
      rw [State.measuredPort_port]
      unfold Port.afterMeasure
      rw [show ((s.port p).detector.measured m).isLocked = false by rw [Detector.isLocked, hnone]; rfl,
        Bool.and_false, hdetector]
    refine ⟨_, exec_start_of_ready hready p level width lines time, ?_, s.takeStart_others p level width lines time,
      ?_, ?_, ?_⟩
    · exact (s.takeStart_only p level width lines time).weaken (by decide)
    · rw [htake]
      exact (State.leaveLocked_aborts _ p _).after (State.measuredPort_pool ..) hport rfl
    · refine followLosses_arise hlocked fun h => ?_
      rw [htake, State.leaveLocked_head, State.measuredPort_head]
    · have hkeep := State.leaveLocked_only (s.measuredPort p level m time) p (s.port p).usableStart .notices (by decide)
      rw [htake]
      refine hkeep.trans ?_
      rw [State.measuredPort_notices, hstate, hl, if_neg nofun, ← hl, noticeMeasurement, hnone]
      rfl
  · have hruns : (s.port p).lossTimerRunning = true := by
      unfold Port.lossTimerRunning
      cases hd : (s.port p).detector with
      | noSignal => exact absurd hd hsignal
      | _ => rfl
    have hexec : exec (.lossTimerExpiry p) s = .next (s.loseSignal p) := by
      refine congrArg Host.Outcome.next ((whenReady_of_ready hready _).trans ?_)
      exact if_pos hruns
    refine ⟨_, hexec, (s.loseSignal_only p).weaken (by decide), ?_, ?_, fun q hq => ⟨fun l hl => ?_, fun hnot => ?_⟩⟩
    · exact s.loseSignal_others p
    · unfold State.loseSignal
      dsimp only
      split
      · exact State.leaveLocked_only _ p _ .notices (by decide)
      · rfl
    · have hlocked : (s.port p).detector.isLocked = true := Detector.isLocked_iff.2 ⟨l, hl⟩
      refine ⟨?_, followLosses_arise hlocked fun h => by rw [State.loseSignal_head, if_pos hlocked]⟩
      have hlose : s.loseSignal p = ((s.modPort p Port.loseSignal).raise (.inputState p .noSignal none)).leaveLocked p
          (s.port p).usableStart := if_pos hlocked
      rw [hlose]
      exact (State.leaveLocked_aborts _ p _).after rfl ((s.port_modPort_same p _).trans hq.symm) (by rw [hq])
    · have hnot' : ¬(s.port p).detector.isLocked = true := by
        rw [Detector.isLocked_iff]; exact fun ⟨l, hl⟩ => hnot l hl
      have hlose : s.loseSignal p = (s.modPort p Port.loseSignal).raise (.inputState p .noSignal none) := if_neg hnot'
      rw [hlose]
      exact ⟨(s.port_modPort_same p _).trans hq.symm, rfl, rfl⟩

/-! ### The detector (R28 to R33, R35) -/

theorem Measurement.inRange_iff (m : Measurement) : m.inRange = true ↔
    (64 ≤ m.width ∧ m.width ≤ 1280 ∧ m.width % 2 = 0) ∧
    ((m.interlaced = false ∧ 48 ≤ m.lines ∧ m.lines ≤ 720) ∨
      (m.interlaced = true ∧ 24 ≤ m.lines ∧ m.lines ≤ 360)) ∧ 10000 ≤ m.period ∧ m.period ≤ 50000 := by
  cases h : m.interlaced <;> simp [Measurement.inRange, h] <;> tauto

theorem Measurement.identical_iff (m r : Measurement) : m.identical r = true ↔ m.width = r.width ∧
    m.lines = r.lines ∧ m.interlaced = r.interlaced ∧ 1000 * (m.period - r.period) ≤ 5 * r.period ∧
    1000 * (r.period - m.period) ≤ 5 * r.period := by
  have hscale : ∀ a b : Nat, 200 * a ≤ b ↔ 1000 * a ≤ 5 * b := fun a b => by omega
  simp [Measurement.identical, hscale, and_assoc]

theorem Port.measure_interlaced (q : Port) (level : FieldLevel) (width : Option Nat) (lines : Nat) (time : Time) :
    (q.measure level width lines time).interlaced = true ↔ level = .second ∨ .second ∈ q.startHistory := by
  simp [Port.measure]

theorem Detector.measured_acquiring_match {m r : Measurement} {k o : Nat} (hrange : m.inRange = true)
    (hsame : m.identical r = true) : (Detector.acquiring (some r) k o).measured m =
      if k + 1 < 3 then .acquiring (some r) (k + 1) 0 else .locked r := by
  simp [Detector.measured, countInRange, hrange, hsame]

theorem Detector.measured_acquiring_new {m : Measurement} {r : Option Measurement} {k o : Nat}
    (hrange : m.inRange = true) (hdiffers : ∀ r', r = some r' → m.identical r' = false) :
    (Detector.acquiring r k o).measured m = .acquiring (some m) 1 0 := by
  cases r with
  | none => simp [Detector.measured, countInRange, hrange]
  | some r' => simp [Detector.measured, countInRange, hrange, hdiffers r' rfl]

theorem Detector.measured_acquiring_outOfRange {m : Measurement} {r : Option Measurement} {k o : Nat}
    (hrange : m.inRange = false) :
    (Detector.acquiring r k o).measured m = if o + 1 < 3 then .acquiring none 0 (o + 1) else .unsupported := by
  simp [Detector.measured, countOutOfRange, hrange]

theorem Detector.measured_locked_match {m l : Measurement} (h : m.identical l = true) :
    (Detector.locked l).measured m = .locked l := by
  simp [Detector.measured, h]

theorem Detector.measured_unsupported (m : Measurement) :
    Detector.unsupported.measured m = if m.inRange then .acquiring (some m) 1 0 else .unsupported := rfl

/-- A locked start changes of its port only what the frame number and the writer give. -/
theorem State.lockedStart_port (s : State) (p : PortId) (m : Measurement) (level : FieldLevel) (time : Time) :
    ((s.lockedStart p m level time).port p).detector = (s.port p).detector ∧
    ((s.lockedStart p m level time).port p).startHistory = (s.port p).startHistory ∧
    ((s.lockedStart p m level time).port p).latest = (s.port p).latest ∧
    ((s.lockedStart p m level time).port p).lastStart = (s.port p).lastStart ∧
    ((s.lockedStart p m level time).port p).depth = (s.port p).depth := by
  unfold State.lockedStart
  split
  · rw [State.offerToWriter_writer _ p m true p, State.port_modPort_same]
    exact ⟨rfl, rfl, rfl, rfl, rfl⟩
  · rw [State.offerToWriter_writer s p m false p]
    exact ⟨rfl, rfl, rfl, rfl, rfl⟩

/-- A start in another state than NO_SIGNAL forms a measurement, which moves the detector. -/
theorem State.takeStart_port {s : State} {p : PortId} (hsignal : (s.port p).detector ≠ .noSignal)
    (level : FieldLevel) (width : Option Nat) (lines : Nat) (time : Time) :
    ((s.takeStart p level width lines time).port p).detector =
      (s.port p).detector.measured ((s.port p).measure level width lines time) ∧
    ((s.takeStart p level width lines time).port p).startHistory = (level :: (s.port p).startHistory).take 2 ∧
    ((s.takeStart p level width lines time).port p).latest = some ((s.port p).measure level width lines time) ∧
    ((s.takeStart p level width lines time).port p).lastStart = time ∧
    ((s.takeStart p level width lines time).port p).depth = (s.port p).depth := by
  have hstart : ∀ u : State, OnlyWriter (s.measuredPort p level ((s.port p).measure level width lines time) time) u →
      (u.port p).detector = (s.port p).detector.measured ((s.port p).measure level width lines time) ∧
      (u.port p).startHistory = (level :: (s.port p).startHistory).take 2 ∧
      (u.port p).latest = some ((s.port p).measure level width lines time) ∧
      (u.port p).lastStart = time ∧ (u.port p).depth = (s.port p).depth := by
    intro u hu
    rw [hu p, State.measuredPort_port]
    exact ⟨rfl, rfl, rfl, rfl, rfl⟩
  rw [s.takeStart_eq, if_neg hsignal]
  split
  · rename_i m hm
    obtain ⟨h₁, h₂, h₃, h₄, h₅⟩ := State.lockedStart_port
      (s.measuredStart p level ((s.port p).measure level width lines time) time) p m level time
    rw [h₁, h₂, h₃, h₄, h₅]
    exact hstart _ (s.measuredStart_port p level _ time)
  · exact hstart _ (s.measuredStart_port p level _ time)

theorem State.firstStart_port (s : State) (p : PortId) (level : FieldLevel) (time : Time) :
    (s.firstStart p level time).port p = { s.port p with
      detector := .acquiring none 0 0, startHistory := [level], lastStart := time } := by
  unfold State.firstStart
  rw [State.port_raise, State.port_modPort_same]

theorem State.takeStart_of_noSignal {s : State} {p : PortId} (h : (s.port p).detector = .noSignal)
    (level : FieldLevel) (width : Option Nat) (lines : Nat) (time : Time) :
    s.takeStart p level width lines time = s.firstStart p level time := by
  rw [s.takeStart_eq, if_pos h]

/-- A start that finds and leaves the detector in another state than LOCKED feeds the detector alone. -/
theorem State.takeStart_unlocked {s : State} {p : PortId} {level : FieldLevel} {width : Option Nat} {lines : Nat}
    {time : Time} (hsignal : (s.port p).detector ≠ .noSignal) (hbefore : ∀ l, (s.port p).detector ≠ .locked l)
    (hafter : ∀ l, ((s.takeStart p level width lines time).port p).detector ≠ .locked l) :
    s.takeStart p level width lines time =
      s.measuredPort p level ((s.port p).measure level width lines time) time := by
  rw [(s.takeStart_port hsignal level width lines time).1] at hafter
  have hnone : ((s.port p).detector.measured ((s.port p).measure level width lines time)).lockedMeasurement = none := by
    rw [Option.eq_none_iff_forall_ne_some]
    exact fun m hm => hafter m (Detector.lockedMeasurement_eq_some.1 hm)
  rw [s.takeStart_eq, if_neg hsignal, hnone]
  simp only [s.measuredStart_eq, Detector.isLocked_eq_false_iff.2 hbefore, Bool.false_and, Bool.false_eq_true,
    if_false]

/-- Settles O10: by the state in which the start finds the detector. -/
theorem detectorFollowsTheMeasurements : Obligations.DetectorFollowsTheMeasurements := by
  refine ⟨Measurement.inRange_iff, Measurement.identical_iff, fun s p level width lines time hready =>
    ⟨_, exec_start_of_ready hready p level width lines time, s.takeStart_others p level width lines time,
      (s.takeStart_only p level width lines time).weaken (by decide), ?_, ?_, fun hbefore hafter => ?_, fun hno => ?_,
      fun hsignal => ?_⟩⟩
  · by_cases hno : (s.port p).detector = .noSignal
    · rw [State.takeStart_of_noSignal hno, State.firstStart_port]
    · obtain ⟨_, _, _, hlast, _⟩ := State.takeStart_port hno level width lines time
      exact hlast
  · by_cases hno : (s.port p).detector = .noSignal
    · rw [State.takeStart_of_noSignal hno, State.firstStart_port]
    · obtain ⟨_, _, _, _, hdepth⟩ := State.takeStart_port hno level width lines time
      exact hdepth
  · by_cases hno : (s.port p).detector = .noSignal
    · rw [State.takeStart_of_noSignal hno, State.firstStart_port]
      exact ⟨rfl, rfl, rfl, rfl, rfl, rfl, rfl⟩
    · rw [State.takeStart_unlocked hno hbefore hafter, State.measuredPort_port]
      exact ⟨rfl, rfl, rfl, rfl, rfl, State.measuredPort_pool .., State.measuredPort_heads ..⟩
  · rw [State.takeStart_of_noSignal hno, State.firstStart_port]
    exact ⟨rfl, rfl, rfl, rfl, rfl⟩
  · obtain ⟨hdetector, hhistory, hlatest, _, _⟩ := State.takeStart_port hsignal level width lines time
    have hnotices : (∀ l, (s.port p).detector ≠ .locked l) →
        (∀ l, ((s.takeStart p level width lines time).port p).detector ≠ .locked l) →
        (s.takeStart p level width lines time).notices =
          if ((s.takeStart p level width lines time).port p).detector.state = (s.port p).detector.state then s.notices
          else s.notices.raise (.inputState p ((s.takeStart p level width lines time).port p).detector.state
            (some (noticeMeasurement ((s.takeStart p level width lines time).port p).detector
              ((s.port p).measure level width lines time)))) := by
      intro hbefore hafter
      rw [hdetector, State.takeStart_unlocked hsignal hbefore hafter]
      exact State.measuredPort_notices ..
    refine ⟨(s.port p).measure level width lines time, hlatest, rfl, rfl, rfl, Port.measure_interlaced ..,
      hhistory, fun r k o hd hrange hsame => ?_, fun r k o hd hrange hdiffers => ?_, fun r k o hd hrange => ?_,
      fun l hd hsame => ?_, fun l hd hdiffers => ?_, fun hd => ?_, fun r k o hd => ⟨fun ha => ?_, fun r' k' o' ha => ?_⟩,
      fun hd => ⟨fun ha => ?_, fun r k o ha => ?_⟩⟩
    · rw [hdetector, hd, Detector.measured_acquiring_match hrange hsame]
    · rw [hdetector, hd, Detector.measured_acquiring_new hrange hdiffers]
    · rw [hdetector, hd, Detector.measured_acquiring_outOfRange hrange]
    · rw [hdetector, hd, Detector.measured_locked_match hsame]
    · rw [hdetector, hd, Detector.measured_of_mismatch hdiffers]
    · rw [hdetector, hd, Detector.measured_unsupported]
    · rw [hnotices (by rw [hd]; nofun) (by rw [ha]; nofun), ha, hd]; rfl
    · rw [hnotices (by rw [hd]; nofun) (by rw [ha]; nofun), ha, hd]; rfl
    · rw [hnotices (by rw [hd]; nofun) (by rw [ha]; nofun), ha, hd]; rfl
    · rw [hnotices (by rw [hd]; nofun) (by rw [ha]; nofun), ha, hd]; rfl

end Sys2Proof.Machine
end

section
/-! What a fill end stores, and what a completion does to the ready list (R6, R7, R40, R41). -/
namespace Sys2Proof.Machine

/-! ### The places of a field or frame in its slot -/

/-- The place of byte `k` of what is written, from the start of its slot: a progressive frame fills the lines in order,
a first field the even lines and a second field the odd lines. -/
def fillOffset (w : Nat) (stage : FillStage) (k : Nat) : Nat :=
  match stage with
  | .progressive => k / (2 * w) * (2 * w) + k % (2 * w)
  | .first => 2 * (k / (2 * w)) * (2 * w) + k % (2 * w)
  | .await => k / (2 * w) * (2 * w) + k % (2 * w)
  | .second => (2 * (k / (2 * w)) + 1) * (2 * w) + k % (2 * w)

theorem fillAddress_eq (i : SlotId) (w : Nat) (stage : FillStage) (k : Nat) :
    fillAddress i w stage k = BitVec.ofNat 26 (1843200 * i.val + fillOffset w stage k) := by
  unfold fillAddress
  rw [show i.val * Config.slotBytes = 1843200 * i.val from Nat.mul_comm _ _]
  cases stage <;> simp only [fillOffset, Nat.add_assoc]

/-- A byte's line and its place in the line are those of its offset. -/
theorem line_of_offset {w a b : Nat} (hb : b < 2 * w) : (a * (2 * w) + b) / (2 * w) = a ∧ (a * (2 * w) + b) % (2 * w) = b := by
  have hw : 0 < 2 * w := by omega
  rw [Nat.mul_comm a, Nat.mul_add_div hw, Nat.mul_add_mod, Nat.div_eq_of_lt hb, Nat.mod_eq_of_lt hb]
  exact ⟨rfl, rfl⟩

theorem fillOffset_injective {w : Nat} {stage : FillStage} {j k : Nat} (hw : 0 < w)
    (h : fillOffset w stage j = fillOffset w stage k) : j = k := by
  have hj : j % (2 * w) < 2 * w := Nat.mod_lt _ (by omega)
  have hk : k % (2 * w) < 2 * w := Nat.mod_lt _ (by omega)
  have hparts : j / (2 * w) = k / (2 * w) ∧ j % (2 * w) = k % (2 * w) := by
    have hline := congrArg (· / (2 * w)) h
    have hplace := congrArg (· % (2 * w)) h
    cases stage <;>
      simp only [fillOffset, (line_of_offset hj).1, (line_of_offset hj).2, (line_of_offset hk).1,
        (line_of_offset hk).2] at hline hplace <;>
      exact ⟨by omega, hplace⟩
  rw [← Nat.div_add_mod j (2 * w), ← Nat.div_add_mod k (2 * w), hparts.1, hparts.2]

/-- What a stage writes lies in the lines of the frame. -/
theorem fillOffset_lt {g : Geometry} {stage : FillStage} {k : Nat} (hk : k < fillLength g stage) :
    fillOffset g.width stage k < 2 * g.width * g.height := by
  have hw : 0 < 2 * g.width := by
    rcases Nat.eq_zero_or_pos (2 * g.width) with h | h
    · exfalso; cases stage <;> simp [fillLength, h] at hk
    · exact h
  have hmod := Nat.mod_lt k hw
  have hbound : ∀ {line : Nat}, line < g.height → line * (2 * g.width) + k % (2 * g.width) < 2 * g.width * g.height :=
    fun {line} hline => calc
      line * (2 * g.width) + k % (2 * g.width) < (line + 1) * (2 * g.width) := by rw [Nat.add_mul]; omega
      _ ≤ g.height * (2 * g.width) := Nat.mul_le_mul_right _ hline
      _ = 2 * g.width * g.height := Nat.mul_comm _ _
  cases stage with
  | progressive => exact hbound (Nat.div_lt_of_lt_mul hk)
  | first =>
    have hline : k / (2 * g.width) < g.height / 2 := Nat.div_lt_of_lt_mul hk
    exact hbound (by omega)
  | await => exact absurd hk (Nat.not_lt_zero k)
  | second =>
    have hline : k / (2 * g.width) < g.height / 2 := Nat.div_lt_of_lt_mul hk
    exact hbound (by omega)

/-- No two bytes of a field or frame have the same address. -/
theorem fillAddress_injective {i : SlotId} {g : Geometry} {stage : FillStage} {j k : Nat}
    (hfits : 2 * g.width * g.height ≤ Config.slotBytes) (hj : j < fillLength g stage) (hk : k < fillLength g stage)
    (h : fillAddress i g.width stage j = fillAddress i g.width stage k) : j = k := by
  have hw : 0 < g.width := by
    rcases Nat.eq_zero_or_pos g.width with hzero | hpos
    · exfalso; cases stage <;> simp [fillLength, hzero] at hk
    · exact hpos
  have hj' := fillOffset_lt hj
  have hk' := fillOffset_lt hk
  have hi : i.val < 24 := i.isLt
  have hbytes : Config.slotBytes = 1843200 := rfl
  refine fillOffset_injective (stage := stage) hw ?_
  rw [fillAddress_eq, fillAddress_eq] at h
  have h' := congrArg BitVec.toNat h
  rw [BitVec.toNat_ofNat, BitVec.toNat_ofNat, Nat.mod_eq_of_lt (by omega), Nat.mod_eq_of_lt (by omega)] at h'
  omega

/-! ### The pixels -/

section
variable {s : State} {p : PortId} {i : SlotId} {g : Geometry}

theorem State.writePixels_of_filling (hslot : s.slot i = .filling p g) (stage : FillStage) (pixels : List Byte) :
    s.writePixels i stage pixels =
      s.writeBytes (fillAddress i g.width stage) 0 (pixels.take (fillLength g stage)) := by
  unfold State.writePixels
  rw [hslot]

/-- R40: byte `k` of the field or frame is at its place in the slot. -/
theorem State.writePixels_same (hslot : s.slot i = .filling p g) (hfits : 2 * g.width * g.height ≤ Config.slotBytes)
    {stage : FillStage} {pixels : List Byte} {k : Nat} (hpixel : k < pixels.length) (hk : k < fillLength g stage) :
    (s.writePixels i stage pixels).dramByte (fillAddress i g.width stage k) = pixels.getD k 0 := by
  have hlen : (pixels.take (fillLength g stage)).length = min (fillLength g stage) pixels.length := List.length_take
  have hk' : k < (pixels.take (fillLength g stage)).length := by omega
  rw [State.writePixels_of_filling hslot]
  have hsame := State.dramByte_writeBytes_same (fillAddress i g.width stage) (pixels.take (fillLength g stage)) 0 s k hk'
    fun j hj he => fillAddress_injective hfits (by omega) hk (by simpa using he)
  rw [Nat.zero_add] at hsame
  rw [hsame, List.getElem_take, List.getD_eq_getElem _ _ hpixel]

/-- Every other byte of DRAM reads as before. -/
theorem State.writePixels_other (hslot : s.slot i = .filling p g) {stage : FillStage} {pixels : List Byte}
    {a : DramAddress} (ha : ∀ k, k < pixels.length → k < fillLength g stage → fillAddress i g.width stage k ≠ a) :
    SameByte s (s.writePixels i stage pixels) a := by
  have hlen : (pixels.take (fillLength g stage)).length = min (fillLength g stage) pixels.length := List.length_take
  unfold SameByte
  rw [State.writePixels_of_filling hslot]
  exact State.dramByte_writeBytes_other _ _ _ 0 s fun j _ hj => ha j (by omega) (by omega)

end

/-! ### Completions (R6, R7) -/

section
variable {s : State} {p : PortId} {i : SlotId} {n : FrameNumber} {g : Geometry}

/-- The completed frame stands at the tail of the ready list, which may be longer than the hold depth. -/
def State.completed (s : State) (p : PortId) (i : SlotId) (n : FrameNumber) (g : Geometry) : State :=
  ((s.setSlot i (.ready ⟨p, n, g, 0, false⟩)).setReady p (s.readyList p ++ [i])).countPort p
    fun c => { c with captured := c.captured + 1 }

theorem State.complete_of_filling (hslot : s.slot i = .filling p g) (n : FrameNumber) :
    s.complete p i n = (s.completed p i n g).evictSurplus p := by
  unfold State.complete
  rw [hslot]
  rfl

theorem State.completed_port (s : State) (p : PortId) (i : SlotId) (n : FrameNumber) (g : Geometry) :
    (s.completed p i n g).port p =
      { s.port p with counters := { (s.port p).counters with captured := (s.port p).counters.captured + 1 } } := by
  unfold State.completed
  rw [State.countPort, State.port_modPort_same]
  rfl

theorem State.completed_readyList (s : State) (p : PortId) (i : SlotId) (n : FrameNumber) (g : Geometry) :
    (s.completed p i n g).readyList p = s.readyList p ++ [i] := State.readyList_setReady_same _ p _

theorem State.completed_pool (s : State) (p : PortId) (i : SlotId) (n : FrameNumber) (g : Geometry) :
    (s.completed p i n g).pool = { s.pool with
      slots := s.pool.slots.set i (.ready ⟨p, n, g, 0, false⟩)
      ready := s.pool.ready.set p (s.readyList p ++ [i]) } := rfl

theorem State.completed_surplus (s : State) (p : PortId) (i : SlotId) (n : FrameNumber) (g : Geometry) :
    (s.completed p i n g).evictSurplus p =
      State.evict ((s.readyList p).length + 1 - (s.port p).depth) p (s.completed p i n g) := by
  unfold State.evictSurplus
  rw [State.completed_readyList, State.completed_port, List.length_append]
  rfl

theorem State.completeFill_below (hslot : s.slot i = .filling p g) (hroom : (s.readyList p).length < (s.port p).depth)
    (n : FrameNumber) : s.completeFill p i n = (s.completed p i n g).modPort p fun q => { q with writer := .armed } := by
  have hnone : (s.readyList p).length + 1 - (s.port p).depth = 0 := by omega
  unfold State.completeFill
  rw [State.complete_of_filling hslot, State.completed_surplus, hnone]
  rfl

theorem State.completeFill_full (hslot : s.slot i = .filling p g) {j : SlotId} {l : List SlotId}
    (hlist : s.readyList p = j :: l) (hfull : (s.readyList p).length = (s.port p).depth) (n : FrameNumber) :
    s.completeFill p i n = ((((s.completed p i n g).countDrop p j).setReady p (l ++ [i])).retireSlot j).modPort p
      fun q => { q with writer := .armed } := by
  have hone : (s.readyList p).length + 1 - (s.port p).depth = 1 := by omega
  unfold State.completeFill
  rw [State.complete_of_filling hslot, State.completed_surplus, hone]
  show (State.evictOldest _ p).modPort p _ = _
  rw [State.evictOldest_cons (i := j) (l := l ++ [i])]
  rw [State.completed_readyList, hlist]
  rfl

/-- Retiring a READY frame, on the pool. -/
theorem State.retireSlot_pool {s : State} {j : SlotId} {f : StoredFrame} (h : s.slot j = .ready f) :
    (s.retireSlot j).pool = { s.pool with
      slots := s.pool.slots.set j (if f.refs = 0 then .free else .held f)
      freeList := if f.refs = 0 then s.pool.freeList ++ [j] else s.pool.freeList } := by
  unfold State.retireSlot
  rw [h]
  dsimp only
  split <;> rfl

end

theorem State.completeFill_others (s : State) (p : PortId) (i : SlotId) (n : FrameNumber) :
    OtherPorts p s (s.completeFill p i n) := by
  have hcomplete : OtherPorts p s (s.complete p i n) := by
    unfold State.complete
    split
    · exact (((OtherPorts.of_only (s.setSlot_only _ _) (by decide)).trans
        (.of_only (State.setReady_only _ _ _) (by decide))).trans (State.modPort_others _ p _)).trans
        (State.evict_others _ p _)
    all_goals exact .refl p s
  exact hcomplete.trans (State.modPort_others _ p _)

theorem State.takeFillEnd_others (s : State) (p : PortId) (px : List Byte) : OtherPorts p s (s.takeFillEnd p px) := by
  have hwrite : ∀ i stage, OtherPorts p s (s.writePixels i stage px) :=
    fun i stage => .of_only (s.writePixels_only i stage px) (by decide)
  unfold State.takeFillEnd
  split
  · exact (hwrite _ _).trans (State.completeFill_others _ p _ _)
  · exact (hwrite _ _).trans (State.modPort_others _ p _)
  · exact (hwrite _ _).trans (State.completeFill_others _ p _ _)
  all_goals exact .refl p s

theorem exec_fillEnd_of_ready {s : State} (h : s.device.phase = .ready) (p : PortId) (pixels : List Byte) :
    exec (.fillEnd p pixels) s = .next (s.takeFillEnd p pixels) :=
  congrArg Host.Outcome.next (whenReady_of_ready h _)

/-- The fill end of a frame stores its pixels and completes it. -/
theorem State.takeFillEnd_of_frame {s : State} {p : PortId} {stage : FillStage} {i : SlotId} {n : FrameNumber}
    (hwriter : (s.port p).writer = .filling stage i n) (hstage : stage = .progressive ∨ stage = .second)
    (pixels : List Byte) :
    s.takeFillEnd p pixels = (s.writePixels i stage pixels).completeFill p i n := by
  unfold State.takeFillEnd
  rw [hwriter]
  rcases hstage with rfl | rfl <;> rfl

theorem State.takeFillEnd_of_first {s : State} {p : PortId} {i : SlotId} {n : FrameNumber}
    (hwriter : (s.port p).writer = .filling .first i n) (pixels : List Byte) :
    s.takeFillEnd p pixels =
      (s.writePixels i .first pixels).modPort p fun q => { q with writer := .filling .await i n } := by
  unfold State.takeFillEnd
  rw [hwriter]

/-- A completion leaves DRAM alone. -/
theorem State.completeFill_dram (s : State) (p : PortId) (i : SlotId) (n : FrameNumber) (a : DramAddress) :
    (s.completeFill p i n).dramByte a = s.dramByte a := by
  unfold State.dramByte
  rw [s.completeFill_only p i n .dram (by decide), s.completeFill_only p i n .device (by decide)]

section
variable {s : State} {p : PortId} {i : SlotId} {stage : FillStage} {pixels : List Byte}

theorem State.writePixels_slot (j : SlotId) : (s.writePixels i stage pixels).slot j = s.slot j :=
  State.slot_of_only (s.writePixels_only i stage pixels) (by decide) j

theorem State.writePixels_readyList (q : PortId) : (s.writePixels i stage pixels).readyList q = s.readyList q :=
  State.readyList_of_only (s.writePixels_only i stage pixels) (by decide) q

theorem State.writePixels_port (q : PortId) : (s.writePixels i stage pixels).port q = s.port q :=
  State.port_of_only (s.writePixels_only i stage pixels) (by decide) q

theorem State.writePixels_pool : (s.writePixels i stage pixels).pool = s.pool :=
  s.writePixels_only i stage pixels .pool (by decide)

end

/-- Settles O14: the pixels go to distinct addresses, and a list below its hold depth takes the frame at its tail. -/
theorem fillEndStoresTheFrame : Obligations.FillEndStoresTheFrame := by
  refine ⟨fun i g k => ⟨⟨rfl, rfl, rfl⟩, ?_, ?_, ?_⟩, fun s p pixels stage i n g hready hwriter hawait hslot hfits hroom =>
    ⟨_, exec_fillEnd_of_ready hready p pixels, s.takeFillEnd_only p pixels |>.weaken (by decide),
      s.takeFillEnd_others p pixels, ?_⟩⟩
  · rw [fillAddress_eq]; simp only [fillOffset, Nat.add_assoc]
  · rw [fillAddress_eq]; simp only [fillOffset, Nat.add_assoc]
  · rw [fillAddress_eq]; simp only [fillOffset, Nat.add_assoc]
  · by_cases hfirst : stage = .first
    · subst hfirst
      rw [State.takeFillEnd_of_first hwriter]
      refine ⟨fun k hp hk => State.writePixels_same hslot hfits hp hk, fun a ha => State.writePixels_other hslot ha,
        fun _ => ⟨?_, State.writePixels_pool⟩, fun hne => absurd rfl hne⟩
      rw [State.port_modPort_same, State.writePixels_port]
    · have hframe : stage = .progressive ∨ stage = .second := by
        cases stage with
        | progressive => exact .inl rfl
        | second => exact .inr rfl
        | first => exact absurd rfl hfirst
        | await => exact absurd rfl hawait
      rw [State.takeFillEnd_of_frame hwriter hframe]
      refine ⟨fun k hp hk => ?_, fun a ha => ?_, fun e => absurd e hfirst, fun _ => ?_⟩
      · rw [State.completeFill_dram]; exact State.writePixels_same hslot hfits hp hk
      · unfold SameByte; rw [State.completeFill_dram]; exact State.writePixels_other hslot ha
      · rw [State.completeFill_below (State.writePixels_slot i |>.trans hslot)
          (by rw [State.writePixels_readyList, State.writePixels_port]; exact hroom.resolve_right hfirst)]
        refine ⟨?_, ?_⟩
        · rw [State.port_modPort_same, State.completed_port, State.writePixels_port]
        · refine (State.completed_pool ..).trans ?_
          rw [State.writePixels_pool, State.writePixels_readyList]

/-- Settles O15: the list is one frame too long, and its oldest frame is retired. -/
theorem completionEvictsTheOldest : Obligations.CompletionEvictsTheOldest := by
  intro s p pixels stage i j l n g f c hready hwriter hstage hslot hfits hlist hfull hj hc
  have hexec := exec_fillEnd_of_ready hready p pixels
  have honly := (s.takeFillEnd_only p pixels).weaken (m := [.ports, .pool, .dram]) (by decide)
  have hothers := s.takeFillEnd_others p pixels
  have hne : j ≠ i := fun e => by rw [e, hslot] at hj; cases hj
  rw [State.takeFillEnd_of_frame hwriter hstage] at hexec honly hothers
  refine ⟨_, hexec, honly, hothers, fun k hp hk => ?_, fun a ha => ?_, ?_, ?_⟩
  · rw [State.completeFill_dram]; exact State.writePixels_same hslot hfits hp hk
  · unfold SameByte; rw [State.completeFill_dram]; exact State.writePixels_other hslot ha
  all_goals
    have hj' : ((s.writePixels i stage pixels).completed p i n g).slot j = .ready f := by
      unfold State.completed
      rw [State.countPort, State.slot_modPort, State.slot_setReady, State.slot_setSlot_other _ _ hne,
        State.writePixels_slot, hj]
    rw [State.completeFill_full ((State.writePixels_slot i).trans hslot)
      ((State.writePixels_readyList p).trans hlist) (by rw [State.writePixels_readyList, State.writePixels_port, hfull])]
  · have hretire : ∀ u : State, (u.retireSlot j).port p = u.port p :=
      fun u => State.port_of_only (u.retireSlot_only j) (by decide) p
    rw [State.port_modPort_same, hretire, State.port_setReady, State.countDrop_port_of_ready hj',
      State.completed_port, State.writePixels_port, hc]
  · have hpool : (((s.writePixels i stage pixels).completed p i n g).countDrop p j).pool = { s.pool with
        slots := s.pool.slots.set i (.ready ⟨p, n, g, 0, false⟩)
        ready := s.pool.ready.set p (s.readyList p ++ [i]) } := by
      rw [State.pool_countDrop, State.completed_pool, State.writePixels_pool, State.writePixels_readyList]
    refine (State.retireSlot_pool (f := f) ?_).trans ?_
    · rw [State.slot_setReady, State.slot_countDrop, hj']
    · unfold State.setReady
      rw [hpool]
      simp only [Vector.set_set]

end Sys2Proof.Machine
end

section
/-! The requests of the ports and the pins (R8, R11, R14, R17, R18, R22, R23, R43 to R46). -/
namespace Sys2Proof.Machine

/-- A request in the ready state whose mode fits runs the block's body. -/
theorem performs_of_request {c : Instr} {s u : State} {r : Request} {rest : List Request} {rep : Reply}
    {parts : List Part} {after : State → Prop} {code : Byte} {rule : LengthRule} (hc : requestCode c = some code)
    (ht : Takes s r rest code) (hrule : commandRule code = some rule) (hlen : rule.allows r.payload.length = true)
    (hfits : modeFits c r) (hbody : bodyOf c r.payload (s.withRequests rest) = (rep, u))
    (hlink : u.link = (s.withRequests rest).link) (honly : OnlyChanges parts (s.withRequests rest) u)
    (hafter : after (u.post r rep)) : Performs c s r rest rep parts after := by
  obtain ⟨mine, hexec, hmine⟩ := exec_request hc
  refine performs_of_exec ?_ ht.runs hlink honly hafter
  rw [hexec, State.takeRequest_taken ht.served ((hmine r).2 ⟨ht.code, hfits⟩),
    State.execute_of_ready (s := s.withRequests rest) ht.ready (ht.code ▸ hrule) hlen, hbody]

/-! ### CAPTURE_ON and CAPTURE_OFF (R43) -/

theorem State.captureOn_others (s : State) (p : PortId) : OtherPorts p s (s.captureOn p) := by
  unfold State.captureOn
  split
  · exact s.modPort_others p _
  all_goals exact .refl p s

theorem State.captureOff_others (s : State) (p : PortId) : OtherPorts p s (s.captureOff p) := by
  unfold State.captureOff
  split
  · exact .refl p s
  · exact s.modPort_others p _
  · exact s.abortFill_others p _

theorem State.captureOn_of_off {s : State} {p : PortId} (h : (s.port p).writer = .off) :
    (s.captureOn p).port p = { s.port p with writer := .armed } := by
  unfold State.captureOn
  rw [h]
  exact s.port_modPort_same p _

theorem State.captureOn_of_on {s : State} {p : PortId} (h : (s.port p).writer ≠ .off) : s.captureOn p = s := by
  unfold State.captureOn
  split
  · rename_i e; exact absurd e h
  · rfl
  · rfl

theorem State.captureOff_of_armed {s : State} {p : PortId} (h : (s.port p).writer = .armed) :
    s.captureOff p = s.modPort p fun q => { q with writer := .off } := by
  unfold State.captureOff
  rw [h]

/-- CAPTURE_OFF aborts a fill; an OFF writer stays as it is. -/
theorem State.captureOff_aborts {s : State} {p : PortId} (h : (s.port p).writer ≠ .armed) :
    AbortsFill s (s.captureOff p) p (s.port p) .off := by
  have habort : s.captureOff p = s.abortFill p .off := by
    unfold State.captureOff State.abortFill
    cases hwriter : (s.port p).writer with
    | armed => exact absurd hwriter h
    | off => rfl
    | filling stage i n => simp only
  rw [habort]
  exact s.abortFill_spec p .off

theorem captureBody_on (p : PortId) (s : State) : captureBody [byteOf p.val, 1] s = done (s.captureOn p) :=
  withIndex_byteOf p (by decide) _ _ _

theorem captureBody_off (p : PortId) (s : State) : captureBody [byteOf p.val, 0] s = done (s.captureOff p) :=
  withIndex_byteOf p (by decide) _ _ _

theorem modeFits_on {r : Request} {b : Byte} (hp : r.payload = [b, 1]) : modeFits .captureOn r := by
  refine ⟨fun _ h => ?_, nofun⟩
  rw [hp] at h
  exact absurd h.2 (show ¬(1 : Byte) = 0 by decide)

theorem modeFits_off {r : Request} {b : Byte} (hp : r.payload = [b, 0]) : modeFits .captureOff r := by
  refine ⟨nofun, fun _ h => ?_⟩
  rw [hp] at h
  exact absurd h.2 (show ¬(0 : Byte) = 1 by decide)

/-- Settles O16: the mode byte chooses, and the writer decides. -/
theorem captureSwitchesTheWriter : Obligations.CaptureSwitchesTheWriter := by
  intro s r rest p ht
  refine ⟨fun hp => ?_, fun hp => ?_⟩
  · refine performs_of_request (rule := .exactly 2) rfl ht rfl (by rw [hp]; rfl)
      (modeFits_on hp) (by rw [hp]; exact captureBody_on p _)
      (State.captureOn_only _ p .link (by decide)) (State.captureOn_only _ p) ⟨?_, fun h => ?_, fun h => ?_⟩
    · exact State.captureOn_others (s.withRequests rest) p
    · exact State.captureOn_of_off (s := s.withRequests rest) h
    · have hsame := State.captureOn_of_on (s := s.withRequests rest) h
      rw [hsame]
      rfl
  · refine performs_of_request (rule := .exactly 2) rfl ht rfl (by rw [hp]; rfl)
      (modeFits_off hp) (by rw [hp]; exact captureBody_off p _)
      (State.captureOff_only _ p .link (by decide)) ((State.captureOff_only _ p).weaken (by decide))
      ⟨?_, fun h => ?_, fun h => ?_⟩
    · exact State.captureOff_others (s.withRequests rest) p
    · have hoff := State.captureOff_of_armed (s := s.withRequests rest) h
      rw [hoff]
      exact ⟨State.port_modPort_same (s.withRequests rest) p fun q => { q with writer := .off }, rfl⟩
    · exact State.captureOff_aborts (s := s.withRequests rest) h

/-! ### PORT_DEPTH and PORT_FLUSH (R8, R11, R45) -/

theorem portDepthBody_of_depth {p : PortId} {d : Byte} (h : 1 ≤ d.toNat ∧ d.toNat ≤ 4) (s : State) :
    portDepthBody [byteOf p.val, d] s =
      done ((s.modPort p fun q => { q with depth := d.toNat }).evictSurplus p) :=
  (withIndex_byteOf p (by decide) _ _ _).trans (if_pos h)

theorem portDepthBody_refuses {p : PortId} {d : Byte} (h : d.toNat = 0 ∨ 4 < d.toNat) (s : State) :
    portDepthBody [byteOf p.val, d] s = (.refuse .badValue, s) :=
  (withIndex_byteOf p (by decide) _ _ _).trans (if_neg fun hd : 1 ≤ d.toNat ∧ d.toNat ≤ 4 => by omega)

theorem PoolOk.allReady {s : State} (h : PoolOk s) {p : PortId} {l : List SlotId} (hl : l ⊆ s.readyList p) :
    s.AllReady l := (poolOk_iff.1 h).1.allReady hl

theorem PoolOk.nodup {s : State} (h : PoolOk s) (p : PortId) : (s.readyList p).Nodup :=
  (poolOk_iff.1 h).1.listNodup p

/-- R11: a new depth evicts the surplus, oldest first. -/
theorem depth_retires {s : State} {p : PortId} {d : Nat} {out keep : List SlotId} (ok : PoolOk s)
    (hlist : s.readyList p = out ++ keep) (hout : out.length = (s.readyList p).length - d) :
    let t := (s.modPort p fun q => { q with depth := d }).evictSurplus p
    t.port p = { s.port p with
      depth := d
      counters := { (s.port p).counters with
        dropped := (s.port p).counters.dropped + BitVec.ofNat 32 (out.filter s.unshown).length } } ∧
    t.readyList p = keep ∧ Retires s t p out := by
  have hport := s.port_modPort_same p fun q => { q with depth := d }
  have hevict : (s.modPort p fun q => { q with depth := d }).evictSurplus p =
      State.evict out.length p (s.modPort p fun q => { q with depth := d }) := by
    unfold State.evictSurplus
    rw [hport, hout]
    rfl
  have hnodup : out.Nodup := (List.nodup_append.1 (hlist ▸ ok.nodup p)).1
  have hready : s.AllReady out := ok.allReady (hlist ▸ List.subset_append_left _ _)
  obtain ⟨hkeep, hretires, hcount⟩ := State.evict_retires (s := s.modPort p fun q => { q with depth := d }) (p := p)
    hlist hnodup hready
  rw [hport] at hcount
  exact hevict ▸ ⟨hcount, hkeep, hretires⟩

/-- Settles O17: the evictions of a smaller depth, and a flush. -/
theorem depthAndFlushShortenTheReadyList : Obligations.DepthAndFlushShortenTheReadyList := by
  intro s r rest p ok
  refine ⟨fun d ht hp => ⟨fun hd out keep hlist hout => ?_, fun hd => ?_⟩, fun ht hp => ?_⟩
  · obtain ⟨hport, hkeep, hretires⟩ := depth_retires (s := s.withRequests rest) ok hlist hout
    refine performs_of_body rfl ht rfl (by rw [hp]; rfl) (by rw [hp]; exact portDepthBody_of_depth hd _)
      ?_ ?_ ⟨?_, hport, hkeep, hretires⟩
    · exact State.evictSurplus_only _ p .link (by decide)
    · exact ((State.modPort_only _ p _).weaken (by decide)).trans ((State.evictSurplus_only _ p).weaken (by decide))
    · exact (State.modPort_others (s.withRequests rest) p fun q => { q with depth := d.toNat }).trans
        (State.evict_others _ p _)
  · exact refuses_of_body rfl ht rfl (by rw [hp]; rfl) (by rw [hp]; exact portDepthBody_refuses hd _)
  · refine performs_of_body (u := (s.withRequests rest).flush p) rfl ht rfl (by rw [hp]; rfl) ?_
      (State.flush_only _ p .link (by decide)) (State.flush_only _ p) ?_
    · rw [hp]; exact withIndex_byteOf p (by decide) _ _ _
    · exact State.flush_retires (s := s.withRequests rest) (ok.nodup p) (ok.allReady (List.Subset.refl _))

/-! ### PORT_RESET (R46) -/

theorem State.abortFill_of_off {s : State} {p : PortId} (h : (s.port p).writer = .off) (w : Writer) :
    s.abortFill p w = s := by
  unfold State.abortFill
  rw [h]

theorem State.leaveLocked_of_off {s : State} {p : PortId} (h : (s.port p).writer = .off) (start : Option Time) :
    (s.leaveLocked p start).pool = s.pool ∧ (s.leaveLocked p start).port p = s.port p := by
  unfold State.leaveLocked
  rw [State.abortFill_of_off h]
  exact ⟨rfl, rfl⟩

theorem State.loseSignal_of_off {s : State} {p : PortId} (h : (s.port p).writer = .off) :
    (s.loseSignal p).pool = s.pool ∧ (s.loseSignal p).port p = (s.port p).loseSignal := by
  have hport := s.port_modPort_same p Port.loseSignal
  unfold State.loseSignal
  dsimp only
  split
  · obtain ⟨hpool, hsame⟩ := State.leaveLocked_of_off
      (s := (s.modPort p Port.loseSignal).raise (.inputState p .noSignal none)) (p := p)
      (by rw [State.port_raise, hport]; exact h) (s.port p).usableStart
    exact ⟨hpool, hsame.trans hport⟩
  · exact ⟨rfl, hport⟩

theorem State.resetDetector_of_off {s : State} {p : PortId} (h : (s.port p).writer = .off) :
    (s.resetDetector p).pool = s.pool ∧
    (s.resetDetector p).port p = { (s.port p).loseSignal with latest := none } := by
  obtain ⟨hpool, hport⟩ := State.loseSignal_of_off h
  unfold State.resetDetector
  dsimp only
  rw [State.port_modPort_same]
  split
  · exact ⟨hpool, by rw [hport]⟩
  · exact ⟨rfl, by rw [State.port_modPort_same]⟩

theorem State.resetDetector_notices (s : State) (p : PortId) :
    (s.resetDetector p).notices = if (s.port p).detector = .noSignal then s.notices
      else s.notices.raise (.inputState p .noSignal none) := by
  have hruns : (s.port p).lossTimerRunning = true ↔ (s.port p).detector ≠ .noSignal := by
    unfold Port.lossTimerRunning
    cases (s.port p).detector <;> simp [Detector.state]
  have hlose : (s.loseSignal p).notices = s.notices.raise (.inputState p .noSignal none) := by
    unfold State.loseSignal
    dsimp only
    split
    · exact State.leaveLocked_only _ p _ .notices (by decide)
    · rfl
  unfold State.resetDetector
  dsimp only
  by_cases hno : (s.port p).detector = .noSignal
  · rw [if_neg (fun h => hruns.1 h hno), if_pos hno]; rfl
  · rw [if_pos (hruns.2 hno), if_neg hno]; exact hlose

/-- After CAPTURE_OFF the writer is OFF, its slot is FREE and at the tail of the free list. -/
theorem State.captureOff_spec (s : State) (p : PortId) :
    ((s.captureOff p).port p).writer = .off ∧
    (s.captureOff p).pool.freeList = s.pool.freeList ++ (s.port p).writer.slot.toList ∧
    (∀ i, (s.port p).writer.slot = some i → (s.captureOff p).slot i = .free) ∧
    (∀ i, (s.port p).writer.slot ≠ some i → (s.captureOff p).slot i = s.slot i) ∧
    (∀ q, (s.captureOff p).readyList q = s.readyList q) ∧ (s.captureOff p).pool.pins = s.pool.pins := by
  unfold State.captureOff
  cases hwriter : (s.port p).writer with
  | off => exact ⟨hwriter, (List.append_nil _).symm, nofun, fun _ _ => rfl, fun _ => rfl, rfl⟩
  | armed =>
    exact ⟨congrArg Port.writer (s.port_modPort_same p fun q => { q with writer := .off }), (List.append_nil _).symm,
      nofun, fun _ _ => rfl, fun _ => rfl, rfl⟩
  | filling stage i n =>
    have habort : s.abortFill p .off = ((s.freeSlot i).countPort p fun c => { c with aborted := c.aborted + 1 }).modPort p
        fun q => { q with writer := .off } := by
      unfold State.abortFill
      rw [hwriter]
    dsimp only
    rw [habort]
    refine ⟨congrArg Port.writer (State.port_modPort_same _ p fun q => { q with writer := .off }), rfl, fun j hj => ?_,
      fun j hj => ?_, fun _ => rfl, rfl⟩
    · cases hj
      exact s.slot_setSlot_same i .free
    · exact s.slot_setSlot_other _ fun e => hj (e ▸ rfl)

theorem State.captureOff_detector (s : State) (p : PortId) :
    ((s.captureOff p).port p).detector = (s.port p).detector := by
  rw [s.captureOff_writer p p]

theorem State.heads_ext {s t : State} (h : ∀ g, t.head g = s.head g) : t.heads = s.heads :=
  Vector.ext fun k hk => h ⟨k, hk⟩

/-- PORT_RESET's operation on a consistent pool. -/
theorem State.resetPort_spec {s : State} (ok : PoolOk s) (p : PortId) :
    (s.resetPort p).port p = { State.reset.port p with
      frameNumber := (s.port p).frameNumber, lastStart := (s.port p).lastStart } ∧
    (s.resetPort p).readyList p = [] ∧ (∀ q, q ≠ p → (s.resetPort p).readyList q = s.readyList q) ∧
    (s.resetPort p).pool.pins = s.pool.pins ∧
    (s.resetPort p).pool.freeList = s.pool.freeList ++ (s.port p).writer.slot.toList ++
      (s.readyList p).filter (fun i => decide ((s.slot i).refs = 0)) ∧
    (∀ i, (s.port p).writer.slot = some i → (s.resetPort p).slot i = .free) ∧
    (∀ i ∈ s.readyList p, (s.resetPort p).slot i = (s.slot i).retired) ∧
    (∀ i, (s.port p).writer.slot ≠ some i → i ∉ s.readyList p → (s.resetPort p).slot i = s.slot i) := by
  obtain ⟨hoff, hfree, hfilled, hkept, hlists, hpins⟩ := s.captureOff_spec p
  have hready : ∀ i ∈ s.readyList p, (s.captureOff p).slot i = s.slot i := by
    intro i hi
    refine hkept i fun hslot => ?_
    obtain ⟨f, hf, _⟩ := (poolOk_iff.1 ok).1.ready_frame hi
    obtain ⟨g, hg⟩ := (poolOk_iff.1 ok).1.filling_slot (p := p) (i := i) hslot
    rw [hf] at hg
    cases hg
  obtain ⟨hempty, hin, hout, hfreed, hothers, hpins'⟩ := State.flush_retires (s := s.captureOff p) (p := p)
    (by rw [hlists]; exact ok.nodup p)
    (by rw [hlists]; exact fun i hi => by rw [hready i hi]; exact ok.allReady (List.Subset.refl _) i hi)
  have hflushPort : ((s.captureOff p).flush p).port p = (s.captureOff p).port p :=
    State.port_of_only (State.flush_only _ p) (by decide) p
  obtain ⟨hpool, hport⟩ := State.resetDetector_of_off (s := (s.captureOff p).flush p) (p := p)
    (by rw [hflushPort]; exact hoff)
  have hslot : ∀ i, (s.resetPort p).slot i = ((s.captureOff p).flush p).slot i :=
    fun i => congrArg (fun v : Pool => v.slots[i]) hpool
  have hlist : ∀ q, (s.resetPort p).readyList q = ((s.captureOff p).flush p).readyList q :=
    fun q => congrArg (fun v : Pool => v.ready[q]) hpool
  rw [hlists p] at hin hout hfreed
  refine ⟨?_, (hlist p).trans hempty, fun q hq => ?_, ?_, ?_, fun i hi => ?_, fun i hi => ?_, fun i hi hni => ?_⟩
  · unfold State.resetPort
    have hcapture := s.captureOff_writer p p
    rw [hoff] at hcapture
    have hreset : State.reset.port p = .reset := by simp [State.port, State.reset]
    rw [State.port_modPort_same, hport, hflushPort, hcapture, hreset]
    rfl
  · rw [hlist, hothers q hq, hlists]
  · exact (congrArg Pool.pins hpool).trans (hpins'.trans hpins)
  · refine (congrArg Pool.freeList hpool).trans (hfreed.trans ?_)
    rw [hfree]
    exact congrArg _ (List.filter_congr fun i hi => by rw [hready i hi])
  · have hni : i ∉ s.readyList p := fun hmem => by
      have h₁ := hready i hmem
      rw [hfilled i hi] at h₁
      obtain ⟨f, hf, _⟩ := (poolOk_iff.1 ok).1.ready_frame hmem
      rw [hf] at h₁
      cases h₁
    rw [hslot, hout i hni, hfilled i hi]
  · rw [hslot, hin i hi, hready i hi]
  · rw [hslot, hout i hni, hkept i hi]

theorem State.resetPort_others (s : State) (p : PortId) : OtherPorts p s (s.resetPort p) := by
  have hlose : ∀ u : State, OtherPorts p u (u.resetDetector p) := by
    intro u
    unfold State.resetDetector
    dsimp only
    refine OtherPorts.trans ?_ (State.modPort_others _ p _)
    split
    · exact u.loseSignal_others p
    · exact u.modPort_others p _
  exact (((s.captureOff_others p).trans (.of_only (State.flush_only _ p) (by decide))).trans (hlose _)).trans
    (State.modPort_others _ p _)

theorem State.resetPort_notices (s : State) (p : PortId) :
    (s.resetPort p).notices = if (s.port p).detector = .noSignal then s.notices
      else s.notices.raise (.inputState p .noSignal none) := by
  have hflushPort : ((s.captureOff p).flush p).port p = (s.captureOff p).port p :=
    State.port_of_only (State.flush_only _ p) (by decide) p
  have hnotices : ((s.captureOff p).flush p).notices = s.notices :=
    (State.flush_only _ p .notices (by decide)).trans (s.captureOff_only p .notices (by decide))
  refine (State.resetDetector_notices _ p).trans ?_
  rw [hflushPort, s.captureOff_detector, hnotices]

theorem portResetBody_eq (p : PortId) (s : State) : portResetBody [byteOf p.val] s = done (s.resetPort p) :=
  withIndex_byteOf p (by decide) _ _ _

/-- Settles O18: the fill is aborted, the list flushed and the detector reset, in this order. -/
theorem portResetRestoresThePort : Obligations.PortResetRestoresThePort := by
  intro s r rest p ok ht hp
  have hspec := State.resetPort_spec (s := s.withRequests rest) ok p
  have hothers := State.resetPort_others (s.withRequests rest) p
  have hnotices := State.resetPort_notices (s.withRequests rest) p
  have hhead := State.resetPort_head (s.withRequests rest) p
  have hbody : portResetBody r.payload (s.withRequests rest) = done ((s.withRequests rest).resetPort p) := by
    rw [hp]; exact portResetBody_eq p _
  have honly := (State.resetPort_only (s.withRequests rest) p).weaken (m := [.ports, .pool, .notices, .heads]) (by decide)
  generalize (s.withRequests rest).resetPort p = u at hspec hothers hnotices hhead hbody honly
  obtain ⟨hport, hempty, hlists, hpins, hfree, hfilled, hflushed, hkept⟩ := hspec
  refine performs_of_body rfl ht rfl (by rw [hp]; rfl) hbody (honly .link (by decide)) honly
    ⟨hothers, hport, hempty, hlists, hpins, hfree, hfilled, hflushed, hkept, hnotices, fun l hl => ?_, fun hnot => ?_⟩
  · have hlocked : (s.port p).detector.isLocked = true := Detector.isLocked_iff.2 ⟨l, hl⟩
    exact followLosses_arise hlocked fun h => (hhead h).trans (if_pos hlocked)
  · have hunlocked : ¬(s.port p).detector.isLocked = true := by
      rw [Detector.isLocked_iff]; exact fun ⟨l, hl⟩ => hnot l hl
    exact State.heads_ext fun h => (hhead h).trans (if_neg hunlocked)

/-! ### References and pins (R17, R18, R22, R23) -/

theorem State.slot_releaseRef_same (s : State) (i : SlotId) : (s.releaseRef i).slot i = (s.slot i).released := by
  unfold State.releaseRef
  cases h : s.slot i with
  | free => exact h
  | filling p g => exact h
  | ready f => exact s.slot_setSlot_same i _
  | held f =>
    simp only [Slot.released]
    split
    · exact s.slot_setSlot_same i _
    · exact s.slot_setSlot_same i _

/-- Releasing a reference changes of the pool one slot, and the free list when that slot becomes FREE. -/
theorem State.releaseRef_pool (s : State) (i : SlotId) :
    (s.releaseRef i).pool.ready = s.pool.ready ∧ (s.releaseRef i).pool.pins = s.pool.pins ∧
    (s.releaseRef i).pool.freeList =
      if (s.slot i).freedByRelease then s.pool.freeList ++ [i] else s.pool.freeList := by
  unfold State.releaseRef
  cases h : s.slot i with
  | free => exact ⟨rfl, rfl, rfl⟩
  | filling p g => exact ⟨rfl, rfl, rfl⟩
  | ready f => exact ⟨rfl, rfl, rfl⟩
  | held f =>
    simp only [Slot.freedByRelease, decide_eq_true_eq]
    split
    · exact ⟨rfl, rfl, rfl⟩
    · exact ⟨rfl, rfl, rfl⟩

theorem State.takeRef_of_ready {s : State} {i : SlotId} {f : StoredFrame} (h : s.slot i = .ready f) :
    s.takeRef i = s.setSlot i (.ready { f with refs := f.refs + 1, shown := true }) := by
  unfold State.takeRef
  rw [h]

theorem State.pin_of_pins {s t : State} (h : t.pool.pins = s.pool.pins) (k : PinId) : t.pin k = s.pin k :=
  congrArg (fun v : Vector (Option PinEntry) 8 => v[k]) h

section
variable {s : State} {i : PinId} {j : SlotId} {f : StoredFrame}

/-- R22: the pool after a pin takes the frame of READY slot `j`. -/
theorem State.movePin_spec (hready : s.slot j = .ready f) (hmoves : ∀ e, s.pin i = some e → e.slot ≠ j)
    {t : State} (ht : s.movePin i ⟨j, f.source, f.number⟩ = t) :
    t.pin i = some ⟨j, f.source, f.number⟩ ∧ (∀ k, k ≠ i → t.pin k = s.pin k) ∧
    t.slot j = .ready { f with refs := f.refs + 1, shown := true } ∧ t.pool.ready = s.pool.ready ∧
    (∀ e, s.pin i = some e → t.slot e.slot = (s.slot e.slot).released ∧
      (∀ k, k ≠ j → k ≠ e.slot → t.slot k = s.slot k) ∧
      t.pool.freeList = if (s.slot e.slot).freedByRelease then s.pool.freeList ++ [e.slot] else s.pool.freeList) ∧
    (s.pin i = none → (∀ k, k ≠ j → t.slot k = s.slot k) ∧ t.pool.freeList = s.pool.freeList) := by
  subst ht
  have htake := State.takeRef_of_ready hready
  unfold State.movePin State.pinSlot
  rw [htake]
  cases hpin : s.pin i with
  | none =>
    refine ⟨State.pin_setPin_same _ i _, fun k hk => State.pin_setPin_other _ _ hk, s.slot_setSlot_same j _, rfl,
      nofun, fun _ => ⟨fun k hk => s.slot_setSlot_other _ hk, rfl⟩⟩
  | some e =>
    have hne := hmoves e hpin
    have hslot : ∀ k, k ≠ j → (((s.setSlot j (.ready { f with refs := f.refs + 1, shown := true })).setPin i
        (some ⟨j, f.source, f.number⟩))).slot k = s.slot k := fun k hk => s.slot_setSlot_other _ hk
    obtain ⟨hlists, hpins, hfree⟩ := State.releaseRef_pool ((s.setSlot j (.ready { f with refs := f.refs + 1
                                                                                          shown := true })).setPin i
      (some ⟨j, f.source, f.number⟩)) e.slot
    refine ⟨(State.pin_of_pins hpins i).trans (State.pin_setPin_same _ i _),
      fun k hk => (State.pin_of_pins hpins k).trans (State.pin_setPin_other _ _ hk),
      (State.slot_releaseRef_other _ (Ne.symm hne)).trans (s.slot_setSlot_same j _), hlists, fun e' he' => ?_, nofun⟩
    cases he'
    refine ⟨?_, fun k hkj hke => (State.slot_releaseRef_other _ hke).trans (hslot k hkj), ?_⟩
    · exact (State.slot_releaseRef_same _ e.slot).trans (congrArg Slot.released (hslot _ hne))
    · rw [hslot _ hne] at hfree
      exact hfree

theorem State.emptyPin_of_none (hpin : s.pin i = none) : s.emptyPin i = s := by
  have hsame : s.pool.pins.set i none = s.pool.pins := Vector.ext fun k hk => by
    by_cases e : i.val = k
    · subst e; rw [Vector.getElem_set_self]; exact hpin.symm
    · rw [Vector.getElem_set_ne _ _ e]
  unfold State.emptyPin State.pinSlot
  rw [hpin]
  show s.setPin i none = s
  unfold State.setPin
  rw [hsame]

/-- R23: the pool after a pin lets its slot go. -/
theorem State.emptyPin_spec {e : PinEntry} (hpin : s.pin i = some e) :
    (s.emptyPin i).pin i = none ∧ (∀ k, k ≠ i → (s.emptyPin i).pin k = s.pin k) ∧
    (s.emptyPin i).pool.ready = s.pool.ready ∧ (s.emptyPin i).slot e.slot = (s.slot e.slot).released ∧
    (∀ k, k ≠ e.slot → (s.emptyPin i).slot k = s.slot k) ∧
    (s.emptyPin i).pool.freeList =
      if (s.slot e.slot).freedByRelease then s.pool.freeList ++ [e.slot] else s.pool.freeList := by
  have hempty : s.emptyPin i = (s.setPin i none).releaseRef e.slot := by
    unfold State.emptyPin State.pinSlot
    rw [hpin]
    rfl
  rw [hempty]
  obtain ⟨hlists, hpins, hfree⟩ := State.releaseRef_pool (s.setPin i none) e.slot
  exact ⟨(State.pin_of_pins hpins i).trans (s.pin_setPin_same i none),
    fun k hk => (State.pin_of_pins hpins k).trans (s.pin_setPin_other _ hk), hlists,
    State.slot_releaseRef_same _ e.slot, fun k hk => State.slot_releaseRef_other _ hk, hfree⟩

/-- PIN_TAKE on a list whose newest frame is in slot `j`. -/
theorem pinTakeBody_eq {p : PortId} {l : List SlotId} (hlist : s.readyList p = l ++ [j]) (hready : s.slot j = .ready f) :
    pinTakeBody [byteOf i.val, byteOf p.val] s =
      if s.pinSlot i = some j then (pinReply i ⟨j, f.source, f.number⟩, s)
      else (pinReply i ⟨j, f.source, f.number⟩, s.movePin i ⟨j, f.source, f.number⟩) := by
  have hentry : s.pinEntryOf p j = ⟨j, f.source, f.number⟩ := by
    unfold State.pinEntryOf
    rw [hready]
    rfl
  refine (withIndex_byteOf i (by decide) _ _ _).trans ?_
  rw [show byteAt [byteOf i.val, byteOf p.val] 1 = byteOf p.val from rfl, finOf_byteOf p (by decide)]
  simp only [hlist, List.getLast?_concat, hentry]

theorem pinTakeBody_of_nil {p : PortId} (hlist : s.readyList p = []) :
    pinTakeBody [byteOf i.val, byteOf p.val] s = (.refuse .noFrame, s) := by
  refine (withIndex_byteOf i (by decide) _ _ _).trans ?_
  rw [show byteAt [byteOf i.val, byteOf p.val] 1 = byteOf p.val from rfl, finOf_byteOf p (by decide)]
  simp only [hlist]
  rfl

end

theorem pinReleaseBody_eq (i : PinId) (s : State) : pinReleaseBody [byteOf i.val] s = done (s.emptyPin i) :=
  withIndex_byteOf i (by decide) _ _ _

theorem State.pinSlot_eq_some {s : State} {i : PinId} {j : SlotId} :
    s.pinSlot i = some j ↔ ∃ e, s.pin i = some e ∧ e.slot = j := by
  simp [State.pinSlot]

/-- Settles O19: the new reference is taken before the old one is released. -/
theorem pinsTakeAndRelease : Obligations.PinsTakeAndRelease := by
  refine ⟨fun s r rest i p ht hp => ⟨fun hlist => ?_, fun l j f hlist hready rep hrep => ⟨fun e he hj => ?_,
    fun hmoves => ?_⟩⟩, fun s r rest i ht hp => ⟨fun hpin => ?_, fun e hpin => ?_⟩⟩
  · exact refuses_of_body rfl ht rfl (by rw [hp]; rfl)
      (by rw [hp]; exact pinTakeBody_of_nil (s := s.withRequests rest) hlist)
  · have hbody := pinTakeBody_eq (s := s.withRequests rest) (i := i) hlist hready
    have hheld : (s.withRequests rest).pinSlot i = some j := State.pinSlot_eq_some.2 ⟨e, he, hj⟩
    rw [if_pos hheld, ← hp] at hbody
    subst hrep
    exact performs_of_body rfl ht rfl (by rw [hp]; rfl) hbody rfl (OnlyChanges.refl _ _) trivial
  · have hbody := pinTakeBody_eq (s := s.withRequests rest) (i := i) hlist hready
    have hnot : ¬(s.withRequests rest).pinSlot i = some j := fun h => by
      obtain ⟨e, he, hj⟩ := State.pinSlot_eq_some.1 h
      exact hmoves e he hj
    rw [if_neg hnot, ← hp] at hbody
    have honly := State.movePin_only (s.withRequests rest) i ⟨j, f.source, f.number⟩
    subst hrep
    have hspec := State.movePin_spec (s := s.withRequests rest) (i := i) hready hmoves rfl
    generalize (s.withRequests rest).movePin i ⟨j, f.source, f.number⟩ = u at hbody honly hspec
    exact performs_of_body rfl ht rfl (by rw [hp]; rfl) hbody (honly .link (by decide)) honly hspec
  · refine performs_of_body rfl ht rfl (by rw [hp]; rfl) (u := s.withRequests rest) ?_ rfl (OnlyChanges.refl _ _)
      trivial
    rw [hp, pinReleaseBody_eq, State.emptyPin_of_none (s := s.withRequests rest) hpin]
    rfl
  · exact performs_of_body rfl ht rfl (by rw [hp]; rfl) (by rw [hp]; exact pinReleaseBody_eq i _)
      (State.emptyPin_only _ i .link (by decide)) (State.emptyPin_only _ i)
      (State.emptyPin_spec (s := s.withRequests rest) hpin)

end Sys2Proof.Machine
end

section
/-! The frame boundary but for its selection of frames (R55, R62 to R66, R135, R145). -/
namespace Sys2Proof.Machine

theorem State.takeBoundary_of_draws {s : State} {h : HeadId} {t₀ : Timing} (d : Draws s h t₀) (time : Time) :
    s.takeBoundary h time = s.boundary h t₀ time := by
  unfold State.takeBoundary
  rw [d.timing]
  cases hstate : (s.head h).state with
  | off => exact absurd hstate d.on
  | running => rfl
  | muted => rfl

theorem exec_frameBoundary_of_draws {s : State} {h : HeadId} {t₀ : Timing} (d : Draws s h t₀) (time : Time) :
    exec (.frameBoundary h time) s = .next (s.boundary h t₀ time) :=
  congrArg Host.Outcome.next ((whenReady_of_ready d.ready _).trans (State.takeBoundary_of_draws d time))

theorem exec_frameBoundary_of_off {s : State} {h : HeadId} (hready : s.device.phase = .ready)
    (hoff : (s.head h).state = .off) (time : Time) : exec (.frameBoundary h time) s = .next s := by
  refine congrArg Host.Outcome.next ((whenReady_of_ready hready _).trans ?_)
  unfold State.takeBoundary
  rw [hoff]

/-! ### The follow loss that comes first (R65) -/

theorem State.portLocked_iff {s : State} {p : PortId} : s.portLocked p = true ↔ ∃ l, (s.port p).detector = .locked l :=
  Detector.isLocked_iff

theorem State.lossFirst_iff {s : State} {h : HeadId} : s.lossFirst h = true ↔ s.LossComesFirst h := by
  unfold State.lossFirst State.LossComesFirst
  cases (s.head h).follow.loss with
  | clear => simp [FollowLoss.comesFirst]
  | overdue => simp [FollowLoss.comesFirst]
  | due start =>
    simp only [FollowLoss.comesFirst, Option.any_eq_true_iff_get, State.portLocked_iff]
    cases hsource : (s.head h).follow.source with
    | none => simp
    | some p => simp

/-- The state of a boundary before it computes a phase error. -/
def State.boundaryStart (s : State) (h : HeadId) : State := (s.modHead h Head.counted).lossBeforeBoundary h

section
variable {s : State} {h : HeadId} {f : Follow}

theorem State.lossFirst_counted : (s.modHead h Head.counted).lossFirst h = s.lossFirst h := by
  unfold State.lossFirst
  rw [State.counted_head]
  rfl

theorem BoundaryFinds.eq (hf : s.BoundaryFinds h f) :
    f = if s.lossFirst h then (s.head h).follow.freed else (s.head h).follow := by
  split
  · rename_i hfirst; exact hf.1 (State.lossFirst_iff.1 hfirst)
  · rename_i hlater; exact hf.2 fun hloss => hlater (State.lossFirst_iff.2 hloss)

theorem BoundaryFinds.source (hf : s.BoundaryFinds h f) : f.source = (s.head h).follow.source := by
  rw [BoundaryFinds.eq hf]
  split <;> rfl

/-- The head, once a follow loss that comes first has been taken. -/
theorem BoundaryFinds.head (hf : s.BoundaryFinds h f) :
    (s.boundaryStart h).head h = { (s.head h).counted with follow := f } := by
  unfold State.boundaryStart
  rw [State.lossBeforeBoundary_head, State.lossFirst_counted, State.counted_head, BoundaryFinds.eq hf]
  split <;> rfl

theorem State.boundaryStart_port (p : PortId) : (s.boundaryStart h).port p = s.port p :=
  (State.port_of_only (State.lossBeforeBoundary_only _ h) (by decide) p).trans (s.port_modHead h _ p)

theorem Port.usableStart_iff {q : Port} {start : Time} : q.usableStart = some start ↔
    (∃ l, q.detector = .locked l) ∧ q.startedSinceLock = true ∧ q.latestFrameStart = some start := by
  unfold Port.usableStart
  rw [← Detector.isLocked_iff]
  split
  · rename_i husable
    rw [Bool.and_eq_true] at husable
    simp [husable]
  · rename_i hnot
    rw [Bool.and_eq_true] at hnot
    exact ⟨nofun, fun husable => absurd ⟨husable.1, husable.2.1⟩ hnot⟩

theorem BoundaryFinds.followStart (hf : s.BoundaryFinds h f) : (s.boundaryStart h).followStart h =
    match f.loss with
    | .clear => s.usableStart f.source
    | .due start => some start
    | .overdue => none := by
  have hports : (s.boundaryStart h).usableStart f.source = s.usableStart f.source := by
    unfold State.usableStart
    simp only [State.boundaryStart_port]
  unfold State.followStart
  rw [BoundaryFinds.head hf]
  simp only [hports] <;> rfl

/-- R62: no usable source, and no loss to come. -/
theorem BoundaryFinds.followStart_none (hf : s.BoundaryFinds h f) (hloss : f.loss = .clear)
    (hunusable : ∀ p start, f.source = some p → ¬ s.UsableSource p start) : (s.boundaryStart h).followStart h = none := by
  rw [BoundaryFinds.followStart hf, hloss]
  unfold State.usableStart
  cases hsource : f.source with
  | none => rfl
  | some p =>
    rw [Option.eq_none_iff_forall_ne_some]
    exact fun start hstart => hunusable p start hsource (Port.usableStart_iff.1 hstart)

/-- R62, R65: a usable source, or a loss that comes after the boundary. -/
theorem BoundaryFinds.followStart_some (hf : s.BoundaryFinds h f) {start : Time}
    (hstart : f.loss = .due start ∨ (f.loss = .clear ∧ ∃ p, f.source = some p ∧ s.UsableSource p start)) :
    (s.boundaryStart h).followStart h = some start := by
  rw [BoundaryFinds.followStart hf]
  rcases hstart with hdue | ⟨hclear, p, hsource, husable⟩
  · rw [hdue]
  · rw [hclear, hsource]
    exact Port.usableStart_iff.2 husable

/-- What rate follow makes of the head, by the frame start that it follows. -/
theorem BoundaryFinds.followBoundary_head (hf : s.BoundaryFinds h f) (t₀ : Timing) (time : Time) :
    ((s.modHead h Head.counted).followBoundary h t₀ time).head h =
      match (s.boundaryStart h).followStart h with
      | none => { (s.head h).counted with follow := f, frameLines := some t₀.totalLines }
      | some start => { (s.head h).counted with follow := f }.followedBy t₀ (phaseErrorOf t₀ f.lead start time) := by
  unfold State.followBoundary
  show ((s.boundaryStart h).computeFollow h t₀ time).head h = _
  rw [State.computeFollow_head, BoundaryFinds.head hf] <;> rfl

end

/-- Settles O20: the record that a boundary leaves, and rate follow with no frame start to follow. -/
theorem boundaryCountsAndBeginsAFrame : Obligations.BoundaryCountsAndBeginsAFrame := by
  refine ⟨fun s h time hready hoff => exec_frameBoundary_of_off hready hoff time, fun s h t₀ time d =>
    ⟨_, exec_frameBoundary_of_draws d time, s.boundary_others h t₀ time,
      (s.boundary_only h t₀ time).weaken (by decide), ?_, fun f hf hloss hunusable => ?_⟩⟩
  · exact (s.boundary_head h t₀ time).trans (by rw [s.boundary_head h t₀ time])
  · have hfollow := BoundaryFinds.followBoundary_head hf t₀ time
    rw [BoundaryFinds.followStart_none hf hloss hunusable] at hfollow
    rw [s.boundary_head h t₀ time, hfollow]
    exact ⟨rfl, rfl⟩

/-! ### The phase error (R62 to R64) -/

theorem wrapError_eq (n : Nat) (raw : Int) : wrapError n raw = raw + -((raw + ((n / 2 : Nat) : Int)) / n) * n := by
  unfold wrapError
  have := Int.emod_add_mul_ediv (raw + ((n / 2 : Nat) : Int)) n
  rw [Int.neg_mul, Int.mul_comm ((raw + ((n / 2 : Nat) : Int)) / n)]
  omega

theorem wrapError_bounds {n : Nat} (hn : 0 < n) (raw : Int) :
    -((n / 2 : Nat) : Int) ≤ wrapError n raw ∧ wrapError n raw ≤ (n : Int) - 1 - ((n / 2 : Nat) : Int) := by
  unfold wrapError
  have hpos : (0 : Int) < n := by exact_mod_cast hn
  have hlow := Int.emod_nonneg (raw + ((n / 2 : Nat) : Int)) (ne_of_gt hpos)
  have hhigh := Int.emod_lt_of_pos (raw + ((n / 2 : Nat) : Int)) hpos
  omega

theorem phaseErrorOf_eq (t : Timing) (lead : Nat) (start time : Time) :
    ∃ k : Int, phaseErrorOf t lead start time =
      -(((time - start) * t.pixelClock / (t.totalWidth * 1000000) : Nat) : Int) - (lead : Int) +
        k * (t.totalLines : Int) := by
  unfold phaseErrorOf Timing.linesIn
  exact ⟨_, wrapError_eq _ _⟩

theorem withinTolerance_iff {e : Int} : withinTolerance e = true ↔ -2 ≤ e ∧ e ≤ 2 := by
  simp [withinTolerance]

theorem withinTolerance_eq_false_iff {e : Int} : withinTolerance e = false ↔ ¬(-2 ≤ e ∧ e ≤ 2) := by
  rw [← withinTolerance_iff, Bool.not_eq_true]

theorem Timing.totalLines_pos {t : Timing} (h : t.inRange = true) : 0 < t.totalLines := by
  simp [Timing.inRange] at h
  omega

theorem followedLines_eq (t : Timing) (window : Nat) (e : Int) : followedLines t window e =
    (max ((t.activeLines : Int) + 8)
      (min 2048 ((t.totalLines : Int) + max (-(window : Int)) (min (window : Int) e)))).toNat := rfl

/-- R62 to R64: a boundary with a frame start to follow. -/
theorem BoundaryFinds.boundary_followed {s : State} {h : HeadId} {f : Follow} (hf : s.BoundaryFinds h f) {start : Time}
    (hstart : f.loss = .due start ∨ (f.loss = .clear ∧ ∃ p, f.source = some p ∧ s.UsableSource p start))
    (t₀ : Timing) (time : Time) {e : Int} (he : phaseErrorOf t₀ f.lead start time = e) :
    ((s.boundary h t₀ time).head h).frameLines = some (followedLines t₀ f.window e) ∧
    ((s.boundary h t₀ time).head h).follow = { f with
      state := (followAfter f.state f.runCount e).1, runCount := (followAfter f.state f.runCount e).2
      phaseError := some e } := by
  have hfollow := BoundaryFinds.followBoundary_head hf t₀ time
  rw [BoundaryFinds.followStart_some hf hstart] at hfollow
  dsimp only at hfollow
  rw [he] at hfollow
  rw [s.boundary_head h t₀ time, hfollow]
  exact ⟨rfl, rfl⟩

/-- The follow state and run count after an error, by R64. -/
theorem followAfter_cases (state : FollowState) (run : Nat) (e : Int) :
    (state = .freeRun → (followAfter state run e).1 = .pulling ∧
      (followAfter state run e).2 = if -2 ≤ e ∧ e ≤ 2 then 1 else 0) ∧
    (state = .pulling → -2 ≤ e ∧ e ≤ 2 → run + 1 < 8 →
      (followAfter state run e).1 = .pulling ∧ (followAfter state run e).2 = run + 1) ∧
    (state = .pulling → -2 ≤ e ∧ e ≤ 2 → 8 ≤ run + 1 →
      (followAfter state run e).1 = .following ∧ (followAfter state run e).2 = 0) ∧
    (state = .pulling → ¬(-2 ≤ e ∧ e ≤ 2) →
      (followAfter state run e).1 = .pulling ∧ (followAfter state run e).2 = 0) ∧
    (state = .following → ¬(-2 ≤ e ∧ e ≤ 2) → run + 1 < 8 →
      (followAfter state run e).1 = .following ∧ (followAfter state run e).2 = run + 1) ∧
    (state = .following → ¬(-2 ≤ e ∧ e ≤ 2) → 8 ≤ run + 1 →
      (followAfter state run e).1 = .pulling ∧ (followAfter state run e).2 = 0) ∧
    (state = .following → -2 ≤ e ∧ e ≤ 2 →
      (followAfter state run e).1 = .following ∧ (followAfter state run e).2 = 0) := by
  refine ⟨fun hs => ?_, fun hs hin hrun => ?_, fun hs hin hrun => ?_, fun hs hout => ?_, fun hs hout hrun => ?_,
    fun hs hout hrun => ?_, fun hs hin => ?_⟩
  all_goals
    rw [hs]
    unfold followAfter
  · by_cases hin : -2 ≤ e ∧ e ≤ 2
    · rw [withinTolerance_iff.2 hin, if_pos hin]; exact ⟨rfl, rfl⟩
    · rw [withinTolerance_eq_false_iff.2 hin, if_neg hin]; exact ⟨rfl, rfl⟩
  · rw [withinTolerance_iff.2 hin]; simp [hrun]
  · rw [withinTolerance_iff.2 hin]; simp [Nat.not_lt.2 hrun]
  · rw [withinTolerance_eq_false_iff.2 hout]; exact ⟨rfl, rfl⟩
  · rw [withinTolerance_eq_false_iff.2 hout]; simp [hrun]
  · rw [withinTolerance_eq_false_iff.2 hout]; simp [Nat.not_lt.2 hrun]
  · rw [withinTolerance_iff.2 hin]; exact ⟨rfl, rfl⟩

/-- Settles O21: the error of the wrap, and the follow state by R64. -/
theorem boundaryFollowsTheSource : Obligations.BoundaryFollowsTheSource := by
  intro s h t₀ time start f d hrange hf hstart
  obtain ⟨hlow, hhigh⟩ : -((t₀.totalLines / 2 : Nat) : Int) ≤ phaseErrorOf t₀ f.lead start time ∧
      phaseErrorOf t₀ f.lead start time ≤ (t₀.totalLines : Int) - 1 - ((t₀.totalLines / 2 : Nat) : Int) :=
    wrapError_bounds (Timing.totalLines_pos hrange) _
  obtain ⟨k, hk⟩ := phaseErrorOf_eq t₀ f.lead start time
  obtain ⟨hlines, hfollow⟩ := BoundaryFinds.boundary_followed hf hstart t₀ time rfl
  refine ⟨s.boundary h t₀ time, phaseErrorOf t₀ f.lead start time, k, exec_frameBoundary_of_draws d time, hk, hlow,
    hhigh, ?_, ?_⟩
  · rw [hlines, followedLines_eq]
  · rw [hfollow]
    exact ⟨rfl, followAfter_cases f.state f.runCount _⟩

/-! ### The overlays (R135, R145) -/

theorem Cursor.shown_of_loaded {c : Cursor} {sh : Shape} (h : c.back = .loaded sh) :
    c.shown = { c with front := some sh, back := .empty } := by
  unfold Cursor.shown; rw [h]

theorem Cursor.shown_of_not_loaded {c : Cursor} (h : ∀ sh, c.back ≠ .loaded sh) : c.shown = c := by
  unfold Cursor.shown
  split
  · rename_i e; exact absurd e (h _)
  · rfl
  · rfl

/-- R135: a latched position, with all else of the cursor. -/
theorem Cursor.latch_eq (c : Cursor) : c.latch = { c with
    x := (c.pendingPosition.map Prod.fst).getD c.x, y := (c.pendingPosition.map Prod.snd).getD c.y
    pendingPosition := none } := by
  unfold Cursor.latch
  cases h : c.pendingPosition with
  | none => exact (congrArg (fun q => { c with pendingPosition := q }) h)
  | some q => rfl

theorem Cursor.shown_eq (c : Cursor) : c.shown = { c with front := c.shown.front, back := c.shown.back } := by
  unfold Cursor.shown
  split <;> rfl

/-- Settles O25: what the swap of the cursor, its latch and the inserter make of the head. -/
theorem boundaryMovesTheOverlays : Obligations.BoundaryMovesTheOverlays := by
  intro s h t₀ time c a d hc ha
  refine ⟨_, exec_frameBoundary_of_draws d time, ?_⟩
  rw [s.boundary_head h t₀ time]
  subst hc ha
  generalize (s.head h).cursor = c
  generalize (s.head h).anc = a
  have hlatch := c.shown.latch_eq
  have hshown := c.shown_eq
  refine ⟨fun sh hback => ?_, fun hback => ?_, fun x y hpending => ?_, fun hpending => ?_, ?_, fun henable => ?_,
    fun pair rest henable hqueue => ?_, fun henable hqueue => ?_⟩
  · dsimp only
    rw [hlatch, Cursor.shown_of_loaded hback]
    exact ⟨rfl, rfl⟩
  · dsimp only
    rw [hlatch, Cursor.shown_of_not_loaded hback]
    exact ⟨rfl, rfl⟩
  · dsimp only
    rw [hlatch, hshown]
    simp [hpending]
  · dsimp only
    rw [hlatch, hshown]
    simp [hpending]
  · dsimp only
    rw [hlatch, hshown]
  · simp [Ancillary.atBoundary, henable]
  · simp [Ancillary.atBoundary, henable, hqueue]
  · simp [Ancillary.atBoundary, henable, hqueue]

/-! ### The notices of a boundary (R66, R85, R135, R146) -/

/-- Raise the notices of a list, one after another. -/
def NoticeQueue.raiseAll (q : NoticeQueue) (l : List Notice) : NoticeQueue := l.foldl (fun q x => q.raise x) q

theorem NoticeQueue.raiseAll_append (q : NoticeQueue) (l m : List Notice) :
    q.raiseAll (l ++ m) = (q.raiseAll l).raiseAll m := List.foldl_append

theorem State.raiseFreeRun_notices (s : State) (h : HeadId) (before : FollowState) :
    (s.raiseFreeRun h before).notices = if before = .freeRun then s.notices
      else s.notices.raise (.followState h .freeRun (s.head h).follow.source 0) := by
  unfold State.raiseFreeRun
  split <;> rfl

theorem State.takeFollowLoss_notices {s : State} {h : HeadId} (hloss : (s.head h).follow.loss ≠ .clear) :
    (s.takeFollowLoss h).notices = if (s.head h).follow.state = .freeRun then s.notices
      else s.notices.raise (.followState h .freeRun (s.head h).follow.source 0) := by
  unfold State.takeFollowLoss
  rw [if_neg hloss, State.raiseFreeRun_notices, State.head_modHead_same]
  rfl

theorem State.boundaryStart_notices {s : State} {h : HeadId} {f : Follow} (hf : s.BoundaryFinds h f) :
    (s.boundaryStart h).notices = s.notices.raiseAll
      (if f.state = (s.head h).follow.state then [] else [.followState h .freeRun (s.head h).follow.source 0]) := by
  have heq := BoundaryFinds.eq hf
  unfold State.boundaryStart State.lossBeforeBoundary
  show (if (s.modHead h Head.counted).lossFirst h = true then _ else _ : State).notices = _
  rw [State.lossFirst_counted]
  by_cases hfirst : s.lossFirst h = true
  · rw [if_pos hfirst] at heq ⊢
    have hloss : ((s.modHead h Head.counted).head h).follow.loss ≠ .clear := by
      rw [State.counted_head]; exact FollowLoss.not_clear_of_comesFirst hfirst
    rw [State.takeFollowLoss_notices hloss, State.counted_head, heq]
    by_cases hfree : (s.head h).follow.state = .freeRun
    · rw [if_pos (show (s.head h).counted.follow.state = .freeRun from hfree),
        if_pos (show (s.head h).follow.freed.state = _ from hfree.symm)]
      rfl
    · rw [if_neg (show ¬(s.head h).counted.follow.state = .freeRun from hfree),
        if_neg (show ¬(s.head h).follow.freed.state = _ from fun e => hfree e.symm)]
      rfl
  · rw [if_neg hfirst] at heq ⊢
    rw [heq, if_pos rfl]
    rfl

theorem State.computeFollow_of_none {s : State} {h : HeadId} (t : Timing) (time : Time)
    (hstart : s.followStart h = none) :
    s.computeFollow h t time = s.modHead h fun hd => { hd with frameLines := some t.totalLines } := by
  unfold State.computeFollow
  rw [hstart]

theorem State.computeFollow_of_start {s : State} {h : HeadId} {t : Timing} {time start : Time} {e : Int}
    (hstart : s.followStart h = some start) (he : phaseErrorOf t (s.head h).follow.lead start time = e) :
    s.computeFollow h t time =
      if (followAfter (s.head h).follow.state (s.head h).follow.runCount e).1 = (s.head h).follow.state then
        s.modHead h fun hd => hd.followedBy t e
      else (s.modHead h fun hd => hd.followedBy t e).raise
        (.followState h (followAfter (s.head h).follow.state (s.head h).follow.runCount e).1
          (s.head h).follow.source e) := by
  unfold State.computeFollow
  rw [hstart]
  dsimp only
  rw [he]

/-- The notice that a change of the follow state raises. -/
def followNotices (h : HeadId) (f g : Follow) : List Notice :=
  if g.state = f.state then [] else [.followState h g.state f.source (g.phaseError.getD 0)]

theorem followNotices_followedBy (h : HeadId) (hd : Head) (t : Timing) (e : Int) :
    followNotices h hd.follow (hd.followedBy t e).follow =
      if (followAfter hd.follow.state hd.follow.runCount e).1 = hd.follow.state then []
      else [.followState h (followAfter hd.follow.state hd.follow.runCount e).1 hd.follow.source e] := rfl

theorem State.raise_notices_of {s t : State} (hsame : t.notices = s.notices) (n : Notice) :
    (t.raise n).notices = s.notices.raiseAll [n] := congrArg (NoticeQueue.raise n) hsame

theorem State.computeFollow_notices (s : State) (h : HeadId) (t : Timing) (time : Time) :
    (s.computeFollow h t time).notices =
      s.notices.raiseAll (followNotices h (s.head h).follow ((s.computeFollow h t time).head h).follow) := by
  cases hstart : s.followStart h with
  | none =>
    rw [State.computeFollow_of_none t time hstart, State.head_modHead_same, followNotices, if_pos rfl]
    rfl
  | some start =>
    have hhead := State.computeFollow_head s h t time
    rw [hstart] at hhead
    dsimp only at hhead
    obtain ⟨e, he⟩ : ∃ e, phaseErrorOf t (s.head h).follow.lead start time = e := ⟨_, rfl⟩
    rw [he] at hhead
    rw [hhead, followNotices_followedBy, State.computeFollow_of_start hstart he]
    split
    · rfl
    · exact State.raise_notices_of (s := s) rfl _

theorem State.swapAtBoundary_notices (s : State) (h : HeadId) :
    (s.swapAtBoundary h).notices = s.notices.raiseAll
      (if (s.head h).presentPending then [.scenePresented h (s.head h).boundaryCount] else []) := by
  unfold State.swapAtBoundary
  split
  · exact State.raise_notices_of (show ((s.swap h).modHead h _).notices = s.notices from
      s.swap_only h .notices (by decide)) _
  · rfl

/-- The notices of a boundary's cursor work. -/
def Cursor.shownNotices (c : Cursor) (h : HeadId) (n : Count) : List Notice :=
  match c.back with
  | .loaded sh => [.shapeShown h sh.id n]
  | .loading _ => []
  | .empty => []

theorem State.cursorBoundary_notices (s : State) (h : HeadId) :
    (s.cursorBoundary h).notices = s.notices.raiseAll
      ((s.head h).cursor.shownNotices h (s.head h).boundaryCount) := by
  unfold State.cursorBoundary State.swapCursor Cursor.shownNotices
  cases (s.head h).cursor.back with
  | loaded sh =>
    exact State.raise_notices_of (s := s) (State.dropUseOf_only
      (s.modCursor h fun c => { c with front := some sh, back := .empty }) _ .notices (by decide))
      (.shapeShown h sh.id (s.head h).boundaryCount)
  | loading i => rfl
  | empty => rfl

theorem Ancillary.reachesMark_iff {a : Ancillary} : a.reachesMark = true ↔
    a.enable = true ∧ a.queue.length = a.lowMark + 1 := by
  unfold Ancillary.reachesMark
  cases a.queue <;> simp

theorem State.ancBoundary_notices (s : State) (h : HeadId) :
    (s.ancBoundary h).notices = s.notices.raiseAll
      (if (s.head h).anc.enable = true ∧ (s.head h).anc.queue.length = (s.head h).anc.lowMark + 1 then
        [.ancLow h (s.head h).anc.lowMark (s.head h).boundaryCount] else []) := by
  unfold State.ancBoundary
  by_cases hmark : (s.head h).anc.reachesMark = true
  · have hlevel := Ancillary.reachesMark_iff.1 hmark
    rw [if_pos hmark, if_pos hlevel, hlevel.2]
    rfl
  · rw [if_neg hmark, if_neg fun hlevel => hmark (Ancillary.reachesMark_iff.2 hlevel)]
    rfl

/-- The notices of a boundary behind its rate follow work. -/
theorem State.behindFollow_notices (s : State) (h : HeadId) :
    (State.ancBoundary (State.cursorBoundary (State.selectAll (s.swapAtBoundary h) h) h) h).notices =
      ((s.notices.raiseAll (if (s.head h).presentPending then [.scenePresented h (s.head h).boundaryCount] else [])).raiseAll
        ((s.head h).cursor.shownNotices h (s.head h).boundaryCount)).raiseAll
        (if (s.head h).anc.enable = true ∧ (s.head h).anc.queue.length = (s.head h).anc.lowMark + 1 then
          [.ancLow h (s.head h).anc.lowMark (s.head h).boundaryCount] else []) := by
  have hselect : ((s.swapAtBoundary h).selectAll h).notices = (s.swapAtBoundary h).notices :=
    State.selectAll_only _ h .notices (by decide)
  have hhead := (State.selectAll_selection (s.swapAtBoundary h) h).same
  rw [State.swapAtBoundary_head] at hhead
  generalize ((s.swapAtBoundary h).selectAll h) = u at hselect hhead ⊢
  rw [State.ancBoundary_notices, State.cursorBoundary_head, State.cursorBoundary_notices, hhead, hselect,
    State.swapAtBoundary_notices]

/-- A boundary's notices are those of its follow work and of the four parts behind it. -/
theorem State.boundary_notices (s : State) (h : HeadId) (t : Timing) (time : Time) :
    (s.boundary h t time).notices =
      ((State.selectAll (((s.boundaryStart h).computeFollow h t time).swapAtBoundary h) h).cursorBoundary h
        |>.ancBoundary h).notices := by
  unfold State.boundary State.boundaryStart State.followBoundary
  exact State.modHead_notices _ h _

theorem State.boundary_follow (s : State) (h : HeadId) (t : Timing) (time : Time) :
    ((s.boundary h t time).head h).follow = (((s.boundaryStart h).computeFollow h t time).head h).follow := by
  rw [State.boundary_head]
  rfl

/-- Settles O26: the notices of the boundary's five parts, in their order. -/
theorem boundaryRaisesItsNotices : Obligations.BoundaryRaisesItsNotices := by
  intro s h t₀ time n a f d hn ha hf
  refine ⟨_, exec_frameBoundary_of_draws d time, fun loss follow scene shape anc hloss hfollow hscene hshape hanc => ?_⟩
  have hstart := State.boundaryStart_notices hf
  have hcompute := State.computeFollow_notices (s.boundaryStart h) h t₀ time
  have hhead := State.followBoundary_head (s.modHead h Head.counted) h t₀ time
  rw [State.counted_head] at hhead
  have hboundary := s.boundary_follow h t₀ time
  have hbehind := (s.boundary_notices h t₀ time).trans (State.behindFollow_notices _ h)
  have hu : (s.modHead h Head.counted).followBoundary h t₀ time = (s.boundaryStart h).computeFollow h t₀ time := rfl
  rw [hu] at hhead
  rw [BoundaryFinds.head hf, hstart, ← hloss, ← hboundary] at hcompute
  have hfollow' : followNotices h { (s.head h).counted with follow := f }.follow ((s.boundary h t₀ time).head h).follow
      = follow := by
    rw [hfollow, ← BoundaryFinds.source hf]
    rfl
  rw [hfollow'] at hcompute
  generalize (s.boundaryStart h).computeFollow h t₀ time = u at hcompute hhead hbehind
  generalize s.boundary h t₀ time = v at hbehind ⊢
  have hpresent : (u.head h).presentPending = (s.head h).presentPending :=
    (congrArg Head.presentPending hhead).trans rfl
  have hcount : (u.head h).boundaryCount = n := (congrArg Head.boundaryCount hhead).trans hn.symm
  have hcursor : (u.head h).cursor = (s.head h).cursor := (congrArg Head.cursor hhead).trans rfl
  have hqueue : (u.head h).anc = a := (congrArg Head.anc hhead).trans ha.symm
  rw [hcompute, hpresent, hcount, hcursor, hqueue, ← hscene, ← hanc] at hbehind
  have hshape' : (s.head h).cursor.shownNotices h n = shape := hshape.symm
  rw [hbehind, hshape']
  show _ = s.notices.raiseAll (loss ++ follow ++ scene ++ shape ++ anc)
  simp only [NoticeQueue.raiseAll_append]

end Sys2Proof.Machine
end

section
/-! What a fetch shortfall counts, and what it makes of the pixels that were missed. -/

namespace Sys2Proof.Machine

/-! ### Drawings depend on the slots and the library only -/

theorem State.drawing_congr {s t : State} (hslot : ∀ i, t.slot i = s.slot i) (hentry : ∀ i, t.entry i = s.entry i)
    (current : Option SlotId) (r : WindowRecord) (background : Triple) :
    t.drawing current r background = s.drawing current r background := by
  have himage : t.imageDrawing = s.imageDrawing := by
    funext i crop b
    unfold State.imageDrawing
    rw [hentry]
  have hfallback : t.fallbackDrawing = s.fallbackDrawing := by
    funext fb b
    unfold State.fallbackDrawing
    rw [himage]
  have hframe : t.frameDrawing = s.frameDrawing := by
    funext c crop dest fb b
    unfold State.frameDrawing
    simp only [hslot, hfallback]
  unfold State.drawing
  rw [himage, hframe]

/-- A missed pixel that its window reads shows the frame's background. -/
theorem State.windowPixel_of_missed {s t : State} {h : HeadId} {d d' : DrawnFrame} {line : Nat} {m : MissedPixel}
    {w : WindowRecord} (hreads : s.readsPixel h d line m = true) (hw : (s.head h).activeScene[m.position] = some w)
    (hslot : ∀ i, t.slot i = s.slot i) (hentry : ∀ i, t.entry i = s.entry i)
    (hselection : t.selectionAt h m.position = s.selectionAt h m.position) (hbackground : d'.background = d.background)
    (hmissed : (line, m) ∈ d'.missed) (beneath : Triple) :
    t.windowPixel h d' m.position w m.column line beneath = d.background := by
  have hcovered : d'.isMissed m.position m.column line = true :=
    List.any_eq_true.2 ⟨_, hmissed, decide_eq_true rfl⟩
  unfold State.readsPixel at hreads
  rw [hw] at hreads
  simp only [Bool.and_eq_true] at hreads
  obtain ⟨⟨-, hborder⟩, hdraws⟩ := hreads
  have hnoborder := Option.isNone_iff_eq_none.1 hborder
  unfold State.windowPixel
  dsimp only
  rw [hnoborder, State.drawing_congr hslot hentry, hselection, hbackground]
  dsimp only
  cases hdrawing : s.drawing (s.selectionAt h m.position).slot w d.background with
  | flat c => rw [hdrawing] at hdraws; cases hdraws
  | stored base width region => exact if_pos hcovered

/-! ### The event -/

theorem exec_fetchShortfall_of_ready {s : State} (hready : s.device.phase = .ready) (h : HeadId) (line : Nat)
    (missed : List MissedPixel) : exec (.fetchShortfall h line missed) s = .next (s.takeShortfall h line missed) :=
  congrArg Host.Outcome.next (whenReady_of_ready hready _)

theorem State.takeShortfall_of_uncomposed {s : State} {h : HeadId} (line : Nat) (missed : List MissedPixel)
    (hframe : (s.head h).frame = none ∨ ∃ d, (s.head h).frame = some d ∧ d.muted = true) :
    s.takeShortfall h line missed = s := by
  unfold State.takeShortfall
  rcases hframe with hnone | ⟨d, hsome, hmuted⟩
  · rw [hnone]
    cases (s.head h).timing <;> rfl
  · rw [hsome]
    cases (s.head h).timing with
    | none => rfl
    | some t => exact if_neg fun hcounts => by simp [hmuted] at hcounts

theorem State.takeShortfall_of_hit {s : State} {h : HeadId} {line : Nat} {missed : List MissedPixel} {t₀ : Timing}
    {d : DrawnFrame} (htiming : (s.head h).timing = some t₀) (hframe : (s.head h).frame = some d)
    (hmuted : d.muted = false) (hline : line < t₀.activeLines) (hhit : missed.filter (s.readsPixel h d line) ≠ [])
    (hfirst : ∀ m ∈ d.missed, m.1 ≠ line) :
    s.takeShortfall h line missed =
      (s.modHead h fun hd => { hd with
        shortfalls := hd.shortfalls + 1
        frame := some { d with
          missed := d.missed ++ (missed.filter (s.readsPixel h d line)).map fun m => (line, m) } }).raise
        (.fetchShortfall h (s.head h).boundaryCount line) := by
  have hnew : (d.missed.any fun m => decide (m.1 = line)) = false :=
    List.any_eq_false.2 fun m hm => by simpa using hfirst m hm
  unfold State.takeShortfall
  rw [htiming, hframe]
  exact if_pos ⟨hmuted, hline, hhit, hnew⟩

/-- Settles O27: what the event counts and raises, and the pixels of its line that show the background. -/
theorem shortfallCountsAndShowsBackground : Obligations.ShortfallCountsAndShowsBackground := by
  refine ⟨fun s h line missed hframe => ?_, ?_⟩
  · refine congrArg Host.Outcome.next ?_
    unfold whenReady
    split
    · exact State.takeShortfall_of_uncomposed line missed hframe
    · rfl
  · intro s h line missed hit t₀ d d' hready htiming hframe hmuted hline hhits hhit hfirst hd'
    subst hhits
    have htaken := State.takeShortfall_of_hit htiming hframe hmuted hline hhit hfirst
    have honly := s.takeShortfall_only h line missed
    refine ⟨_, exec_fetchShortfall_of_ready hready h line missed, ?_, honly, ?_, ?_, ?_⟩
    · rw [htaken]
      exact (s.modHead_others h _).trans (OtherHeads.of_only (State.raise_only _ _) (by decide))
    · rw [htaken, State.head_raise, State.head_modHead_same, hd']
    · rw [htaken]
      rfl
    · intro m hm w hw beneath
      have hselection : (s.takeShortfall h line missed).selectionAt h m.position = s.selectionAt h m.position := by
        unfold State.selectionAt
        rw [htaken, State.head_raise, State.head_modHead_same]
      refine State.windowPixel_of_missed (List.mem_filter.1 hm).2 hw (State.slot_of_only honly (by decide))
        (State.entry_of_only honly (by decide)) hselection (by rw [hd']) ?_ beneath
      rw [hd']
      exact List.mem_append_right _ (List.mem_map_of_mem hm)

end Sys2Proof.Machine
end

section
/-! The requests that set a head: follow, timing, mute, colours and HEAD_ON. -/

namespace Sys2Proof.Machine

/-! ### A request that sets a head's record -/

section
variable {c : Instr} {s : State} {r : Request} {rest : List Request} {code : Byte} {rule : LengthRule} {body : Body}
  {h : HeadId} {f : Head → Head}

theorem performs_modHead (he : exec c s = s.runRequest code body) (ht : Takes s r rest code)
    (hr : commandRule code = some rule) (hl : rule.allows r.payload.length = true)
    (hb : body r.payload (s.withRequests rest) = done ((s.withRequests rest).modHead h f)) :
    Performs c s r rest (.ok []) [.heads] fun t => OtherHeads h s t ∧ t.head h = f (s.head h) :=
  performs_of_body he ht hr hl hb rfl (State.modHead_only _ h f)
    ⟨State.modHead_others (s.withRequests rest) h f, State.head_modHead_same (s.withRequests rest) h f⟩

end

/-! ### HEAD_FOLLOW (R61) -/

theorem followSourceOf_byte (source : Option PortId) : followSourceOf (followSourceByte source) = some source := by
  cases source with
  | none => rfl
  | some p =>
    have hport : byteOf p.val ≠ 255 := by revert p; decide
    unfold followSourceOf followSourceByte
    rw [if_neg hport, finOf_byteOf p (by decide)]
    rfl

theorem followSourceOf_none {b : Byte} (hlow : 4 ≤ b.toNat) (hhigh : b.toNat ≤ 254) : followSourceOf b = none := by
  have hset : b ≠ 255 := by
    rintro rfl
    exact absurd hhigh (by decide)
  unfold followSourceOf
  rw [if_neg hset, finOf_none hlow]
  rfl

theorem headFollowBody_eq {h : HeadId} {source : Option PortId} {w lead : Byte} (s : State) :
    headFollowBody [byteOf h.val, followSourceByte source, w, lead] s =
      if w.toNat ≤ 64 then done (s.setFollow h source w.toNat lead.toNat) else refuse .badValue s := by
  unfold headFollowBody
  have hsource : followSourceOf (byteAt [byteOf h.val, followSourceByte source, w, lead] 1) = some source :=
    followSourceOf_byte source
  rw [withIndex_byteOf h (by decide), hsource]
  rfl

theorem headFollowBody_badSource {h : HeadId} {b w lead : Byte} (hlow : 4 ≤ b.toNat) (hhigh : b.toNat ≤ 254)
    (s : State) : headFollowBody [byteOf h.val, b, w, lead] s = refuse .badValue s :=
  withIndex_refuses fun i => by
    have hsource : followSourceOf (byteAt [byteOf h.val, b, w, lead] 1) = none := followSourceOf_none hlow hhigh
    rw [hsource]
    rfl

theorem Follow.configured_kept {f : Follow} {source : Option PortId} (hsome : source ≠ none)
    (hstored : source = f.source) (w lead : Nat) : f.configured source w lead = { f with window := w, lead := lead } :=
  if_neg fun hnew => hnew.elim hsome fun hother => hother hstored

theorem Follow.configured_fresh {f : Follow} {source : Option PortId} (hnew : source = none ∨ source ≠ f.source)
    (w lead : Nat) : f.configured source w lead = ⟨source, w, lead, .freeRun, 0, f.phaseError, .clear⟩ := if_pos hnew

/-- HEAD_FOLLOW raises FOLLOW_STATE when the follow state changes, which it does to FREE_RUN only. -/
theorem State.setFollow_notices {s : State} {h : HeadId} {source : Option PortId} {w lead : Nat} :
    (s.setFollow h source w lead).notices =
      if ((s.head h).follow.configured source w lead).state = (s.head h).follow.state then s.notices
      else s.notices.raise (.followState h .freeRun ((s.head h).follow.configured source w lead).source 0) := by
  unfold State.setFollow
  dsimp only
  rw [State.head_modHead_same]
  dsimp only
  by_cases hsame : ((s.head h).follow.configured source w lead).state = (s.head h).follow.state
  · rw [if_pos hsame, if_pos hsame]
    rfl
  · have hran : (s.head h).follow.state ≠ .freeRun := fun hfree => hsame <| by
      unfold Follow.configured
      split <;> simp [Follow.freed, hfree]
    rw [if_neg hsame, if_neg hsame, State.raiseFreeRun_notices, if_neg hran, State.head_modHead_same]
    rfl

theorem State.setFollow_notices_kept {s : State} {h : HeadId} {source : Option PortId} (hsome : source ≠ none)
    (hstored : source = (s.head h).follow.source) (w lead : Nat) :
    (s.setFollow h source w lead).notices = s.notices := by
  rw [State.setFollow_notices, Follow.configured_kept hsome hstored]
  exact if_pos rfl

theorem State.setFollow_notices_fresh {s : State} {h : HeadId} {source : Option PortId}
    (hnew : source = none ∨ source ≠ (s.head h).follow.source) (w lead : Nat) :
    (s.setFollow h source w lead).notices =
      if (s.head h).follow.state = .freeRun then s.notices else s.notices.raise (.followState h .freeRun source 0) := by
  rw [State.setFollow_notices, Follow.configured_fresh hnew]
  simp only [eq_comm]

/-! ### FOLLOW_LOSS (R65) -/

theorem exec_followLoss_of_ready {s : State} (hready : s.device.phase = .ready) (h : HeadId) :
    exec (.followLoss h) s = .next (s.takeFollowLoss h) :=
  congrArg Host.Outcome.next (whenReady_of_ready hready _)

/-- Settles O28: HEAD_FOLLOW by its window and its source, and FOLLOW_LOSS by the loss that has arisen. -/
theorem followSettingsAndLoss : Obligations.FollowSettingsAndLoss := by
  refine ⟨?_, ?_, ?_⟩
  · intro s r rest h source w lead f ht hf hp
    have hlen : LengthRule.allows (.exactly 4) r.payload.length = true := by rw [hp]; rfl
    have hbody := headFollowBody_eq (h := h) (source := source) (w := w) (lead := lead) (s.withRequests rest)
    refine ⟨fun hover => ?_, fun hrange => ?_⟩
    · rw [if_neg (Nat.not_le.2 hover)] at hbody
      exact refuses_of_body rfl ht rfl hlen (by rw [hp]; exact hbody)
    · rw [if_pos hrange] at hbody
      have honly := State.setFollow_only (s.withRequests rest) h source w.toNat lead.toNat
      refine performs_of_body rfl ht rfl hlen (by rw [hp]; exact hbody) (honly .link (by decide)) honly ⟨?_, ?_, ?_⟩
      · exact State.setFollow_others (s.withRequests rest) h source w.toNat lead.toNat
      · intro hsome hstored
        subst hf
        refine ⟨?_, State.setFollow_notices_kept (s := s.withRequests rest) hsome hstored _ _⟩
        rw [← Follow.configured_kept hsome hstored]
        exact State.setFollow_head (s.withRequests rest) h source w.toNat lead.toNat
      · intro hnew
        subst hf
        refine ⟨?_, State.setFollow_notices_fresh (s := s.withRequests rest) hnew _ _⟩
        rw [← Follow.configured_fresh hnew]
        exact State.setFollow_head (s.withRequests rest) h source w.toNat lead.toNat
  · intro s r rest h b w lead ht hp hlow hhigh
    exact refuses_of_body (rule := .exactly 4) rfl ht rfl (by rw [hp]; rfl)
      (by rw [hp]; exact headFollowBody_badSource hlow hhigh _)
  · intro s h f hready hf
    subst hf
    refine ⟨fun hclear => ?_, fun hloss => ⟨_, exec_followLoss_of_ready hready h, s.takeFollowLoss_others h,
      s.takeFollowLoss_only h, ?_, State.takeFollowLoss_notices hloss⟩⟩
    · rw [exec_followLoss_of_ready hready]
      exact congrArg Host.Outcome.next (if_pos hclear)
    · rw [State.takeFollowLoss_head, if_neg hloss]
      rfl

/-! ### HEAD_TIMING, HEAD_MUTE and HEAD_BACKGROUND (R53, R58, R59) -/

theorem Timing.inRange_iff (t : Timing) : t.inRange = true ↔
    (320 ≤ t.activeWidth ∧ t.activeWidth ≤ 1920 ∧ t.activeWidth % 2 = 0) ∧
    (240 ≤ t.activeLines ∧ t.activeLines ≤ 1080) ∧
    (t.activeWidth + 32 ≤ t.totalWidth ∧ t.totalWidth ≤ 4096) ∧
    (t.activeLines + 8 ≤ t.totalLines ∧ t.totalLines ≤ 2048) ∧
    25000 ≤ t.pixelClock ∧ t.pixelClock ≤ 165000 := by
  simp only [Timing.inRange, Bool.and_eq_true, decide_eq_true_eq, and_assoc]

theorem leNat_leBytes_of_lt {k n : Nat} (hn : n < 256 ^ k) : leNat (leBytes k n) = n :=
  (leNat_leBytes k n).trans (Nat.mod_eq_of_lt hn)

/-- The payload of HEAD_TIMING. -/
def timingPayload (h : HeadId) (t : Timing) : List Byte :=
  byteOf h.val :: (leBytes 2 t.activeWidth ++ leBytes 2 t.activeLines ++
    leBytes 2 t.totalWidth ++ leBytes 2 t.totalLines ++ leBytes 4 t.pixelClock)

theorem timingAt_timingPayload {t : Timing} (h : HeadId) (haw : t.activeWidth < 65536) (hal : t.activeLines < 65536)
    (htw : t.totalWidth < 65536) (htl : t.totalLines < 65536) (hpc : t.pixelClock < 4294967296) :
    timingAt (timingPayload h t) = t :=
  calc timingAt (timingPayload h t)
      = ⟨leNat (leBytes 2 t.activeWidth), leNat (leBytes 2 t.activeLines), leNat (leBytes 2 t.totalWidth),
          leNat (leBytes 2 t.totalLines), leNat (leBytes 4 t.pixelClock)⟩ := rfl
    _ = t := by
      rw [leNat_leBytes_of_lt haw, leNat_leBytes_of_lt hal, leNat_leBytes_of_lt htw, leNat_leBytes_of_lt htl,
        leNat_leBytes_of_lt hpc]

theorem headTimingBody_eq {t : Timing} {h : HeadId} (hread : timingAt (timingPayload h t) = t) (s : State) :
    headTimingBody (timingPayload h t) s =
      if t.inRange then
        if (s.head h).state = .off then done (s.modHead h fun hd => { hd with timing := some t })
        else refuse .wrongState s
      else refuse .badValue s := by
  unfold headTimingBody
  rw [hread]
  exact withIndex_byteOf h (by decide) _ _ _

theorem flagOf_flagByte (on : Bool) : flagOf (flagByte on) = some on := by cases on <;> rfl

theorem headMuteBody_eq (h : HeadId) (on : Bool) (s : State) :
    headMuteBody [byteOf h.val, flagByte on] s =
      if (s.head h).state = .off then refuse .wrongState s
      else done (s.modHead h fun hd => { hd with state := if on then .muted else .running }) := by
  unfold headMuteBody
  have hflag : flagOf (byteAt [byteOf h.val, flagByte on] 1) = some on := flagOf_flagByte on
  rw [withIndex_byteOf h (by decide), hflag]

theorem headMuteBody_badFlag {h : HeadId} {b : Byte} (hb : 2 ≤ b.toNat) (s : State) :
    headMuteBody [byteOf h.val, b] s = refuse .badValue s :=
  withIndex_refuses fun i => by
    have hflag : flagOf (byteAt [byteOf h.val, b] 1) = none := flagOf_none hb
    rw [hflag]
    rfl

/-- Settles O29: the three settings, each by its checks. -/
theorem headSettingsAreStored : Obligations.HeadSettingsAreStored := by
  refine ⟨Timing.inRange_iff, ?_, ?_, ?_⟩
  · intro s r rest h t₀ ht hp haw hal htw htl hpc
    have hlen : LengthRule.allows (.exactly 13) r.payload.length = true := by rw [hp]; rfl
    have hbody := headTimingBody_eq (timingAt_timingPayload h haw hal htw htl hpc) (s.withRequests rest)
    have hpayload : r.payload = timingPayload h t₀ := hp
    rw [← hpayload] at hbody
    refine ⟨fun hout => ?_, fun hin hon => ?_, fun hin hoff => ?_⟩
    · rw [hout] at hbody
      exact refuses_of_body rfl ht rfl hlen hbody
    · rw [if_pos hin] at hbody
      exact refuses_of_body rfl ht rfl hlen (hbody.trans (if_neg hon))
    · rw [if_pos hin] at hbody
      exact performs_modHead rfl ht rfl hlen (hbody.trans (if_pos hoff))
  · intro s r rest h ht
    refine ⟨fun b hp hb => ?_, fun on hp => ⟨fun hoff => ?_, fun hon => ?_⟩⟩
    · exact refuses_of_body (rule := .exactly 2) rfl ht rfl (by rw [hp]; rfl)
        (by rw [hp]; exact headMuteBody_badFlag hb _)
    · exact refuses_of_body (rule := .exactly 2) rfl ht rfl (by rw [hp]; rfl)
        (by rw [hp]; exact (headMuteBody_eq h on _).trans (if_pos hoff))
    · exact performs_modHead (c := .headMute) (rule := .exactly 2) rfl ht rfl (by rw [hp]; rfl)
        (by rw [hp]; exact (headMuteBody_eq h on _).trans (if_neg hon))
  · intro s r rest h c m ht hp
    exact performs_modHead (c := .headBackground) (f := fun hd => { hd with background := c, muteColour := m }) (rule := .exactly 7) rfl ht rfl
      (by rw [hp]; rfl) (by rw [hp]; exact withIndex_byteOf h (by decide) _ _ _)

/-! ### HEAD_ON (R54) -/

theorem headOnBody_refuses {h : HeadId} {s : State}
    (hstate : (s.head h).state ≠ .off ∨ (s.head h).timing = none) :
    headOnBody [byteOf h.val] s = refuse .wrongState s := by
  refine (withIndex_byteOf h (by decide) _ _ _).trans ?_
  by_cases hon : (s.head h).state ≠ .off
  · exact if_pos hon
  · exact (if_neg hon).trans (if_pos (hstate.resolve_left hon))

theorem headOnBody_of_off {h : HeadId} {s : State} {t₀ : Timing} (hoff : (s.head h).state = .off)
    (htiming : (s.head h).timing = some t₀) :
    headOnBody [byteOf h.val] s =
      match s.validate (some t₀) (s.head h).activeScene with
      | some f => (invalidScene f, s)
      | none => done (s.modHead h Head.switchedOn) := by
  refine (withIndex_byteOf h (by decide) _ _ _).trans ?_
  rw [if_neg (not_not.2 hoff), htiming] <;> rfl

/-- Validation reads the library only. -/
theorem State.validate_withRequests (s : State) (rest : List Request) (t : Option Timing) (sc : Scene) :
    (s.withRequests rest).validate t sc = s.validate t sc := rfl

/-- Settles O30: the checks of HEAD_ON in their order, and what an accepted one sets. -/
theorem headOnStartsTheHead : Obligations.HeadOnStartsTheHead := by
  intro s r rest h ht hp
  have hlen : LengthRule.allows (.exactly 1) r.payload.length = true := by rw [hp]; rfl
  refine ⟨fun hstate => ?_, fun t₀ hoff htiming => ?_⟩
  · exact refuses_of_body rfl ht rfl hlen (by rw [hp]; exact headOnBody_refuses (s := s.withRequests rest) hstate)
  · have hbody := headOnBody_of_off (h := h) (s := s.withRequests rest) hoff htiming
    rw [State.validate_withRequests, ← hp] at hbody
    refine ⟨fun k why hinvalid => ?_, fun hvalid => ?_⟩
    · rw [show ((s.withRequests rest).head h).activeScene = (s.head h).activeScene from rfl, hinvalid] at hbody
      exact performs_of_body rfl ht rfl hlen hbody rfl (OnlyChanges.refl _ _) trivial
    · rw [show ((s.withRequests rest).head h).activeScene = (s.head h).activeScene from rfl, hvalid] at hbody
      exact performs_modHead rfl ht rfl hlen hbody

end Sys2Proof.Machine
end

section
/-! The use counts of library entries: what one more and one fewer use do to an entry, and the ledger that keeps the
counts equal to the names that scenes and cursors hold. -/

namespace Sys2Proof.Machine

/-! ### An entry but for its use count -/

/-- An entry with its use count set aside. -/
def Entry.unused : Entry → Entry
  | .valid e _ => .valid e 0
  | .empty => .empty
  | .receiving e n => .receiving e n
  | .verifying e => .verifying e

theorem Entry.info_unused (x : Entry) : x.unused.info? = x.info? := by cases x <;> rfl

theorem Entry.isVerifying_unused (x : Entry) : x.unused.isVerifying = x.isVerifying := by cases x <;> rfl

theorem Entry.inProgress_unused (x : Entry) : x.unused.inProgress = x.inProgress := by cases x <;> rfl

theorem Entry.validOf_unused (x : Entry) (k : EntryKind) : x.unused.validOf k = x.validOf k := by cases x <;> rfl

/-- The directories of two states differ in use counts only. -/
def SameDirectory (s t : State) : Prop :=
  (∀ i, (t.entry i).unused = (s.entry i).unused) ∧ t.library.verifyQueue = s.library.verifyQueue

theorem SameDirectory.refl (s : State) : SameDirectory s s := ⟨fun _ => rfl, rfl⟩

theorem SameDirectory.trans {s t u : State} (h₁ : SameDirectory s t) (h₂ : SameDirectory t u) : SameDirectory s u :=
  ⟨fun i => (h₂.1 i).trans (h₁.1 i), h₂.2.trans h₁.2⟩

theorem SameDirectory.of_only {l : List Part} {s t : State} (h : OnlyChanges l s t) (hl : Part.library ∉ l) :
    SameDirectory s t :=
  ⟨fun i => by rw [State.entry_of_only h hl], congrArg Library.verifyQueue (h .library hl)⟩

theorem SameDirectory.foldl {α : Type} (f : State → α → State) (hf : ∀ s a, SameDirectory s (f s a)) (as : List α) :
    ∀ s, SameDirectory s (as.foldl f s) := by
  induction as with
  | nil => exact SameDirectory.refl
  | cons a as ih => exact fun s => (hf s a).trans (ih (f s a))

section
variable {s t : State}

theorem SameDirectory.info (h : SameDirectory s t) (i : LibId) : (t.entry i).info? = (s.entry i).info? := by
  rw [← Entry.info_unused, h.1 i, Entry.info_unused]

theorem SameDirectory.isVerifying (h : SameDirectory s t) (i : LibId) :
    (t.entry i).isVerifying = (s.entry i).isVerifying := by
  rw [← Entry.isVerifying_unused, h.1 i, Entry.isVerifying_unused]

theorem SameDirectory.inProgress (h : SameDirectory s t) (i : LibId) :
    (t.entry i).inProgress = (s.entry i).inProgress := by
  rw [← Entry.inProgress_unused, h.1 i, Entry.inProgress_unused]

theorem SameDirectory.validOf (h : SameDirectory s t) (i : LibId) (k : EntryKind) :
    (t.entry i).validOf k = (s.entry i).validOf k := by
  rw [← Entry.validOf_unused, h.1 i, Entry.validOf_unused]

end

/-- Whether an entry is VALID. -/
def Entry.isValid : Entry → Bool
  | .valid _ _ => true
  | .empty => false
  | .receiving _ _ => false
  | .verifying _ => false

theorem Entry.isValid_unused (x : Entry) : x.unused.isValid = x.isValid := by cases x <;> rfl

theorem SameDirectory.isValid {s t : State} (h : SameDirectory s t) (i : LibId) :
    (t.entry i).isValid = (s.entry i).isValid := by
  rw [← Entry.isValid_unused, h.1 i, Entry.isValid_unused]

theorem Entry.isValid_of_useCount {x : Entry} (h : x.useCount ≠ 0) : x.isValid = true := by
  cases x with
  | valid e n => rfl
  | empty => exact absurd rfl h
  | receiving e n => exact absurd rfl h
  | verifying e => exact absurd rfl h

theorem Entry.isValid_of_validOf {x : Entry} {k : EntryKind} (h : x.validOf k ≠ none) : x.isValid = true := by
  cases x with
  | valid e n => rfl
  | empty => exact absurd rfl h
  | receiving e n => exact absurd rfl h
  | verifying e => exact absurd rfl h

/-! ### One use more and one use fewer -/

theorem sameDirectory_setEntry {s : State} {i : LibId} {v : Entry} (h : v.unused = (s.entry i).unused) :
    SameDirectory s (s.setEntry i v) := by
  refine ⟨fun j => ?_, rfl⟩
  by_cases hj : j = i
  · subst hj; rw [State.entry_setEntry_same]; exact h
  · rw [State.entry_setEntry_other _ _ hj]

theorem State.addUse_directory (s : State) (i : LibId) : SameDirectory s (s.addUse i) := by
  unfold State.addUse
  split
  · rename_i e n hvalid; exact sameDirectory_setEntry (by rw [hvalid]; rfl)
  all_goals exact .refl s

theorem State.dropUse_directory (s : State) (i : LibId) : SameDirectory s (s.dropUse i) := by
  unfold State.dropUse
  split
  · rename_i e n hvalid; exact sameDirectory_setEntry (by rw [hvalid]; rfl)
  all_goals exact .refl s

theorem State.addUseOf_directory (s : State) (o : Option LibId) : SameDirectory s (s.addUseOf o) := by
  cases o with
  | none => exact .refl s
  | some i => exact s.addUse_directory i

theorem State.dropUseOf_directory (s : State) (o : Option LibId) : SameDirectory s (s.dropUseOf o) := by
  cases o with
  | none => exact .refl s
  | some i => exact s.dropUse_directory i

theorem State.addSceneUses_directory (s : State) (sc : Scene) : SameDirectory s (s.addSceneUses sc) :=
  SameDirectory.foldl _ (fun s _ => s.addUseOf_directory _) _ s

theorem State.dropSceneUses_directory (s : State) (sc : Scene) : SameDirectory s (s.dropSceneUses sc) :=
  SameDirectory.foldl _ (fun s _ => s.dropUseOf_directory _) _ s

theorem State.useCount_addUseOf {s : State} {o : Option LibId} (hvalid : ∀ i, o = some i → (s.entry i).isValid = true)
    (j : LibId) : ((s.addUseOf o).entry j).useCount = (s.entry j).useCount + [o].count (some j) := by
  cases o with
  | none => simp [State.addUseOf]
  | some i =>
    show ((s.addUse i).entry j).useCount = _
    unfold State.addUse
    cases hentry : s.entry i with
    | valid e n =>
      by_cases hj : j = i
      · subst hj; simp [hentry, Entry.useCount]
      · simp [hj, Ne.symm hj]
    | empty => exact absurd (hvalid i rfl) (by rw [hentry]; nofun)
    | receiving e n => exact absurd (hvalid i rfl) (by rw [hentry]; nofun)
    | verifying e => exact absurd (hvalid i rfl) (by rw [hentry]; nofun)

theorem State.useCount_dropUseOf (s : State) (o : Option LibId) (j : LibId) :
    ((s.dropUseOf o).entry j).useCount = (s.entry j).useCount - [o].count (some j) := by
  cases o with
  | none => simp [State.dropUseOf]
  | some i =>
    show ((s.dropUse i).entry j).useCount = _
    unfold State.dropUse
    by_cases hj : j = i
    · subst hj
      cases hentry : s.entry j <;> simp [hentry, Entry.useCount]
    · cases hentry : s.entry i <;> simp [hj, Ne.symm hj]

/-! ### The uses of a list of names -/

/-- The entries that the records of a scene name. -/
def Scene.names (sc : Scene) : List (Option LibId) := positions.map fun p => namedAt sc[p]

theorem State.addSceneUses_eq (s : State) (sc : Scene) :
    s.addSceneUses sc = sc.names.foldl State.addUseOf s := List.foldl_map.symm

theorem State.dropSceneUses_eq (s : State) (sc : Scene) :
    s.dropSceneUses sc = sc.names.foldl State.dropUseOf s := List.foldl_map.symm

theorem State.useCount_addUses {l : List (Option LibId)} (j : LibId) : ∀ {s : State},
    (∀ i, some i ∈ l → (s.entry i).isValid = true) →
    ((l.foldl State.addUseOf s).entry j).useCount = (s.entry j).useCount + l.count (some j) := by
  induction l with
  | nil => exact fun _ => rfl
  | cons o l ih =>
    intro s hvalid
    have htail : ∀ i, some i ∈ l → ((s.addUseOf o).entry i).isValid = true := fun i hi =>
      ((s.addUseOf_directory o).isValid i).trans (hvalid i (List.mem_cons_of_mem _ hi))
    rw [List.foldl_cons, ih htail, State.useCount_addUseOf fun i ho => hvalid i (ho ▸ List.mem_cons_self),
      Nat.add_assoc, ← List.count_append, List.singleton_append]

theorem State.useCount_dropUses (l : List (Option LibId)) (j : LibId) : ∀ s : State,
    ((l.foldl State.dropUseOf s).entry j).useCount = (s.entry j).useCount - l.count (some j) := by
  induction l with
  | nil => exact fun _ => rfl
  | cons o l ih =>
    intro s
    rw [List.foldl_cons, ih, State.useCount_dropUseOf, Nat.sub_sub, ← List.count_append, List.singleton_append]

/-! ### The ledger -/

/-- The names of an entry that a head's scenes and cursor buffers hold. -/
def Head.namesOf (hd : Head) (i : LibId) : Nat := hd.uses.count (some i)

theorem headId_cases (h : HeadId) : h = 0 ∨ h = 1 := by revert h; decide

theorem usesOk_iff {s : State} :
    UsesOk s ↔ ∀ i, (s.entry i).useCount = (s.head 0).namesOf i + (s.head 1).namesOf i := by
  simp [UsesOk, headIds, List.count_append, Head.namesOf]

theorem UsesOk.isValid {s : State} (ok : UsesOk s) {h : HeadId} {i : LibId} (hi : some i ∈ (s.head h).uses) :
    (s.entry i).isValid = true := by
  refine Entry.isValid_of_useCount fun hzero => ?_
  have hcount : 0 < (s.head h).namesOf i := List.count_pos_iff.2 hi
  have htotal := usesOk_iff.1 ok i
  rcases headId_cases h with rfl | rfl <;> omega

/-- The ledger through an operation on one head: what its use counts and its head's names gain is the same. -/
theorem usesOk_of_head {s t : State} {h : HeadId} (ok : UsesOk s) (hothers : OtherHeads h s t)
    (hcount : ∀ i, (t.entry i).useCount + (s.head h).namesOf i = (s.entry i).useCount + (t.head h).namesOf i) :
    UsesOk t := by
  rw [usesOk_iff] at ok ⊢
  intro i
  have htotal := ok i
  have hgain := hcount i
  rcases headId_cases h with rfl | rfl
  · rw [hothers 1 (by decide)]; omega
  · rw [hothers 0 (by decide)]; omega

theorem usesOk_of_only {l : List Part} {s t : State} (ho : OnlyChanges l s t) (hlibrary : Part.library ∉ l)
    (hnames : ∀ h i, (t.head h).namesOf i = (s.head h).namesOf i) (ok : UsesOk s) : UsesOk t := by
  rw [usesOk_iff] at ok ⊢
  intro i
  rw [State.entry_of_only ho hlibrary, hnames, hnames]
  exact ok i

theorem Head.namesOf_eq (hd : Head) (i : LibId) : hd.namesOf i =
    hd.pendingScene.names.count (some i) + hd.activeScene.names.count (some i) +
      [hd.cursor.front.map Shape.id, hd.cursor.back.uses].count (some i) := by
  unfold Head.namesOf Head.uses Scene.names
  rw [List.count_append, List.count_append]

theorem Scene.mem_names {sc : Scene} {i : LibId} : some i ∈ sc.names ↔ ∃ p : Position, namedAt sc[p] = some i := by
  have hall : ∀ p : Position, p ∈ positions := by decide
  simp only [Scene.names, List.mem_map]
  exact ⟨fun ⟨p, _, hp⟩ => ⟨p, hp⟩, fun ⟨p, hp⟩ => ⟨p, hall p, hp⟩⟩

theorem Head.pending_mem_uses {hd : Head} {i : LibId} (h : some i ∈ hd.pendingScene.names) : some i ∈ hd.uses :=
  List.mem_append_left _ (List.mem_append_left _ h)

theorem Head.active_mem_uses {hd : Head} {i : LibId} (h : some i ∈ hd.activeScene.names) : some i ∈ hd.uses :=
  List.mem_append_left _ (List.mem_append_right _ h)

/-- The names of a scene with one position replaced. -/
theorem Scene.count_names_set (sc : Scene) (p : Position) (r : Option WindowRecord) (i : LibId) :
    (Scene.names (sc.set p r)).count (some i) + [namedAt sc[p]].count (some i) =
      sc.names.count (some i) + [namedAt r].count (some i) := by
  have hnodup : positions.Nodup := by decide
  have hmem : p ∈ positions := by revert p; decide
  have hset : ∀ q : Position, namedAt (sc.set p r)[q] = if q = p then namedAt r else namedAt sc[q] := by
    intro q
    by_cases hq : q = p
    · subst hq; simp
    · have hv : p.val ≠ q.val := fun e => hq (Fin.ext e.symm)
      simp [hq, Vector.getElem_set_ne, hv]
  unfold Scene.names
  simp only [hset]
  generalize positions = ps at hnodup hmem
  obtain ⟨before, after, rfl⟩ := List.append_of_mem hmem
  have hapart : ∀ q ∈ before ++ after, q ≠ p := by
    rw [List.nodup_append, List.nodup_cons] at hnodup
    obtain ⟨-, ⟨hafter, -⟩, hbefore⟩ := hnodup
    intro q hq hqp
    rcases List.mem_append.1 hq with hq | hq
    · exact hbefore q hq p List.mem_cons_self hqp
    · exact hafter (hqp ▸ hq)
  have hsame : ∀ qs : List Position, (∀ q ∈ qs, q ≠ p) →
      (qs.map fun q => if q = p then namedAt r else namedAt sc[q]) = qs.map fun q => namedAt sc[q] :=
    fun qs hqs => List.map_congr_left fun q hq => if_neg (hqs q hq)
  rw [List.map_append, List.map_append, List.map_cons, List.map_cons,
    hsame before fun q hq => hapart q (List.mem_append_left _ hq),
    hsame after fun q hq => hapart q (List.mem_append_right _ hq), if_pos rfl]
  simp only [List.count_append, List.count_cons, List.count_nil]
  omega

end Sys2Proof.Machine
end

section
/-! HEAD_OFF: the references that a head's windows let go, and the steps behind that. -/

namespace Sys2Proof.Machine

/-! ### Releasing a list of references -/

/-- Release the references on a list of slots, one after another. -/
def State.releaseAll (s : State) (held : List SlotId) : State := held.foldl State.releaseRef s

theorem State.releaseAll_concat (s : State) (held : List SlotId) (i : SlotId) :
    s.releaseAll (held ++ [i]) = (s.releaseAll held).releaseRef i := by
  simp [State.releaseAll]

theorem State.slot_releaseAll (s : State) (i : SlotId) (held : List SlotId) :
    (s.releaseAll held).slot i = Nat.iterate Slot.released (held.count i) (s.slot i) := by
  induction held using List.reverseRecOn with
  | nil => rfl
  | append_singleton held j ih =>
    rw [State.releaseAll_concat, List.count_append]
    by_cases hj : i = j
    · subst hj
      rw [State.slot_releaseRef_same, ih, List.count_singleton_self, Function.iterate_succ_apply']
    · rw [State.slot_releaseRef_other _ hj, ih, List.count_singleton, if_neg (by simpa using Ne.symm hj), Nat.add_zero]

theorem Slot.refs_released (v : Slot) : v.released.refs = v.refs - 1 := by
  cases v with
  | free => rfl
  | filling p g => rfl
  | ready f => rfl
  | held f =>
    by_cases hlast : f.refs ≤ 1
    · rw [show (Slot.held f).released = .free from if_pos hlast]
      exact (Nat.sub_eq_zero_of_le hlast).symm
    · rw [show (Slot.held f).released = .held { f with refs := f.refs - 1 } from if_neg hlast]
      rfl

theorem Slot.refs_iterate_released (v : Slot) (n : Nat) : (Nat.iterate Slot.released n v).refs = v.refs - n := by
  induction n with
  | zero => rfl
  | succ n ih => rw [Function.iterate_succ_apply', Slot.refs_released, ih, Nat.sub_sub]

/-- The free list gains the slots that the releases free, in their order. -/
theorem State.freedInOrder_concat (s : State) (held : List SlotId) (i : SlotId) :
    s.freedInOrder (held ++ [i]) = s.freedInOrder held ++
      if (Nat.iterate Slot.released (held.count i) (s.slot i)).freedByRelease then [i] else [] := by
  have hearlier : ∀ x ∈ held.zipIdx, (held ++ [i]).take x.2 = held.take x.2 := fun x hx =>
    List.take_append_of_le_length (Nat.le_of_lt (List.snd_lt_of_mem_zipIdx hx))
  unfold State.freedInOrder
  rw [List.zipIdx_append, List.filter_append, List.map_append]
  congr 1
  · exact congrArg _ (List.filter_congr fun x hx => by rw [hearlier x hx])
  · simp only [List.zipIdx_singleton, Nat.zero_add, List.filter_singleton, List.take_left]
    cases (Nat.iterate Slot.released (held.count i) (s.slot i)).freedByRelease <;> rfl

theorem State.releaseAll_pool (s : State) (held : List SlotId) :
    (s.releaseAll held).pool.ready = s.pool.ready ∧ (s.releaseAll held).pool.pins = s.pool.pins ∧
    (s.releaseAll held).pool.freeList = s.pool.freeList ++ s.freedInOrder held := by
  induction held using List.reverseRecOn with
  | nil => exact ⟨rfl, rfl, (List.append_nil _).symm⟩
  | append_singleton held i ih =>
    obtain ⟨hready, hpins, hfree⟩ := ih
    obtain ⟨hready', hpins', hfree'⟩ := (s.releaseAll held).releaseRef_pool i
    rw [State.releaseAll_concat, State.freedInOrder_concat]
    refine ⟨hready'.trans hready, hpins'.trans hpins, hfree'.trans ?_⟩
    rw [State.slot_releaseAll, hfree, ← List.append_assoc]
    split
    · rfl
    · exact (List.append_nil _).symm

theorem State.setSlot_pool_congr {s t : State} (h : s.pool = t.pool) (i : SlotId) (v : Slot) :
    (s.setSlot i v).pool = (t.setSlot i v).pool := congrArg (fun u : Pool => { u with slots := u.slots.set i v }) h

theorem State.releaseRef_pool_congr {s t : State} (h : s.pool = t.pool) (i : SlotId) :
    (s.releaseRef i).pool = (t.releaseRef i).pool := by
  have hslot : s.slot i = t.slot i := congrArg (fun v : Pool => v.slots[i]) h
  unfold State.releaseRef
  rw [hslot]
  split
  · exact State.setSlot_pool_congr h i _
  · split
    · exact congrArg (fun v : Pool => { v with slots := v.slots.set i .free, freeList := v.freeList ++ [i] }) h
    · exact State.setSlot_pool_congr h i _
  · exact h
  · exact h

theorem State.releaseAll_pool_congr (held : List SlotId) : ∀ {s t : State}, s.pool = t.pool →
    (s.releaseAll held).pool = (t.releaseAll held).pool := by
  induction held with
  | nil => exact fun h => h
  | cons i held ih => exact fun h => ih (State.releaseRef_pool_congr h i)

/-! ### The windows' references (R56, step 1) -/

theorem State.clearPosition_selection_same (s : State) (h : HeadId) (p : Position) :
    (State.clearPosition h s p).selectionAt h p = .cleared := by
  unfold State.clearPosition
  rw [State.selectionAt_releaseOpt, State.selectionAt_setSelection_same]

theorem State.clearPosition_selection_other (s : State) (h : HeadId) {p q : Position} (hq : q ≠ p) :
    (State.clearPosition h s p).selectionAt h q = s.selectionAt h q := by
  unfold State.clearPosition
  rw [State.selectionAt_releaseOpt, State.selectionAt_setSelection_other _ _ _ hq]

theorem State.clearPosition_pool (s : State) (h : HeadId) (p : Position) :
    (State.clearPosition h s p).pool = (s.releaseAll (s.selectionAt h p).slot.toList).pool := by
  unfold State.clearPosition
  cases (s.selectionAt h p).slot with
  | none => rfl
  | some i => exact State.releaseRef_pool_congr (s := s.setSelection h p .cleared) (t := s) rfl i

theorem State.clearPositions (h : HeadId) (ps : List Position) : ∀ s : State, ps.Nodup →
    (ps.foldl (State.clearPosition h) s).pool = (s.releaseAll (ps.filterMap fun p => (s.selectionAt h p).slot)).pool ∧
    (∀ p ∈ ps, (ps.foldl (State.clearPosition h) s).selectionAt h p = .cleared) ∧
    ∀ p, p ∉ ps → (ps.foldl (State.clearPosition h) s).selectionAt h p = s.selectionAt h p := by
  induction ps with
  | nil => exact fun s _ => ⟨rfl, nofun, fun _ _ => rfl⟩
  | cons p ps ih =>
    intro s hnodup
    obtain ⟨hp, hps⟩ := List.nodup_cons.1 hnodup
    obtain ⟨hpool, hcleared, hkept⟩ := ih (State.clearPosition h s p) hps
    have hslots : (ps.filterMap fun q => ((State.clearPosition h s p).selectionAt h q).slot) =
        ps.filterMap fun q => (s.selectionAt h q).slot :=
      List.filterMap_congr fun q hq => by
        rw [State.clearPosition_selection_other s h (fun e : q = p => hp (e ▸ hq))]
    have hheld : ((p :: ps).filterMap fun q => (s.selectionAt h q).slot) =
        (s.selectionAt h p).slot.toList ++ ps.filterMap fun q => (s.selectionAt h q).slot := by
      rw [List.filterMap_cons]
      cases (s.selectionAt h p).slot <;> rfl
    refine ⟨?_, fun q hq => ?_, fun q hq => ?_⟩
    · rw [List.foldl_cons, hpool, hslots, hheld]
      unfold State.releaseAll
      rw [List.foldl_append]
      exact State.releaseAll_pool_congr _ (s.clearPosition_pool h p)
    · rw [List.foldl_cons]
      rcases List.mem_cons.1 hq with rfl | hq
      · rw [hkept q hp, State.clearPosition_selection_same]
      · exact hcleared q hq
    · rw [List.mem_cons, not_or] at hq
      rw [List.foldl_cons, hkept q hq.2, State.clearPosition_selection_other s h hq.1]

theorem positions_nodup : positions.Nodup := by decide

theorem mem_positions (p : Position) : p ∈ positions := by revert p; decide

theorem State.clearSelections_pool (s : State) (h : HeadId) :
    (s.clearSelections h).pool = (s.releaseAll (positions.filterMap fun p => (s.selectionAt h p).slot)).pool :=
  (State.clearPositions h positions s positions_nodup).1

theorem State.clearSelections_cleared (s : State) (h : HeadId) (p : Position) :
    (s.clearSelections h).selectionAt h p = .cleared :=
  (State.clearPositions h positions s positions_nodup).2.1 p (mem_positions p)

theorem Head.selection_cleared {hd : Head} (h : ∀ p : Position, hd.selection[p] = .cleared) :
    hd.selection = Vector.replicate 12 .cleared :=
  Vector.ext fun k hk => (h ⟨k, hk⟩).trans (Vector.getElem_replicate hk).symm

theorem State.clearSelections_selection_eq (s : State) (h : HeadId) :
    ((s.clearSelections h).head h).selection = Vector.replicate 12 .cleared :=
  Head.selection_cleared (s.clearSelections_cleared h)

/-! ### A swap with nothing to release -/

theorem State.swapPosition_cleared {s : State} {h : HeadId} {p : Position} (hp : s.selectionAt h p = .cleared) :
    (State.swapPosition h s p).pool = s.pool ∧
    ∀ q, s.selectionAt h q = .cleared → (State.swapPosition h s p).selectionAt h q = .cleared := by
  unfold State.swapPosition
  split
  · exact ⟨rfl, fun _ hq => hq⟩
  · rw [hp]
    refine ⟨rfl, fun q hq => ?_⟩
    show (s.setSelection h p .cleared).selectionAt h q = .cleared
    by_cases hqp : q = p
    · subst hqp; exact State.selectionAt_setSelection_same _ _ _ _
    · exact (State.selectionAt_setSelection_other _ _ _ hqp).trans hq

theorem State.swapPositions_cleared (h : HeadId) (ps : List Position) : ∀ s : State,
    (∀ p, s.selectionAt h p = .cleared) → (ps.foldl (State.swapPosition h) s).pool = s.pool := by
  induction ps with
  | nil => exact fun _ _ => rfl
  | cons p ps ih =>
    intro s hall
    obtain ⟨hpool, hkeep⟩ := State.swapPosition_cleared (hall p)
    exact (ih _ fun q => hkeep q (hall q)).trans hpool

/-- A swap of a head whose windows hold nothing leaves the pool as it is. -/
theorem State.swap_pool_of_cleared {s : State} {h : HeadId} (hall : ∀ p, s.selectionAt h p = .cleared) :
    (s.swap h).pool = s.pool := by
  have hpositions := State.swapPositions_cleared h positions s hall
  unfold State.swap
  generalize positions.foldl (State.swapPosition h) s = u at hpositions ⊢
  exact ((State.dropSceneUses_only _ _ .pool (by decide)).trans
    (State.addSceneUses_only _ _ .pool (by decide))).trans hpositions

theorem State.swap_directory (s : State) (h : HeadId) : SameDirectory s (s.swap h) := by
  have hpositions : SameDirectory s (positions.foldl (State.swapPosition h) s) :=
    SameDirectory.foldl _ (fun s p => SameDirectory.of_only (State.swapPosition_only h s p) (by decide)) _ s
  unfold State.swap
  generalize positions.foldl (State.swapPosition h) s = u at hpositions ⊢
  have hscene : SameDirectory u (u.modHead h fun hd => { hd with activeScene := (s.head h).pendingScene }) :=
    SameDirectory.of_only (u.modHead_only h _) (by decide)
  exact ((hpositions.trans hscene).trans (State.addSceneUses_directory _ _)).trans (State.dropSceneUses_directory _ _)

/-! ### The steps of HEAD_OFF (R56) -/

theorem State.presentAtOff_pool {s : State} {h : HeadId} (hall : ∀ p, s.selectionAt h p = .cleared) :
    (s.presentAtOff h).pool = s.pool := by
  unfold State.presentAtOff
  split
  · exact State.swap_pool_of_cleared hall
  · rfl

theorem State.presentAtOff_directory (s : State) (h : HeadId) : SameDirectory s (s.presentAtOff h) := by
  unfold State.presentAtOff
  split
  · exact s.swap_directory h
  · exact .refl s

theorem State.presentAtOff_notices (s : State) (h : HeadId) :
    (s.presentAtOff h).notices = if (s.head h).presentPending then
      s.notices.raise (.scenePresented h (s.head h).boundaryCount) else s.notices := by
  unfold State.presentAtOff
  split
  · exact State.raise_notices_of (show ((s.swapOff h).modHead h _).notices = s.notices from
      s.swapOff_only h .notices (by decide)) _
  · rfl

theorem State.cancelShapes_directory (s : State) (h : HeadId) : SameDirectory s (s.cancelShapes h) :=
  State.dropUseOf_directory _ _

/-- The loader with every load of a head ended. -/
theorem State.cancelShapes_loader (s : State) (h : HeadId) :
    (s.cancelShapes h).loader.queue = s.loader.queue.filter (fun e => decide (e.1 ≠ h)) ∧
    (s.cancelShapes h).loader.job = s.loader.job.filter (fun e => decide (e.1 ≠ h)) := by
  unfold State.cancelShapes
  dsimp only
  rw [show ∀ (u : State) (o : Option LibId), (u.dropUseOf o).loader = u.loader from
    fun u o => State.dropUseOf_only u o .loader (by decide)]
  refine ⟨rfl, ?_⟩
  show (match s.loader.job with
    | some (g, i) => if g = h then none else some (g, i)
    | none => none) = _
  cases s.loader.job with
  | none => rfl
  | some j =>
    obtain ⟨g, i⟩ := j
    by_cases hg : g = h
    · simp [hg, Option.filter]
    · simp [hg, Option.filter]

theorem State.stopFollow_notices (s : State) (h : HeadId) :
    (s.stopFollow h).notices = if (s.head h).follow.state = .freeRun then s.notices
      else s.notices.raise (.followState h .freeRun (s.head h).follow.source 0) := by
  unfold State.stopFollow
  rw [State.raiseFreeRun_notices, State.head_modHead_same]
  rfl

section
variable (s : State) (h : HeadId)

/-- The state behind the first two steps of HEAD_OFF. -/
@[irreducible] def State.releasedOff : State := (s.clearSelections h).modHead h Head.switchedOff

theorem State.switchOff_eq : s.switchOff h =
    ((((s.releasedOff h).presentAtOff h).cancelShapes h).stopAnc h).stopFollow h := by
  unfold State.switchOff State.releasedOff
  rfl

theorem State.releasedOff_selection (p : Position) : (s.releasedOff h).selectionAt h p = .cleared := by
  have hcleared := s.clearSelections_cleared h p
  unfold State.releasedOff
  generalize s.clearSelections h = u at hcleared ⊢
  unfold State.selectionAt
  rw [State.head_modHead_same]
  exact hcleared

theorem State.releasedOff_head :
    ((s.releasedOff h).head h).presentPending = (s.head h).presentPending ∧
    ((s.releasedOff h).head h).boundaryCount = (s.head h).boundaryCount ∧
    ((s.releasedOff h).head h).follow = (s.head h).follow := by
  have hsame := (s.clearSelections_selection h).same
  unfold State.releasedOff
  generalize s.clearSelections h = u at hsame ⊢
  rw [State.head_modHead_same]
  exact ⟨(congrArg Head.presentPending hsame).trans rfl, (congrArg Head.boundaryCount hsame).trans rfl,
    (congrArg Head.follow hsame).trans rfl⟩

theorem State.releasedOff_only : OnlyChanges [.heads, .pool] s (s.releasedOff h) := by
  unfold State.releasedOff
  exact (s.clearSelections_only h).trans ((State.modHead_only _ _ _).weaken (by decide))

theorem State.switchOff_pool :
    (s.switchOff h).pool = (s.releaseAll (positions.filterMap fun p => (s.selectionAt h p).slot)).pool := by
  have hpresented := State.presentAtOff_pool (s.releasedOff_selection h)
  rw [State.switchOff_eq]
  generalize (s.releasedOff h).presentAtOff h = u at hpresented ⊢
  have hkept : (((u.cancelShapes h).stopAnc h).stopFollow h).pool = u.pool :=
    ((State.stopFollow_only _ h .pool (by decide)).trans (State.stopAnc_only _ h .pool (by decide))).trans
      (State.cancelShapes_only u h .pool (by decide))
  rw [hkept, hpresented]
  unfold State.releasedOff
  exact (State.modHead_pool _ h _).trans (s.clearSelections_pool h)

theorem State.switchOff_directory : SameDirectory s (s.switchOff h) := by
  rw [State.switchOff_eq]
  refine ((SameDirectory.of_only (s.releasedOff_only h) (by decide)).trans (State.presentAtOff_directory _ h)).trans
    ((State.cancelShapes_directory _ h).trans ?_)
  exact (SameDirectory.of_only (State.stopAnc_only _ h) (by decide)).trans
    (SameDirectory.of_only (State.stopFollow_only _ h) (by decide))

theorem State.switchOff_loader :
    (s.switchOff h).loader.queue = s.loader.queue.filter (fun e => decide (e.1 ≠ h)) ∧
    (s.switchOff h).loader.job = s.loader.job.filter (fun e => decide (e.1 ≠ h)) := by
  have hloader : ((s.releasedOff h).presentAtOff h).loader = s.loader :=
    (State.presentAtOff_only _ h .loader (by decide)).trans (s.releasedOff_only h .loader (by decide))
  rw [State.switchOff_eq, ← hloader]
  generalize (s.releasedOff h).presentAtOff h = u
  have hkept : (((u.cancelShapes h).stopAnc h).stopFollow h).loader = (u.cancelShapes h).loader :=
    (State.stopFollow_only _ h .loader (by decide)).trans (State.stopAnc_only _ h .loader (by decide))
  rw [hkept]
  exact State.cancelShapes_loader u h

theorem State.switchOff_notices :
    (s.switchOff h).notices =
      (if (s.head h).follow.state = .freeRun then id
        else fun q => q.raise (.followState h .freeRun (s.head h).follow.source 0))
      (if (s.head h).presentPending then s.notices.raise (.scenePresented h (s.head h).boundaryCount)
        else s.notices) := by
  obtain ⟨hpending, hcount, hfollow⟩ := s.releasedOff_head h
  have hstart : (s.releasedOff h).notices = s.notices := s.releasedOff_only h .notices (by decide)
  have hpresented := State.presentAtOff_notices (s.releasedOff h) h
  have hhead := congrArg Head.follow (State.presentAtOff_head (s.releasedOff h) h)
  rw [hpending, hcount, hstart] at hpresented
  rw [State.switchOff_eq]
  generalize (s.releasedOff h).presentAtOff h = u at hpresented hhead ⊢
  have hkept : ((u.cancelShapes h).stopAnc h).notices = u.notices :=
    (State.stopAnc_only _ h .notices (by decide)).trans (State.cancelShapes_only u h .notices (by decide))
  have hkeptHead : (((u.cancelShapes h).stopAnc h).head h).follow = (s.head h).follow := by
    rw [State.stopAnc_head, State.cancelShapes_head]
    exact hhead.trans hfollow
  rw [State.stopFollow_notices, hkept, hkeptHead, hpresented]
  by_cases hfree : (s.head h).follow.state = .freeRun
  · rw [if_pos hfree, if_pos hfree, id]
  · rw [if_neg hfree, if_neg hfree]

end

/-- Settles O31: HEAD_OFF, step by step. -/
theorem headOffStopsTheHead : Obligations.HeadOffStopsTheHead := by
  intro s r rest h a ht hp ha
  subst ha
  have hlen : LengthRule.allows (.exactly 1) r.payload.length = true := by rw [hp]; rfl
  have hbody : headOffBody r.payload (s.withRequests rest) =
      if (s.head h).state = .off then done (s.withRequests rest) else done ((s.withRequests rest).switchOff h) := by
    rw [hp]
    exact withIndex_byteOf h (by decide) _ _ _
  refine ⟨fun hoff => ?_, fun hon => ?_⟩
  · rw [if_pos hoff] at hbody
    exact performs_of_body rfl ht rfl hlen hbody rfl (OnlyChanges.refl _ _) trivial
  · rw [if_neg hon] at hbody
    have honly := State.switchOff_only (s.withRequests rest) h
    have hothers := State.switchOff_others (s.withRequests rest) h
    have hhead := State.switchOff_head (s.withRequests rest) h
    rw [State.clearSelections_selection_eq, ite_self] at hhead
    have hpool := State.switchOff_pool (s.withRequests rest) h
    have hdirectory := State.switchOff_directory (s.withRequests rest) h
    obtain ⟨hqueue, hjob⟩ := State.switchOff_loader (s.withRequests rest) h
    have hnotices := State.switchOff_notices (s.withRequests rest) h
    generalize (s.withRequests rest).switchOff h = u at hbody honly hothers hhead hpool hdirectory hqueue hjob hnotices
    obtain ⟨hready, hpins, hfree⟩ := State.releaseAll_pool (s.withRequests rest)
      (positions.filterMap fun p => ((s.withRequests rest).selectionAt h p).slot)
    refine performs_of_body rfl ht rfl hlen hbody (honly .link (by decide)) (honly.weaken (by decide))
      ⟨hothers, hhead, hqueue, hjob, fun held hheld => ⟨fun i => ?_, ?_⟩, (congrArg Pool.ready hpool).trans hready,
        (congrArg Pool.pins hpool).trans hpins, hdirectory.info, hnotices⟩
    · have hslot : u.slot i = Nat.iterate Slot.released (held.count i) (s.slot i) := by
        rw [hheld]
        exact (congrArg (fun v : Pool => v.slots[i]) hpool).trans (State.slot_releaseAll (s.withRequests rest) i _)
      exact ⟨hslot, (congrArg Slot.refs hslot).trans (Slot.refs_iterate_released _ _)⟩
    · rw [hheld]
      exact (congrArg Pool.freeList hpool).trans hfree

end Sys2Proof.Machine
end

section
/-! The requests that edit, reload and present the pending scene, and the use counts through them. -/

namespace Sys2Proof.Machine

/-! ### What a record names (R79) -/

theorem fallbackId_eq_some_iff {fb : Option Fallback} {i : LibId} :
    fallbackId fb = some i ↔ fb = some (.image i) := by
  rcases fb with _ | (j | c) <;> simp [fallbackId]

theorem WindowRecord.names_eq_some_iff (w : WindowRecord) (i : LibId) : w.names = some i ↔
    (∃ crop, w.content = .image i crop) ∨
    (∃ src policy onLoss crop freeze, w.content = .live src policy onLoss (some (.image i)) crop freeze) ∨
    ∃ pin onLoss crop, w.content = .pin pin onLoss (some (.image i)) crop := by
  unfold WindowRecord.names
  cases w.content with
  | image j crop => simp
  | live src policy onLoss fb crop freeze => simp [fallbackId_eq_some_iff]
  | pin pin onLoss fb crop => simp [fallbackId_eq_some_iff]
  | fill c => simp

theorem Entry.validOf_eq_some_iff (x : Entry) (k : EntryKind) (e : EntryInfo) :
    x.validOf k = some e ↔ e.kind = k ∧ ∃ uses, x = .valid e uses := by
  cases x with
  | valid info n =>
    simp only [Entry.validOf, Entry.valid.injEq, Option.ite_none_right_eq_some, Option.some.injEq]
    constructor
    · rintro ⟨hk, rfl⟩; exact ⟨hk, n, rfl, rfl⟩
    · rintro ⟨hk, _, rfl, _⟩; exact ⟨hk, rfl⟩
  | empty => simp [Entry.validOf]
  | receiving info n => simp [Entry.validOf]
  | verifying info => simp [Entry.validOf]

theorem State.namesImage_iff {s : State} {w : WindowRecord} :
    s.namesImage w = true ↔ ∀ i, w.names = some i → (s.entry i).validOf .image ≠ none := by
  unfold State.namesImage
  cases w.names with
  | none => simp
  | some i => simp [Option.isSome_iff_ne_none]

/-! ### The ledger through a change of scene -/

/-- An operation on one head that takes uses of some names and drops uses of others, as its head's names change. -/
theorem usesOk_renamed {s t : State} {h : HeadId} (ok : UsesOk s) (hothers : OtherHeads h s t)
    (plus minus : LibId → Nat) (huse : ∀ i, (t.entry i).useCount = (s.entry i).useCount + plus i - minus i)
    (hnames : ∀ i, (t.head h).namesOf i + minus i = (s.head h).namesOf i + plus i) : UsesOk t := by
  refine usesOk_of_head ok hothers fun i => ?_
  have htotal := usesOk_iff.1 ok i
  have hheld : (s.head h).namesOf i ≤ (s.entry i).useCount := by
    rcases headId_cases h with rfl | rfl <;> omega
  have hgain := hnames i
  rw [huse i]
  omega

theorem putPending_usesOk {s : State} (h : HeadId) (p : Position) {r : Option WindowRecord}
    (hvalid : ∀ i, namedAt r = some i → (s.entry i).isValid = true) (ok : UsesOk s) : UsesOk (s.putPending h p r) := by
  refine usesOk_renamed ok (s.putPending_others h p r) (fun i => [namedAt r].count (some i))
    (fun i => [namedAt (s.head h).pendingScene[p]].count (some i)) (fun i => ?_) fun i => ?_
  · unfold State.putPending
    rw [State.useCount_dropUseOf, State.useCount_addUseOf (s := s.modHead h _) hvalid]
    rfl
  · rw [State.putPending_head, Head.namesOf_eq, Head.namesOf_eq]
    have hset := Scene.count_names_set (s.head h).pendingScene p r i
    dsimp only
    omega

theorem State.putPending_directory (s : State) (h : HeadId) (p : Position) (r : Option WindowRecord) :
    SameDirectory s (s.putPending h p r) :=
  ((SameDirectory.of_only (s.modHead_only h _) (by decide)).trans (State.addUseOf_directory _ _)).trans
    (State.dropUseOf_directory _ _)

theorem reloadPending_usesOk {s : State} (h : HeadId) {sc : Scene}
    (hvalid : ∀ i, some i ∈ sc.names → (s.entry i).isValid = true) (ok : UsesOk s) :
    UsesOk (s.reloadPending h sc) := by
  refine usesOk_renamed ok (s.reloadPending_others h sc) (fun i => sc.names.count (some i))
    (fun i => (s.head h).pendingScene.names.count (some i)) (fun i => ?_) fun i => ?_
  · unfold State.reloadPending
    rw [State.dropSceneUses_eq, State.useCount_dropUses, State.addSceneUses_eq,
      State.useCount_addUses (s := s.modHead h _) i hvalid]
    rfl
  · rw [State.reloadPending_head, Head.namesOf_eq, Head.namesOf_eq]
    dsimp only
    omega

theorem State.reloadPending_directory (s : State) (h : HeadId) (sc : Scene) :
    SameDirectory s (s.reloadPending h sc) :=
  ((SameDirectory.of_only (s.modHead_only h _) (by decide)).trans (State.addSceneUses_directory _ _)).trans
    (State.dropSceneUses_directory _ _)

theorem Scene.names_allAbsent (i : LibId) : some i ∉ Scene.allAbsent.names := by
  rw [Scene.mem_names]
  rintro ⟨p, hp⟩
  rw [show Scene.allAbsent[p] = none from Vector.getElem_replicate p.isLt] at hp
  cases hp

/-- A swap carries the names of the pending scene over to the active one. -/
theorem swap_usesOk {s : State} (h : HeadId) (ok : UsesOk s) : UsesOk (s.swap h) := by
  have hpositions : OnlyChanges [.heads, .pool] s (positions.foldl (State.swapPosition h) s) :=
    OnlyChanges.foldl _ (State.swapPosition_only h) _ s
  refine usesOk_renamed ok (s.swap_others h) (fun i => (s.head h).pendingScene.names.count (some i))
    (fun i => (s.head h).activeScene.names.count (some i)) (fun i => ?_) fun i => ?_
  · unfold State.swap
    generalize positions.foldl (State.swapPosition h) s = u at hpositions ⊢
    have hentry : ∀ j, u.entry j = s.entry j := State.entry_of_only hpositions (by decide)
    have hvalid : ∀ j, some j ∈ (s.head h).pendingScene.names → (u.entry j).isValid = true := fun j hj => by
      rw [hentry]; exact UsesOk.isValid ok (Head.pending_mem_uses hj)
    dsimp only
    rw [State.dropSceneUses_eq, State.useCount_dropUses, State.addSceneUses_eq,
      State.useCount_addUses (s := u.modHead h _) i hvalid, State.entry_modHead, hentry]
  · rw [State.swap_head, Head.namesOf_eq, Head.namesOf_eq]
    dsimp only
    omega

/-! ### SCENE_PUT, SCENE_REMOVE and SCENE_RESTART (R75 to R77) -/

section
variable {h : HeadId} {s : State}

theorem scenePutBody_malformed {p : Position} {record : List Byte} (hbad : readRecord record = none) :
    scenePutBody (byteOf h.val :: byteOf p.val :: record) s = refuse .badValue s := by
  have hrecord : readRecord ((byteOf h.val :: byteOf p.val :: record).drop 2) = none := hbad
  refine (withIndex_byteOf h (by decide) _ _ _).trans ?_
  rw [hrecord]
  split
  · rename_i hsome; cases hsome
  · rfl

theorem scenePutBody_eq {p : Position} {record : List Byte} {w : WindowRecord} (hread : readRecord record = some w) :
    scenePutBody (byteOf h.val :: byteOf p.val :: record) s =
      if (s.head h).presentPending then refuse .busy s
      else if s.namesImage w then done (s.putPending h p (some w))
      else refuse .notFound s := by
  have hrecord : readRecord ((byteOf h.val :: byteOf p.val :: record).drop 2) = some w := hread
  have hposition : finOf 12 (byteAt (byteOf h.val :: byteOf p.val :: record) 1) = some p := finOf_byteOf p (by decide)
  refine (withIndex_byteOf h (by decide) _ _ _).trans ?_
  rw [hrecord, hposition]

theorem sceneRemoveBody_eq (p : Position) :
    sceneRemoveBody [byteOf h.val, byteOf p.val] s =
      if (s.head h).presentPending then refuse .busy s else done (s.putPending h p none) := by
  have hposition : finOf 12 (byteAt [byteOf h.val, byteOf p.val] 1) = some p := finOf_byteOf p (by decide)
  refine (withIndex_byteOf h (by decide) _ _ _).trans ?_
  rw [hposition]

theorem sceneRestartBody_eq (empty : Bool) :
    sceneRestartBody [byteOf h.val, flagByte empty] s =
      if (s.head h).presentPending then refuse .busy s
      else done (s.reloadPending h (if empty then .allAbsent else (s.head h).activeScene)) := by
  have hflag : flagOf (byteAt [byteOf h.val, flagByte empty] 1) = some empty := flagOf_flagByte empty
  refine (withIndex_byteOf h (by decide) _ _ _).trans ?_
  rw [hflag]

end

/-- Settles O32: what a record names, and the three edits of a pending scene. -/
theorem pendingSceneEdits : Obligations.PendingSceneEdits := by
  refine ⟨WindowRecord.names_eq_some_iff, Entry.validOf_eq_some_iff, ?_⟩
  intro s r rest h a ha ok
  subst ha
  refine ⟨fun ht p record hrecord hp => ?_, fun ht p hp => ?_, fun ht empty hp => ?_⟩
  · have hlen : LengthRule.allows (.exactly 37) r.payload.length = true := by simp [hp, hrecord, LengthRule.allows]
    refine ⟨fun hbad => ?_, fun w hread => ?_⟩
    · exact refuses_of_body rfl ht rfl hlen (by rw [hp]; exact scenePutBody_malformed hbad)
    · have hbody := scenePutBody_eq (h := h) (s := s.withRequests rest) (p := p) hread
      rw [← hp] at hbody
      refine ⟨fun hpending => ?_, fun hidle ⟨i, hi, hnot⟩ => ?_, fun hidle himage => ?_⟩
      · exact refuses_of_body rfl ht rfl hlen (hbody.trans (if_pos hpending))
      · refine refuses_of_body rfl ht rfl hlen ((hbody.trans (if_neg (Bool.eq_false_iff.1 hidle))).trans (if_neg ?_))
        exact fun hnames => State.namesImage_iff.1 hnames i hi hnot
      · have honly := State.putPending_only (s.withRequests rest) h p (some w)
        refine performs_of_body rfl ht rfl hlen
          ((hbody.trans (if_neg (Bool.eq_false_iff.1 hidle))).trans (if_pos (State.namesImage_iff.2 himage)))
          (honly .link (by decide)) honly ⟨State.putPending_others (s.withRequests rest) h p (some w),
            State.putPending_head (s.withRequests rest) h p (some w), ?_,
            (State.putPending_directory (s.withRequests rest) h p (some w)).info⟩
        exact putPending_usesOk (s := s.withRequests rest) h p
          (fun i hi => Entry.isValid_of_validOf (himage i hi)) ok
  · have hlen : LengthRule.allows (.exactly 2) r.payload.length = true := by rw [hp]; rfl
    have hbody := sceneRemoveBody_eq (h := h) (s := s.withRequests rest) p
    rw [← hp] at hbody
    refine ⟨fun hpending => ?_, fun hidle => ?_⟩
    · exact refuses_of_body rfl ht rfl hlen (hbody.trans (if_pos hpending))
    · have honly := State.putPending_only (s.withRequests rest) h p none
      exact performs_of_body rfl ht rfl hlen (hbody.trans (if_neg (Bool.eq_false_iff.1 hidle)))
        (honly .link (by decide)) honly ⟨State.putPending_others (s.withRequests rest) h p none,
          State.putPending_head (s.withRequests rest) h p none,
          putPending_usesOk (s := s.withRequests rest) h p nofun ok,
          (State.putPending_directory (s.withRequests rest) h p none).info⟩
  · have hlen : LengthRule.allows (.exactly 2) r.payload.length = true := by rw [hp]; rfl
    have hbody := sceneRestartBody_eq (h := h) (s := s.withRequests rest) empty
    rw [← hp] at hbody
    refine ⟨fun hpending => ?_, fun hidle => ?_⟩
    · exact refuses_of_body rfl ht rfl hlen (hbody.trans (if_pos hpending))
    · have hvalid : ∀ i, some i ∈ Scene.names (if empty then .allAbsent else (s.head h).activeScene) →
          (s.entry i).isValid = true := by
        intro i hi
        cases empty with
        | true => exact absurd hi (Scene.names_allAbsent i)
        | false => exact UsesOk.isValid ok (Head.active_mem_uses hi)
      have honly := State.reloadPending_only (s.withRequests rest) h
        (if empty then .allAbsent else (s.head h).activeScene)
      exact performs_of_body rfl ht rfl hlen (hbody.trans (if_neg (Bool.eq_false_iff.1 hidle)))
        (honly .link (by decide)) honly ⟨State.reloadPending_others (s.withRequests rest) h _,
          State.reloadPending_head (s.withRequests rest) h _,
          reloadPending_usesOk (s := s.withRequests rest) h hvalid ok,
          (State.reloadPending_directory (s.withRequests rest) h _).info⟩

/-! ### SCENE_PRESENT (R83) -/

theorem scenePresentBody_eq {h : HeadId} {s : State} :
    scenePresentBody [byteOf h.val] s =
      if (s.head h).presentPending then refuse .busy s
      else match s.validate (s.head h).timing (s.head h).pendingScene with
        | some f => (invalidScene f, s)
        | none =>
          if (s.head h).state = .off then done (s.swapOff h)
          else (⟨.accepted, []⟩, s.modHead h fun hd => { hd with presentPending := true }) :=
  withIndex_byteOf h (by decide) _ _ _

theorem State.swapOff_directory (s : State) (h : HeadId) : SameDirectory s (s.swapOff h) :=
  (s.swap_directory h).trans (SameDirectory.of_only (State.modHead_only _ h _) (by decide))

theorem swapOff_usesOk {s : State} (h : HeadId) (ok : UsesOk s) : UsesOk (s.swapOff h) := by
  refine usesOk_of_only (State.modHead_only (s.swap h) h _) (by decide) (fun g i => ?_) (swap_usesOk h ok)
  unfold State.swapOff
  by_cases hg : g = h
  · subst hg; rw [State.head_modHead_same]; rfl
  · rw [State.head_modHead_other _ _ hg]

/-- Settles O33: the answers of SCENE_PRESENT, and the swap of an OFF head. -/
theorem scenePresentSwapsOrWaits : Obligations.ScenePresentSwapsOrWaits := by
  refine ⟨⟨rfl, rfl, rfl, rfl, rfl⟩, ?_⟩
  intro s r rest h a ht hp ha
  subst ha
  have hlen : LengthRule.allows (.exactly 1) r.payload.length = true := by rw [hp]; rfl
  have hbody := scenePresentBody_eq (h := h) (s := s.withRequests rest)
  rw [← hp] at hbody
  refine ⟨fun hpending => ?_, fun hidle => ?_⟩
  · exact refuses_of_body rfl ht rfl hlen (hbody.trans (if_pos hpending))
  · replace hbody := hbody.trans (if_neg (Bool.eq_false_iff.1 hidle))
    rw [State.validate_withRequests, show (s.withRequests rest).head h = s.head h from rfl] at hbody
    refine ⟨fun k why hinvalid => ?_, fun hvalid hon => ?_, fun hvalid hoff hrefs ok => ?_⟩
    · rw [hinvalid] at hbody
      exact performs_of_body rfl ht rfl hlen hbody rfl (OnlyChanges.refl _ _) trivial
    · rw [hvalid] at hbody
      exact performs_of_body rfl ht rfl hlen (hbody.trans (if_neg hon)) rfl (State.modHead_only _ h _)
        ⟨State.modHead_others (s.withRequests rest) h fun hd => { hd with presentPending := true },
          State.head_modHead_same (s.withRequests rest) h fun hd => { hd with presentPending := true }⟩
    · rw [hvalid] at hbody
      have hcleared : ∀ p, (s.withRequests rest).selectionAt h p = .cleared := fun p =>
        hrefs.2.2 h p (.inl hoff)
      have honly := State.swapOff_only (s.withRequests rest) h
      exact performs_of_body rfl ht rfl hlen (hbody.trans (if_pos hoff)) (honly .link (by decide))
        (honly.weaken (by decide)) ⟨State.swapOff_others (s.withRequests rest) h,
          State.swapOff_head (s.withRequests rest) h, State.swap_pool_of_cleared hcleared,
          swapOff_usesOk (s := s.withRequests rest) h ok, (State.swapOff_directory (s.withRequests rest) h).info⟩

end Sys2Proof.Machine
end

section
/-! Validation of a scene: each test as the failure it looks for, the first failure of a position and of a scene, and
what a valid scene looks like on the screen. -/

namespace Sys2Proof.Machine

/-! ### The four tests (R81, R82) -/

theorem scaleInRange_iff {w h : Nat} {dest : Rect} : scaleInRange w h dest = true ↔ RatiosFit w h dest := by
  simp only [scaleInRange, ratioInRange, Bool.and_eq_true, decide_eq_true_eq]

theorem insideActive_iff {t : Timing} {d : Rect} :
    insideActive t d = true ↔ d.x + d.w ≤ t.activeWidth ∧ d.y + d.h ≤ t.activeLines := by
  simp only [insideActive, Bool.and_eq_true, decide_eq_true_eq]

theorem cropScaleOk_iff {crop : Option Rect} {dest : Rect} :
    cropScaleOk crop dest = true ↔ ∀ c, crop = some c → RatiosFit c.w c.h dest := by
  cases crop with
  | none => simp [cropScaleOk]
  | some c => simp [cropScaleOk, scaleInRange_iff]

theorem State.imageScaleOk_iff {s : State} {o : Option LibId} {dest : Rect} : s.imageScaleOk o dest = true ↔
    ∀ i e, o = some i → (s.entry i).info? = some e → RatiosFit e.width e.height dest := by
  cases o with
  | none => simp [State.imageScaleOk]
  | some i =>
    unfold State.imageScaleOk
    dsimp only
    cases hinfo : (s.entry i).info? with
    | none =>
      simp only [true_iff]
      rintro j e ⟨⟩ he
      rw [hinfo] at he
      cases he
    | some e =>
      simp only [scaleInRange_iff]
      constructor
      · rintro hfit j e' ⟨⟩ he
        rw [hinfo] at he
        cases he
        exact hfit
      · exact fun hall => hall i e rfl hinfo

section
variable {s : State} {t : Timing} {sc : Scene} {p : Position} {r : WindowRecord}

theorem State.failsTest_outside_iff :
    s.FailsTest t sc p r .outside ↔ insideActive t r.destination = false := by
  rw [← Bool.not_eq_true, insideActive_iff]
  show _ ∨ _ ↔ _
  omega

/-- SCALE looks at a crop, and at an image that is drawn whole as content or as fallback. -/
theorem State.scaleOk_iff : s.scaleOk r = true ↔
    (∀ c, r.content.crop = some c → RatiosFit c.w c.h r.destination) ∧
    ∀ i e, r.content = .image i none ∨ r.content.fallback = some (.image i) → (s.entry i).info? = some e →
      RatiosFit e.width e.height r.destination := by
  unfold State.scaleOk
  cases r.content with
  | live src policy onLoss fb crop freeze =>
    simp [cropScaleOk_iff, State.imageScaleOk_iff, fallbackId_eq_some_iff, Content.crop, Content.fallback]
  | pin pin onLoss fb crop =>
    simp [cropScaleOk_iff, State.imageScaleOk_iff, fallbackId_eq_some_iff, Content.crop, Content.fallback]
  | image i crop =>
    cases crop with
    | none => simp [State.imageScaleOk_iff, Content.crop, Content.fallback]
    | some c => simp [scaleInRange_iff, Content.crop, Content.fallback]
  | fill c => simp [Content.crop, Content.fallback]

theorem State.failsTest_scale_iff : s.FailsTest t sc p r .scale ↔ s.scaleOk r = false := by
  rw [← Bool.not_eq_true, State.scaleOk_iff]
  unfold State.FailsTest
  dsimp only
  constructor
  · rintro (⟨c, hc, hout⟩ | ⟨i, e, hnames, he, hout⟩) ⟨hcrop, himage⟩
    · exact hout (hcrop c hc)
    · exact hout (himage i e hnames he)
  · intro hnot
    by_contra hnone
    rw [not_or] at hnone
    exact hnot ⟨fun c hc => by_contra fun hout => hnone.1 ⟨c, hc, hout⟩,
      fun i e hnames he => by_contra fun hout => hnone.2 ⟨i, e, hnames, he, hout⟩⟩

theorem State.failsTest_imageBounds_iff : s.FailsTest t sc p r .imageBounds ↔ s.imageBoundsOk r = false := by
  unfold State.FailsTest State.imageBoundsOk
  dsimp only
  cases r.content with
  | live src policy onLoss fb crop freeze => simp
  | pin pin onLoss fb crop => simp
  | fill c => simp
  | image i crop =>
    cases crop with
    | none => simp
    | some c =>
      dsimp only
      cases hinfo : (s.entry i).info? with
      | none =>
        simp only [Content.image.injEq, Option.some.injEq]
        refine ⟨?_, nofun⟩
        rintro ⟨_, _, e, ⟨rfl, rfl⟩, he, -⟩
        rw [hinfo] at he
        cases he
      | some e =>
        simp only [Content.image.injEq, Option.some.injEq, Bool.and_eq_false_iff, decide_eq_false_iff_not, Nat.not_le]
        constructor
        · rintro ⟨_, _, e', ⟨rfl, rfl⟩, he, hout⟩
          rw [hinfo] at he
          cases he
          exact hout
        · exact fun hout => ⟨i, c, e, ⟨rfl, rfl⟩, hinfo, hout⟩

theorem intersects_iff {a b : Rect} : intersects a b = true ↔
    a.x < b.x + b.w ∧ b.x < a.x + a.w ∧ a.y < b.y + b.h ∧ b.y < a.y + a.h := by
  simp only [intersects, Bool.and_eq_true, decide_eq_true_eq, and_assoc]

theorem State.failsTest_overlap_iff : s.FailsTest t sc p r .overlap ↔ overlapsLower sc p r = true := by
  unfold State.FailsTest overlapsLower
  dsimp only
  rw [List.any_eq_true]
  constructor
  · rintro ⟨q, o, hlower, ho, hlayer, hmeet⟩
    refine ⟨q, mem_positions q, ?_⟩
    rw [ho, Bool.and_eq_true, decide_eq_true_eq, Bool.and_eq_true, decide_eq_true_eq, intersects_iff]
    exact ⟨hlower, hlayer, hmeet⟩
  · rintro ⟨q, -, hq⟩
    rw [Bool.and_eq_true, decide_eq_true_eq] at hq
    obtain ⟨hlower, hq⟩ := hq
    cases ho : sc[q] with
    | none => rw [ho] at hq; cases hq
    | some o =>
      rw [ho, Bool.and_eq_true, decide_eq_true_eq, intersects_iff] at hq
      exact ⟨q, o, hlower, ho, hq.1, hq.2⟩

/-! ### The first test that a position fails (R80) -/

/-- The first test that a record fails is `why`. -/
def State.FailsFirst (s : State) (t : Timing) (sc : Scene) (p : Position) (r : WindowRecord) (why : Reason) : Prop :=
  s.FailsTest t sc p r why ∧ ∀ first : Reason, first.byte.toNat < why.byte.toNat → ¬ s.FailsTest t sc p r first

theorem State.FailsFirst.unique {why why' : Reason} (h : s.FailsFirst t sc p r why) (h' : s.FailsFirst t sc p r why') :
    why = why' := by
  have hle : ¬ why.byte.toNat < why'.byte.toNat := fun hlt => h'.2 why hlt h.1
  have hge : ¬ why'.byte.toNat < why.byte.toNat := fun hlt => h.2 why' hlt h'.1
  have hinjective : ∀ a b : Reason, ¬ a.byte.toNat < b.byte.toNat → ¬ b.byte.toNat < a.byte.toNat → a = b := by
    intro a b
    cases a <;> cases b <;> decide
  exact hinjective why why' hle hge

/-- The model's fault of a position is the first test that it fails. -/
theorem State.positionFault_spec : match s.positionFault t sc p r with
    | some why => s.FailsFirst t sc p r why
    | none => ∀ why, ¬ s.FailsTest t sc p r why := by
  have hnever : ¬ s.FailsTest t sc p r .noTiming := id
  unfold State.positionFault
  cases hout : insideActive t r.destination with
  | false =>
    refine ⟨State.failsTest_outside_iff.2 hout, fun first hfirst => ?_⟩
    cases first with
    | noTiming => exact hnever
    | _ => exact absurd hfirst (by decide)
  | true =>
    have hinside : ¬ s.FailsTest t sc p r .outside := by rw [State.failsTest_outside_iff, hout]; nofun
    cases hscale : s.scaleOk r with
    | false =>
      refine ⟨State.failsTest_scale_iff.2 hscale, fun first hfirst => ?_⟩
      cases first with
      | noTiming | outside => assumption
      | _ => exact absurd hfirst (by decide)
    | true =>
      have hfits : ¬ s.FailsTest t sc p r .scale := by rw [State.failsTest_scale_iff, hscale]; nofun
      cases hbounds : s.imageBoundsOk r with
      | false =>
        refine ⟨State.failsTest_imageBounds_iff.2 hbounds, fun first hfirst => ?_⟩
        cases first with
        | noTiming | outside | scale => assumption
        | _ => exact absurd hfirst (by decide)
      | true =>
        have hwithin : ¬ s.FailsTest t sc p r .imageBounds := by rw [State.failsTest_imageBounds_iff, hbounds]; nofun
        cases hover : overlapsLower sc p r with
        | true =>
          refine ⟨State.failsTest_overlap_iff.2 hover, fun first hfirst => ?_⟩
          cases first with
          | noTiming | outside | scale | imageBounds => assumption
          | _ => exact absurd hfirst (by decide)
        | false =>
          have hapart : ¬ s.FailsTest t sc p r .overlap := by rw [State.failsTest_overlap_iff, hover]; nofun
          intro why
          cases why <;> assumption

theorem State.positionFault_eq_none_iff : s.positionFault t sc p r = none ↔ ∀ why, ¬ s.FailsTest t sc p r why := by
  have hspec := State.positionFault_spec (s := s) (t := t) (sc := sc) (p := p) (r := r)
  cases hfault : s.positionFault t sc p r with
  | none => rw [hfault] at hspec; exact ⟨fun _ => hspec, fun _ => rfl⟩
  | some why => rw [hfault] at hspec; exact ⟨nofun, fun hnone => absurd hspec.1 (hnone why)⟩

theorem State.positionFault_eq_some_iff {why : Reason} :
    s.positionFault t sc p r = some why ↔ s.FailsFirst t sc p r why := by
  have hspec := State.positionFault_spec (s := s) (t := t) (sc := sc) (p := p) (r := r)
  cases hfault : s.positionFault t sc p r with
  | none => rw [hfault] at hspec; exact ⟨nofun, fun hfails => absurd hfails.1 (hspec why)⟩
  | some other =>
    rw [hfault] at hspec
    constructor
    · rintro ⟨⟩; exact hspec
    · exact fun hfails => congrArg some (State.FailsFirst.unique hspec hfails)

/-! ### The first position that fails (R80) -/

theorem State.firstFault_eq_none_iff {ps : List Position} : s.firstFault t sc ps = none ↔
    ∀ p ∈ ps, ∀ w, sc[p] = some w → s.positionFault t sc p w = none := by
  induction ps with
  | nil => exact ⟨fun _ => nofun, fun _ => rfl⟩
  | cons p ps ih =>
    unfold State.firstFault
    rw [List.forall_mem_cons, ← ih]
    cases hrecord : sc[p] with
    | none => simp
    | some w =>
      cases hfault : s.positionFault t sc p w with
      | none => simp [hfault]
      | some why => simp [hfault]

theorem State.firstFault_eq_some_iff {k : Nat} {why : Reason} {ps : List Position} (hsorted : ps.Pairwise (· < ·)) :
    s.firstFault t sc ps = some (k, why) ↔ ∃ p ∈ ps, ∃ w, k = p.val ∧ sc[p] = some w ∧
      s.positionFault t sc p w = some why ∧
      ∀ q ∈ ps, q < p → ∀ v, sc[q] = some v → s.positionFault t sc q v = none := by
  induction ps with
  | nil => simp [State.firstFault]
  | cons p ps ih =>
    obtain ⟨hbelow, hsorted⟩ := List.pairwise_cons.1 hsorted
    have hskip : (∀ v, sc[p] = some v → s.positionFault t sc p v = none) →
        ((∃ q ∈ p :: ps, ∃ w, k = q.val ∧ sc[q] = some w ∧ s.positionFault t sc q w = some why ∧
          ∀ q' ∈ p :: ps, q' < q → ∀ v, sc[q'] = some v → s.positionFault t sc q' v = none) ↔
        ∃ q ∈ ps, ∃ w, k = q.val ∧ sc[q] = some w ∧ s.positionFault t sc q w = some why ∧
          ∀ q' ∈ ps, q' < q → ∀ v, sc[q'] = some v → s.positionFault t sc q' v = none) := by
      intro hgood
      constructor
      · rintro ⟨q, hq, w, hk, hw, hfault, hlower⟩
        rcases List.mem_cons.1 hq with rfl | hq
        · rw [hgood w hw] at hfault; cases hfault
        · exact ⟨q, hq, w, hk, hw, hfault, fun q' hq' => hlower q' (List.mem_cons_of_mem _ hq')⟩
      · rintro ⟨q, hq, w, hk, hw, hfault, hlower⟩
        refine ⟨q, List.mem_cons_of_mem _ hq, w, hk, hw, hfault, fun q' hq' hlt => ?_⟩
        rcases List.mem_cons.1 hq' with rfl | hq'
        · exact hgood
        · exact hlower q' hq' hlt
    unfold State.firstFault
    cases hrecord : sc[p] with
    | none =>
      rw [hskip (by rw [hrecord]; nofun)]
      exact ih hsorted
    | some w =>
      dsimp only
      cases hfault : s.positionFault t sc p w with
      | none =>
        rw [hskip (by rw [hrecord]; rintro v ⟨⟩; exact hfault)]
        exact ih hsorted
      | some first =>
        constructor
        · rintro ⟨⟩
          refine ⟨p, List.mem_cons_self, w, rfl, hrecord, hfault, fun q hq hlt => ?_⟩
          rcases List.mem_cons.1 hq with rfl | hq
          · exact absurd hlt (lt_irrefl _)
          · exact absurd hlt (lt_asymm (hbelow q hq))
        · rintro ⟨q, hq, v, hk, hv, hother, hlower⟩
          rcases List.mem_cons.1 hq with rfl | hq
          · rw [hrecord] at hv
            cases hv
            rw [hfault] at hother
            cases hother
            rw [hk]
          · have hnone := hlower p List.mem_cons_self (hbelow q hq) w hrecord
            rw [hfault] at hnone
            cases hnone

end

theorem positions_sorted : positions.Pairwise (· < ·) := by decide

/-- Two windows that share a pixel meet. -/
theorem intersects_of_has {a b : Rect} {x y : Nat} (ha : a.has x y = true) (hb : b.has x y = true) :
    a.x < b.x + b.w ∧ b.x < a.x + a.w ∧ a.y < b.y + b.h ∧ b.y < a.y + a.h := by
  simp only [Rect.has, Bool.and_eq_true, decide_eq_true_eq] at ha hb
  omega

/-- Settles O34: validity and the first failure, and the two consequences on the screen. -/
theorem validScenesFitAndDoNotOverlap : Obligations.ValidScenesFitAndDoNotOverlap := by
  refine fun s sc => ⟨rfl, fun t => ?_⟩
  have hvalid : s.validate (some t) sc = none ↔ ∀ p w why, sc[p] = some w → ¬ s.FailsTest t sc p w why := by
    refine State.firstFault_eq_none_iff.trans ⟨fun hall p w why hw => ?_, fun hall p _ w hw => ?_⟩
    · exact State.positionFault_eq_none_iff.1 (hall p (mem_positions p) w hw) why
    · exact State.positionFault_eq_none_iff.2 fun why => hall p w why hw
  refine ⟨hvalid, fun k why => ?_, fun hnone => ⟨fun p w hw => ?_, ?_⟩⟩
  · refine (State.firstFault_eq_some_iff positions_sorted).trans ⟨?_, ?_⟩
    · rintro ⟨p, -, w, hk, hw, hfault, hlower⟩
      obtain ⟨hfails, hfirst⟩ := State.positionFault_eq_some_iff.1 hfault
      exact ⟨p, w, hk, hw, hfails, hfirst, fun q v other hlt hv =>
        State.positionFault_eq_none_iff.1 (hlower q (mem_positions q) hlt v hv) other⟩
    · rintro ⟨p, w, hk, hw, hfails, hfirst, hlower⟩
      exact ⟨p, mem_positions p, w, hk, hw, State.positionFault_eq_some_iff.2 ⟨hfails, hfirst⟩,
        fun q _ hlt v hv => State.positionFault_eq_none_iff.2 fun other => hlower q v other hlt hv⟩
  · have hinside := hvalid.1 hnone p w .outside hw
    rw [State.failsTest_outside_iff, Bool.not_eq_false, insideActive_iff] at hinside
    exact hinside
  · have hordered : ∀ (p q : Position) (w v : WindowRecord) (x y : Nat), q < p → sc[p] = some w → sc[q] = some v →
        w.layer = v.layer → ¬(w.destination.has x y = true ∧ v.destination.has x y = true) := by
      rintro p q w v x y hlt hw hv hlayer ⟨hwx, hvx⟩
      exact hvalid.1 hnone p w .overlap hw ⟨q, v, hlt, hv, hlayer.symm, intersects_of_has hwx hvx⟩
    intro p q w v x y hne hw hv hlayer hshare
    rcases lt_or_gt_of_ne hne with hlt | hlt
    · exact hordered q p v w x y hlt hv hw hlayer.symm ⟨hshare.2, hshare.1⟩
    · exact hordered p q w v x y hlt hw hv hlayer hshare

end Sys2Proof.Machine
end

section
/-! The picture of a head: the windows over a pixel as one list in layer order, blending, and the cursor. -/

namespace Sys2Proof.Machine

/-! ### The windows that cover a pixel -/

section
variable (s : State) (h : HeadId) (x y : Nat)

/-- The window at a position, if it is on a layer and covers the pixel. -/
def State.windowOn (layer : Nat) (p : Position) : Option (Position × WindowRecord) :=
  ((s.head h).activeScene[p]).bind fun r =>
    if r.layer = layer ∧ r.destination.has x y = true then some (p, r) else none

/-- The windows over a pixel, in the order in which they are laid over it. -/
def State.windowsOver : List (Position × WindowRecord) :=
  (List.range 16).flatMap fun layer => positions.filterMap (s.windowOn h x y layer)

variable {s h x y}

theorem State.windowOn_eq_some_iff {layer : Nat} {p : Position} {a : Position × WindowRecord} :
    s.windowOn h x y layer p = some a ↔
      a.1 = p ∧ (s.head h).activeScene[p] = some a.2 ∧ a.2.layer = layer ∧ a.2.destination.has x y = true := by
  obtain ⟨q, r⟩ := a
  unfold State.windowOn
  rw [Option.bind_eq_some_iff]
  constructor
  · rintro ⟨w, hw, hon⟩
    rw [Option.ite_none_right_eq_some] at hon
    obtain ⟨⟨hlayer, hcovers⟩, heq⟩ := hon
    cases heq
    exact ⟨rfl, hw, hlayer, hcovers⟩
  · rintro ⟨rfl, hw, hlayer, hcovers⟩
    exact ⟨r, hw, if_pos ⟨hlayer, hcovers⟩⟩

theorem State.layerPixel_eq (d : DrawnFrame) (layer : Nat) (beneath : Triple) (p : Position) :
    s.layerPixel h d x y layer beneath p = match s.windowOn h x y layer p with
      | some a => s.windowPixel h d a.1 a.2 x y beneath
      | none => beneath := by
  unfold State.layerPixel State.windowOn
  cases (s.head h).activeScene[p] with
  | none => rfl
  | some r =>
    dsimp only [Option.bind_some]
    by_cases hon : r.layer = layer ∧ r.destination.has x y = true
    · rw [if_pos hon, if_pos hon]
    · rw [if_neg hon, if_neg hon]

theorem State.composed_eq (d : DrawnFrame) : s.composed h d x y =
    (s.windowsOver h x y).foldl (fun beneath a => s.windowPixel h d a.1 a.2 x y beneath) d.background := by
  unfold State.composed State.windowsOver
  rw [List.foldl_flatMap]
  congr 1
  funext c layer
  rw [List.foldl_filterMap]
  refine List.foldl_ext _ _ _ fun c p _ => ?_
  rw [State.layerPixel_eq]
  cases s.windowOn h x y layer p <;> rfl

theorem State.mem_windowsOver_iff {a : Position × WindowRecord} : a ∈ s.windowsOver h x y ↔
    (s.head h).activeScene[a.1] = some a.2 ∧ a.2.layer < 16 ∧ a.2.destination.has x y = true := by
  unfold State.windowsOver
  simp only [List.mem_flatMap, List.mem_filterMap, List.mem_range, State.windowOn_eq_some_iff]
  constructor
  · rintro ⟨layer, hlt, p, -, rfl, hw, rfl, hcovers⟩
    exact ⟨hw, hlt, hcovers⟩
  · rintro ⟨hw, hlt, hcovers⟩
    exact ⟨a.2.layer, hlt, a.1, mem_positions a.1, rfl, hw, rfl, hcovers⟩

/-- The order in which windows are laid over a pixel: by layer, and within a layer by position. -/
theorem State.windowsOver_sorted : (s.windowsOver h x y).Pairwise fun a b =>
    a.2.layer < b.2.layer ∨ (a.2.layer = b.2.layer ∧ a.1 ≠ b.1) := by
  unfold State.windowsOver
  rw [List.pairwise_flatMap]
  refine ⟨fun layer _ => ?_, List.pairwise_lt_range.imp ?_⟩
  · rw [List.pairwise_filterMap]
    refine positions_nodup.imp fun {p q} hne a ha b hb => .inr ?_
    obtain ⟨rfl, -, halayer, -⟩ := State.windowOn_eq_some_iff.1 ha
    obtain ⟨rfl, -, hblayer, -⟩ := State.windowOn_eq_some_iff.1 hb
    exact ⟨halayer.trans hblayer.symm, hne⟩
  · intro k l hlt a ha b hb
    simp only [List.mem_filterMap, State.windowOn_eq_some_iff] at ha hb
    obtain ⟨p, -, -, -, rfl, -⟩ := ha
    obtain ⟨q, -, -, -, rfl, -⟩ := hb
    exact .inl hlt

end

/-- Two lists in strict order of a key with the same members are the same. -/
theorem List.eq_of_strictOrder {α : Type} {key : α → Nat} {l m : List α} (hl : l.Pairwise fun a b => key a < key b)
    (hm : m.Pairwise fun a b => key a < key b) (hmem : ∀ a, a ∈ l ↔ a ∈ m) : l = m := by
  have hnodup : ∀ {k : List α}, (k.Pairwise fun a b => key a < key b) → k.Nodup := fun hk =>
    hk.imp fun hlt e => absurd (e ▸ hlt) (lt_irrefl _)
  exact List.Perm.eq_of_pairwise (fun a b _ _ hab hba => absurd hab (lt_asymm hba)) hl hm
    ((List.perm_ext_iff_of_nodup (hnodup hl) (hnodup hm)).2 hmem)

/-- A list of the windows over a pixel, strictly by layer, is the order in which they are laid. -/
theorem State.windowsOver_eq {s : State} {h : HeadId} {x y : Nat} {windows : List (Position × WindowRecord)}
    (hlow : ∀ (p : Position) (w : WindowRecord), (s.head h).activeScene[p] = some w → w.layer < 16)
    (hmem : ∀ p w, (p, w) ∈ windows ↔ (s.head h).activeScene[p] = some w ∧ w.destination.has x y = true)
    (hstrict : windows.Pairwise fun a b => a.2.layer < b.2.layer) : s.windowsOver h x y = windows := by
  have hsame : ∀ a, a ∈ s.windowsOver h x y ↔ a ∈ windows := fun a => by
    rw [State.mem_windowsOver_iff, hmem]
    exact ⟨fun ⟨hw, _, hcovers⟩ => ⟨hw, hcovers⟩, fun ⟨hw, hcovers⟩ => ⟨hw, hlow _ _ hw, hcovers⟩⟩
  refine List.eq_of_strictOrder (key := fun a => a.2.layer) ?_ hstrict hsame
  refine State.windowsOver_sorted.imp_of_mem fun {a b} ha hb horder => horder.resolve_right ?_
  rintro ⟨hlayer, hne⟩
  have hsymm : Std.Symm fun c e : Position × WindowRecord => c.2.layer ≠ e.2.layer := ⟨fun _ _ => Ne.symm⟩
  have hapart := (hstrict.imp fun hlt => Nat.ne_of_lt hlt).forall ((hsame a).1 ha) ((hsame b).1 hb)
    fun e => hne (congrArg Prod.fst e)
  exact hapart hlayer

/-! ### Blending (R94) -/

theorem blendByte_toNat {a : Nat} (ha : a ≤ 16) (w b : Byte) :
    (blendByte a w b).toNat = (a * w.toNat + (16 - a) * b.toNat + 8) / 16 := by
  have hw : a * w.toNat ≤ a * 255 := Nat.mul_le_mul_left a (Nat.le_of_lt_succ w.isLt)
  have hb : (16 - a) * b.toNat ≤ (16 - a) * 255 := Nat.mul_le_mul_left _ (Nat.le_of_lt_succ b.isLt)
  have hsmall : (a * w.toNat + (16 - a) * b.toNat + 8) / 16 < 256 := by omega
  unfold blendByte
  rw [byteOf_toNat, Nat.mod_eq_of_lt hsmall]

theorem blendByte_opaque (w b : Byte) : blendByte 16 w b = w := by
  refine BitVec.eq_of_toNat_eq ?_
  rw [blendByte_toNat (Nat.le_refl 16)]
  omega

theorem blend_opaque (w b : Triple) : blend 16 w b = w := by
  unfold blend
  rw [blendByte_opaque, blendByte_opaque, blendByte_opaque]

theorem inverted_toNat (c : Byte) : (255 - c).toNat = 255 - c.toNat := by
  have hlt := c.isLt
  rw [BitVec.toNat_sub]
  show (2 ^ 8 - c.toNat + 255) % 2 ^ 8 = 255 - c.toNat
  omega

/-! ### The cursor over the picture (R139, Table 7-3) -/

theorem Shape.valueAt_eq (sh : Shape) (sx sy : Nat) : sh.valueAt sx sy =
    (byteAt sh.bytes (sy * (sh.width / 4) + sx / 4)).toNat / 2 ^ (6 - 2 * (sx % 4)) % 4 := by
  have hpower : 4 ^ (3 - sx % 4) = 2 ^ (6 - 2 * (sx % 4)) := by
    rw [show (4 : Nat) = 2 ^ 2 from rfl, ← Nat.pow_mul, Nat.mul_sub]
  unfold Shape.valueAt
  rw [hpower]

section
variable {c : Cursor} {d : DrawnFrame} {x y : Nat}

theorem cursorOver_hidden (value : Triple) (h : c.front = none ∨ d.cursorVisible = false) :
    cursorOver c d x y value = value := by
  unfold cursorOver
  cases hfront : c.front with
  | none => rfl
  | some sh =>
    have hhidden := h.resolve_left (by rw [hfront]; nofun)
    exact if_neg fun hshown => by simp [hhidden] at hshown

theorem cursorOver_inside {sh : Shape} {sx sy : Nat} (value : Triple) (hvisible : d.cursorVisible = true)
    (hfront : c.front = some sh) (hx : (x : Int) = c.x + sx) (hy : (y : Int) = c.y + sy) (hw : sx < sh.width)
    (hh : sy < sh.height) : cursorOver c d x y value = cursorValue d (sh.valueAt sx sy) value := by
  have hsx : (x : Int) - c.x = sx := by omega
  have hsy : (y : Int) - c.y = sy := by omega
  unfold cursorOver
  rw [hfront]
  dsimp only
  rw [hsx, hsy, if_pos ⟨hvisible, by omega, by omega, by omega, by omega⟩]
  rfl

theorem cursorOver_outside {sh : Shape} (value : Triple) (hfront : c.front = some sh)
    (hout : ∀ sx sy : Nat, (x : Int) = c.x + sx → (y : Int) = c.y + sy → ¬(sx < sh.width ∧ sy < sh.height)) :
    cursorOver c d x y value = value := by
  unfold cursorOver
  rw [hfront]
  refine if_neg ?_
  rintro ⟨-, hx, hw, hy, hh⟩
  exact hout ((x : Int) - c.x).toNat ((y : Int) - c.y).toNat (by omega) (by omega) ⟨by omega, by omega⟩

end

theorem State.activePixel_of_composed {d : DrawnFrame} (s : State) (h : HeadId) (x y : Nat) (hmuted : d.muted = false) :
    s.activePixel h d x y = cursorOver (s.head h).cursor d x y (s.composed h d x y) :=
  if_neg (Bool.eq_false_iff.1 hmuted)

theorem State.composed_of_uncovered {s : State} {h : HeadId} {x y : Nat} (d : DrawnFrame)
    (hnone : ∀ (p : Position) (w : WindowRecord), (s.head h).activeScene[p] = some w → w.destination.has x y = false) :
    s.composed h d x y = d.background := by
  have hempty : s.windowsOver h x y = [] := List.eq_nil_iff_forall_not_mem.2 fun a ha => by
    obtain ⟨hw, -, hcovers⟩ := State.mem_windowsOver_iff.1 ha
    rw [hnone a.1 a.2 hw] at hcovers
    cases hcovers
  rw [State.composed_eq, hempty]
  rfl

theorem WindowRecord.layer_le_of_inRange {w : WindowRecord} (h : w.inRange = true) : w.layer ≤ 15 := by
  simp only [WindowRecord.inRange, Bool.and_eq_true, decide_eq_true_eq] at h
  omega

theorem Rect.has_iff {r : Rect} {x y : Nat} :
    r.has x y = true ↔ r.x ≤ x ∧ x < r.x + r.w ∧ r.y ≤ y ∧ y < r.y + r.h := by
  simp only [Rect.has, Bool.and_eq_true, decide_eq_true_eq, and_assoc]

/-- Settles O35: the windows over a pixel in layer order, the blend, and the cursor over them. -/
theorem pictureIsComposedFromTheScene : Obligations.PictureIsComposedFromTheScene := by
  refine ⟨fun s h d x y => ⟨fun hmuted => if_pos hmuted, State.composed_of_uncovered d, ?_, ?_, ?_⟩,
    fun a w b ha => ⟨blendByte_toNat ha _ _, blendByte_toNat ha _ _, blendByte_toNat ha _ _⟩, blend_opaque,
    fun d c => ⟨rfl, rfl, rfl, inverted_toNat c.y, inverted_toNat c.cb, inverted_toNat c.cr⟩⟩
  · intro ok windows hmem hstrict
    have hover : s.windowsOver h x y = windows := by
      refine State.windowsOver_eq (fun p w hw => ?_) (fun p w => ?_) hstrict
      · exact Nat.lt_succ_of_le (WindowRecord.layer_le_of_inRange (HeadOk.active_inRange ok p w hw))
      · rw [hmem, Rect.has_iff]
    rw [State.composed_eq, hover]
  · intro hmuted hhidden
    rw [State.activePixel_of_composed s h x y hmuted]
    exact cursorOver_hidden _ hhidden
  · intro hmuted hvisible sh hfront
    rw [State.activePixel_of_composed s h x y hmuted]
    refine ⟨fun sx sy hx hy hw hh => ?_, cursorOver_outside _ hfront⟩
    rw [cursorOver_inside _ hvisible hfront hx hy hw hh, Shape.valueAt_eq]

end Sys2Proof.Machine
end

section
/-! What a window makes of a pixel of its destination: its border, its content or its fallback. -/

namespace Sys2Proof.Machine

/-! ### Borders (R93) -/

theorem Border.covers_iff {b : Border} {dest : Rect} {i j : Nat} :
    b.covers dest i j = true ↔ b.Takes dest i j := by
  simp only [Border.covers, Border.Takes, Bool.or_eq_true, Bool.and_eq_true, decide_eq_true_eq, Nat.sub_le_iff_le_add,
    or_assoc]

theorem WindowRecord.borderAt_of_takes {w : WindowRecord} {b : Border} {i j : Nat} (hb : w.border = some b)
    (htakes : b.Takes w.destination i j) : w.borderAt i j = some b.colour := by
  unfold WindowRecord.borderAt
  rw [hb]
  exact if_pos (Border.covers_iff.2 htakes)

theorem WindowRecord.borderAt_of_not_takes {w : WindowRecord} {i j : Nat}
    (hnone : ∀ b, w.border = some b → ¬ b.Takes w.destination i j) : w.borderAt i j = none := by
  unfold WindowRecord.borderAt
  cases hb : w.border with
  | none => rfl
  | some b => exact if_neg fun hcovers => hnone b hb (Border.covers_iff.1 hcovers)

/-! ### Stored pixels (R91) -/

section
variable {s : State} {h : HeadId} {d : DrawnFrame} {p : Position} {w : WindowRecord} {i j x y : Nat} {beneath : Triple}

theorem State.drawnColour_stored (s : State) (base width : Nat) (region dest : Rect) (i j : Nat) :
    s.drawnColour (.stored base width region) dest i j = s.sampled base width region dest i j := by
  simp only [State.drawnColour, State.storedPixel, State.sampled, State.dramAt, sampleAt, Triple.mk.injEq]
  refine ⟨congrArg s.dramByte (congrArg _ ?_), congrArg s.dramByte (congrArg _ ?_),
    congrArg s.dramByte (congrArg _ ?_)⟩ <;> ring

theorem State.imageDrawing_of_info {id : LibId} {e : EntryInfo} (he : (s.entry id).info? = some e) (crop : Option Rect)
    (background : Triple) : s.imageDrawing id crop background =
      .stored (Config.libraryBase + e.firstBlock * Config.blockBytes) e.width
        (crop.getD ⟨0, 0, e.width, e.height⟩) := by
  unfold State.imageDrawing
  rw [he]

theorem State.drawnColour_image {id : LibId} {e : EntryInfo} (he : (s.entry id).info? = some e) (crop : Option Rect)
    (background : Triple) (dest : Rect) :
    s.drawnColour (s.imageDrawing id crop background) dest i j = s.imagePixel e crop dest i j := by
  rw [State.imageDrawing_of_info he, State.drawnColour_stored, Nat.mul_comm e.firstBlock]
  rfl

theorem State.drawnColour_fallback (s : State) (fb : Option Fallback) (background : Triple) (dest : Rect) (i j : Nat) :
    s.drawnColour (s.fallbackDrawing fb background) dest i j = s.fallbackPixel fb background dest i j := by
  rcases fb with _ | (id | c)
  · rfl
  · unfold State.fallbackPixel
    dsimp only
    cases he : (s.entry id).info? with
    | none =>
      unfold State.fallbackDrawing State.imageDrawing
      dsimp only
      rw [he]
      rfl
    | some e => exact State.drawnColour_image he none background dest
  · rfl

/-! ### The window pixel (R89, R93) -/

theorem State.windowPixel_of_border {c : Triple} (hx : x = w.destination.x + i) (hy : y = w.destination.y + j)
    (hborder : w.borderAt i j = some c) : s.windowPixel h d p w x y beneath = blend w.opacity c beneath := by
  unfold State.windowPixel
  dsimp only
  rw [hx, hy, Nat.add_sub_cancel_left, Nat.add_sub_cancel_left, hborder]

theorem State.windowPixel_of_flat {c : Triple} (hx : x = w.destination.x + i) (hy : y = w.destination.y + j)
    (hborder : w.borderAt i j = none)
    (hflat : s.drawing (s.selectionAt h p).slot w d.background = .flat c) :
    s.windowPixel h d p w x y beneath = blend w.opacity c beneath := by
  unfold State.windowPixel
  dsimp only
  rw [hx, hy, Nat.add_sub_cancel_left, Nat.add_sub_cancel_left, hborder, hflat]

theorem DrawnFrame.isMissed_of_forall_ne (hread : ∀ m ∈ d.missed, m ≠ (y, ⟨p, x⟩)) : d.isMissed p x y = false :=
  List.any_eq_false.2 fun m hm => by simpa using hread m hm

/-- A pixel that was read in time is the colour of what the window draws. -/
theorem State.windowPixel_of_read (hx : x = w.destination.x + i) (hy : y = w.destination.y + j)
    (hborder : w.borderAt i j = none) (hread : ∀ m ∈ d.missed, m ≠ (y, ⟨p, x⟩)) :
    s.windowPixel h d p w x y beneath = blend w.opacity
      (s.drawnColour (s.drawing (s.selectionAt h p).slot w d.background) w.destination i j) beneath := by
  have hmissed := DrawnFrame.isMissed_of_forall_ne hread
  cases hdrawing : s.drawing (s.selectionAt h p).slot w d.background with
  | flat c => exact State.windowPixel_of_flat hx hy hborder hdrawing
  | stored base width region =>
    unfold State.windowPixel
    dsimp only
    rw [hmissed, hx, hy, Nat.add_sub_cancel_left, Nat.add_sub_cancel_left, hborder, hdrawing]
    rfl

/-! ### LIVE and PIN windows (R90, R92) -/

theorem drawable_iff {r dest : Rect} : drawable r dest = true ↔ 0 < r.w ∧ 0 < r.h ∧ RatiosFit r.w r.h dest := by
  simp only [drawable, Bool.and_eq_true, decide_eq_true_eq, scaleInRange_iff, and_assoc]

theorem State.frameDrawing_of_none (s : State) (crop : Option Rect) (dest : Rect) (fb : Option Fallback)
    (background : Triple) : s.frameDrawing none crop dest fb background = s.fallbackDrawing fb background := rfl

theorem State.frameDrawing_of_frame {id : SlotId} {f : StoredFrame} (hf : (s.slot id).frame? = some f)
    (crop : Option Rect) (dest : Rect) (fb : Option Fallback) (background : Triple) :
    s.frameDrawing (some id) crop dest fb background =
      if drawable (frameRegion crop f.geometry.width f.geometry.height) dest then
        .stored (id.val * Config.slotBytes) f.geometry.width
          (frameRegion crop f.geometry.width f.geometry.height)
      else s.fallbackDrawing fb background := by
  unfold State.frameDrawing
  dsimp only
  rw [hf]

theorem State.drawing_of_frames {fb : Option Fallback} {crop : Option Rect}
    (hcontent : (∃ src policy onLoss freeze, w.content = .live src policy onLoss fb crop freeze) ∨
      (∃ pin onLoss, w.content = .pin pin onLoss fb crop)) (current : Option SlotId) (background : Triple) :
    s.drawing current w background = s.frameDrawing current crop w.destination fb background := by
  unfold State.drawing
  rcases hcontent with ⟨src, policy, onLoss, freeze, hc⟩ | ⟨pin, onLoss, hc⟩ <;> rw [hc]

end

/-- Settles O36: the border first, then what the content draws. -/
theorem windowsDrawTheirContent : Obligations.WindowsDrawTheirContent := by
  intro s h d p w i j x y beneath _ _ hx hy
  refine ⟨fun b hb htakes => State.windowPixel_of_border hx hy (WindowRecord.borderAt_of_takes hb htakes),
    fun hplain => ?_⟩
  have hborder := WindowRecord.borderAt_of_not_takes hplain
  refine ⟨fun c hc => ?_, fun hread => ⟨fun id crop e hc he => ?_, fun fb crop hcontent => ⟨fun hnone => ?_, ?_⟩⟩⟩
  · refine State.windowPixel_of_flat hx hy hborder ?_
    unfold State.drawing
    rw [hc]
  · rw [State.windowPixel_of_read hx hy hborder hread, ← State.drawnColour_image he crop d.background]
    unfold State.drawing
    rw [hc]
  · rw [State.windowPixel_of_read hx hy hborder hread, State.drawing_of_frames hcontent,
      show (s.selectionAt h p).slot = none from congrArg (Option.map CurrentFrame.slot) hnone,
      State.frameDrawing_of_none, State.drawnColour_fallback]
  · intro c f region hcurrent hf hregion
    have hsame : frameRegion crop f.geometry.width f.geometry.height = region := by
      rw [hregion]
      cases crop <;> rfl
    rw [State.windowPixel_of_read hx hy hborder hread, State.drawing_of_frames hcontent,
      show (s.selectionAt h p).slot = some c.slot from congrArg (Option.map CurrentFrame.slot) hcurrent,
      State.frameDrawing_of_frame hf, hsame]
    refine ⟨fun hfits => ?_, fun hnot => ?_⟩
    · rw [if_pos (drawable_iff.2 hfits), State.drawnColour_stored, Nat.mul_comm c.slot.val]
      rfl
    · rw [if_neg fun hdrawable => hnot (drawable_iff.1 hdrawable), State.drawnColour_fallback]

end Sys2Proof.Machine
end

section
/-! The signal of a head line by line, and the cells of an ancillary line. -/

namespace Sys2Proof.Machine

/-! ### Figure 3-1 -/

section
variable {s : State} {h : HeadId} {t : Timing} {d : DrawnFrame} {total n k : Nat}

theorem State.headSignal_of_frame (htiming : (s.head h).timing = some t) (hlines : (s.head h).frameLines = some total)
    (hframe : (s.head h).frame = some d) (n k : Nat) : s.headSignal h n k = s.lineSignal h t total d n k := by
  unfold State.headSignal
  rw [htiming, hlines, hframe]

theorem State.headSignal_of_off (hok : HeadOk (s.head h)) (hoff : (s.head h).state = .off) (n k : Nat) :
    s.headSignal h n k = .idle := by
  obtain ⟨-, -, hidle, -⟩ := hok
  obtain ⟨-, hlines, hframe, -⟩ := hidle hoff
  unfold State.headSignal
  rw [hlines, hframe]
  cases (s.head h).timing <;> rfl

theorem State.lineSignal_blank_pixel (hk : t.activeWidth ≤ k) : (s.lineSignal h t total d n k).pixel = .black :=
  if_pos hk

theorem State.lineSignal_active_pixel {line : Nat} (hk : k < t.activeWidth) (hn : n = (total - t.activeLines) + 1 + line) :
    (s.lineSignal h t total d n k).pixel = s.activePixel h d k line := by
  have hline : n - (total - t.activeLines) - 1 = line := by omega
  refine (if_neg (Nat.not_le.2 hk)).trans ((if_pos (by omega)).trans ?_)
  rw [hline]

theorem State.lineSignal_blanking_pixel (hk : k < t.activeWidth) (hn : n ≤ total - t.activeLines) :
    (s.lineSignal h t total d n k).pixel = match (s.head h).anc.contents with
      | some (line, p) => if n = line then ancPixel t p k else .black
      | none => .black := by
  exact (if_neg (Nat.not_le.2 hk)).trans (if_neg (Nat.not_lt.2 hn))

theorem State.lineSignal_plain_pixel (hk : k < t.activeWidth) (hn : n ≤ total - t.activeLines)
    (hplain : ∀ pair, (s.head h).anc.contents ≠ some (n, pair)) : (s.lineSignal h t total d n k).pixel = .black := by
  rw [State.lineSignal_blanking_pixel hk hn]
  cases hcontents : (s.head h).anc.contents with
  | none => rfl
  | some c =>
    obtain ⟨line, pair⟩ := c
    exact if_neg fun e => hplain pair (by rw [hcontents, e])

theorem State.lineSignal_anc_pixel {pair : CharPair} (hk : k < t.activeWidth) (hn : n ≤ total - t.activeLines)
    (hcontents : (s.head h).anc.contents = some (n, pair)) :
    (s.lineSignal h t total d n k).pixel = ancPixel t pair k := by
  rw [State.lineSignal_blanking_pixel hk hn, hcontents]
  exact if_pos rfl

end

/-! ### The ancillary line (R147, Table 8-2) -/

theorem ancCells_length (p : CharPair) : (ancCells p).length = 32 := rfl

theorem ancPixel_of_cell {t : Timing} {p : CharPair} {k : Nat} {cell : Bool}
    (h : (ancCells p)[k / (t.activeWidth / 32)]? = some cell) :
    ancPixel t p k = if cell then ⟨180, 128, 128⟩ else .black := by
  unfold ancPixel
  rw [List.getD_eq_getElem?_getD, h]
  rfl

theorem ancPixel_behind {t : Timing} {p : CharPair} {k : Nat} (h : 32 ≤ k / (t.activeWidth / 32)) :
    ancPixel t p k = .black := by
  unfold ancPixel
  rw [List.getD_eq_default _ _ (by rw [ancCells_length]; exact h)]
  rfl

theorem ancCells_characters (p : CharPair) {k : Nat} (hk : k < 8) :
    (ancCells p).getD (12 + k) false = (parityByte p.first).getLsbD (7 - k) ∧
    (ancCells p).getD (20 + k) false = (parityByte p.second).getLsbD (7 - k) := by
  interval_cases k <;> exact ⟨rfl, rfl⟩

theorem parityByte_spec : ∀ c : BitVec 7, ((List.range 8).filter fun k => (parityByte c).getLsbD k).length % 2 = 1 ∧
    (parityByte c).setWidth 7 = c := by decide +kernel

/-- Settles O37: a line of a frame by its parts, an OFF head, and the cells. -/
theorem signalFollowsTheFrameFigure : Obligations.SignalFollowsTheFrameFigure := by
  refine ⟨?_, fun s h n k hok hoff => State.headSignal_of_off hok hoff n k,
    fun p => ⟨ancCells_length p, rfl, fun k hk => ancCells_characters p hk, rfl⟩, parityByte_spec⟩
  intro s h n k total t d hok htiming hlines hframe hfirst hlast _
  have hlong : t.activeLines + 8 ≤ total := by
    obtain ⟨-, -, -, hrange, -⟩ := hok
    exact (hrange total hlines t htiming).1
  rw [State.headSignal_of_frame htiming hlines hframe]
  refine ⟨decide_eq_true_iff, ?_, State.lineSignal_blank_pixel, fun hk => ⟨fun line hn => ?_, fun hn => ⟨?_, ?_⟩⟩⟩
  · show (decide _ && decide _) = true ↔ _
    rw [Bool.and_eq_true, decide_eq_true_eq, decide_eq_true_eq]
  · exact ⟨by omega, State.lineSignal_active_pixel hk hn⟩
  · exact State.lineSignal_plain_pixel hk hn
  · intro pair cell hcontents hcell
    rw [State.lineSignal_anc_pixel hk hn hcontents, hcell]
    exact ⟨ancPixel_behind, ancPixel_of_cell, ancPixel_of_cell⟩

end Sys2Proof.Machine
end

section
/-! Window records and their 35 bytes: each field read as an equivalence with the bytes that spell it. -/

namespace Sys2Proof.Machine

/-! ### A stretch of a payload -/

/-- The `n` bytes of a payload at offset `i`. -/
def bytesAt (bs : List Byte) (i n : Nat) : List Byte := (List.range n).map fun k => byteAt bs (i + k)

theorem bytesAt_length (bs : List Byte) (i n : Nat) : (bytesAt bs i n).length = n := by simp [bytesAt]

theorem bytesAt_all {bs : List Byte} {n : Nat} (h : bs.length = n) : bytesAt bs 0 n = bs := by
  subst h
  refine List.ext_getElem (bytesAt_length bs 0 _) fun k hk hk' => ?_
  simp [bytesAt, byteAt, hk']

theorem zerosAt_iff {bs : List Byte} {i n : Nat} : zerosAt bs i n = true ↔ bytesAt bs i n = zeros n := by
  unfold zerosAt bytesAt zeros
  rw [List.all_eq_true, List.eq_replicate_iff]
  simp

/-! ### Fields of one byte -/

theorem finOf_eq_some_iff {n : Nat} (hn : n ≤ 256) {b : Byte} {i : Fin n} : finOf n b = some i ↔ b = byteOf i.val := by
  constructor
  · unfold finOf
    intro h
    split at h
    · cases h
      exact BitVec.eq_of_toNat_eq (by rw [byteOf_toNat]; exact (Nat.mod_eq_of_lt b.isLt).symm)
    · cases h
  · rintro rfl
    exact finOf_byteOf i hn

theorem libIdOf_eq_some_iff {b : Byte} {i : LibId} : libIdOf b = some i ↔ b = libIdByte i := by
  constructor
  · unfold libIdOf
    intro h
    split at h
    · rename_i hrange
      cases h
      refine BitVec.eq_of_toNat_eq ?_
      unfold libIdByte
      rw [byteOf_toNat]
      dsimp only
      have hlt := b.isLt
      omega
    · cases h
  · rintro rfl
    exact libIdOf_libIdByte i

theorem flagOf_eq_some_iff {b : Byte} {f : Bool} : flagOf b = some f ↔ b = flagByte f := by
  revert b f; decide +kernel

/-- The policy field of a record: 0 for the kinds that carry none. -/
def policyByte : Option Policy → Byte
  | none => 0
  | some p => p.byte

/-- The on-loss field of a record: 0 for the kinds that carry none. -/
def onLossByte : Option OnLoss → Byte
  | none => 0
  | some l => l.byte

theorem readPolicy_eq_some_iff {b : Byte} {o : Option Policy} : readPolicy b = some o ↔ b = policyByte o := by
  have hall : ∀ b : Byte, ∀ o ∈ [none, some Policy.latest, some Policy.paced],
      readPolicy b = some o ↔ b = policyByte o := by decide +kernel
  refine hall b o ?_
  rcases o with _ | _ | _ <;> decide

theorem readOnLoss_eq_some_iff {b : Byte} {o : Option OnLoss} : readOnLoss b = some o ↔ b = onLossByte o := by
  have hall : ∀ b : Byte, ∀ o ∈ [none, some OnLoss.hold, some OnLoss.fallback],
      readOnLoss b = some o ↔ b = onLossByte o := by decide +kernel
  refine hall b o ?_
  rcases o with _ | _ | _ <;> decide

/-- The presence byte: three bits and no more. -/
theorem presence_iff (b : Byte) (fallback crop border : Bool) :
    b = byteOf (fallback.toNat + 2 * crop.toNat + 4 * border.toNat) ↔
      b.getLsbD 0 = fallback ∧ b.getLsbD 1 = crop ∧ b.getLsbD 2 = border ∧ b.toNat < 8 := by
  revert b fallback crop border; decide +kernel

/-- The sides of a border: four bits and no more. -/
theorem sides_iff (b : Byte) (left right top bottom : Bool) :
    b = byteOf (left.toNat + 2 * right.toNat + 4 * top.toNat + 8 * bottom.toNat) ↔
      b.getLsbD 0 = left ∧ b.getLsbD 1 = right ∧ b.getLsbD 2 = top ∧ b.getLsbD 3 = bottom ∧ b.toNat < 16 := by
  revert b left right top bottom; decide +kernel

theorem eq_byteOf_iff {b : Byte} {n : Nat} (hn : n < 256) : b = byteOf n ↔ b.toNat = n := by
  constructor
  · rintro rfl; rw [byteOf_toNat, Nat.mod_eq_of_lt hn]
  · intro h; exact BitVec.eq_of_toNat_eq (by rw [byteOf_toNat, h, Nat.mod_eq_of_lt hn])

theorem libIdByte_inj {i j : LibId} : libIdByte i = libIdByte j ↔ i = j := by
  refine ⟨fun h => ?_, fun h => by rw [h]⟩
  have hid := libIdOf_libIdByte i
  rw [h, libIdOf_libIdByte] at hid
  exact (Option.some.inj hid).symm

/-! ### Rectangles, crops, fallbacks and borders -/

theorem u16At_bytes (bs : List Byte) (i : Nat) : leBytes 2 (u16At bs i) = bytesAt bs i 2 := by
  have hlow := (byteAt bs i).isLt
  have hhigh := (byteAt bs (i + 1)).isLt
  refine List.ext_getElem rfl fun k hk hk' => BitVec.eq_of_toNat_eq ?_
  have hk2 : k < 2 := hk
  interval_cases k
  · show (byteOf (u16At bs i)).toNat = (byteAt bs i).toNat
    rw [byteOf_toNat]
    show ((byteAt bs i).toNat + 256 * ((byteAt bs (i + 1)).toNat + 256 * 0)) % 256 = _
    omega
  · show (byteOf (u16At bs i / 256)).toNat = (byteAt bs (i + 1)).toNat
    rw [byteOf_toNat]
    show ((byteAt bs i).toNat + 256 * ((byteAt bs (i + 1)).toNat + 256 * 0)) / 256 % 256 = _
    omega

theorem u16At_eq_iff {bs : List Byte} {i n : Nat} (hn : n < 65536) : u16At bs i = n ↔ leBytes 2 n = bytesAt bs i 2 := by
  constructor
  · rintro rfl; exact u16At_bytes bs i
  · intro h
    calc u16At bs i = leNat (bytesAt bs i 2) := rfl
      _ = leNat (leBytes 2 n) := by rw [h]
      _ = n := leNat_leBytes_of_lt hn

theorem rectAt_eq_iff {bs : List Byte} {i : Nat} {r : Rect} (hx : r.x < 65536) (hy : r.y < 65536) (hw : r.w < 65536)
    (hh : r.h < 65536) : rectAt bs i = r ↔ r.bytes = bytesAt bs i 8 := by
  have hparts : bytesAt bs i 8 = bytesAt bs i 2 ++ bytesAt bs (i + 2) 2 ++ bytesAt bs (i + 4) 2 ++ bytesAt bs (i + 6) 2 := rfl
  obtain ⟨x, y, w, h⟩ := r
  unfold rectAt Rect.bytes
  rw [hparts, Rect.mk.injEq, u16At_eq_iff hx, u16At_eq_iff hy, u16At_eq_iff hw, u16At_eq_iff hh]
  constructor
  · rintro ⟨h₁, h₂, h₃, h₄⟩; rw [h₁, h₂, h₃, h₄]
  · intro hall
    obtain ⟨h₁₂₃, h₄⟩ := List.append_inj hall rfl
    obtain ⟨h₁₂, h₃⟩ := List.append_inj h₁₂₃ rfl
    obtain ⟨h₁, h₂⟩ := List.append_inj h₁₂ rfl
    exact ⟨h₁, h₂, h₃, h₄⟩

theorem Rect.cropInRange_iff {r : Rect} : r.cropInRange = true ↔
    (r.x ≤ 1279 ∧ r.y ≤ 719) ∧ (1 ≤ r.w ∧ r.w ≤ 1280) ∧ (1 ≤ r.h ∧ r.h ≤ 720) ∧
      r.x + r.w ≤ 1280 ∧ r.y + r.h ≤ 720 := by
  simp only [Rect.cropInRange, Bool.and_eq_true, decide_eq_true_eq, and_assoc]

theorem Rect.destinationInRange_iff {r : Rect} : r.destinationInRange = true ↔
    (r.x ≤ 1919 ∧ r.y ≤ 1079) ∧ (8 ≤ r.w ∧ r.w ≤ 1920) ∧ (8 ≤ r.h ∧ r.h ≤ 1080) := by
  simp only [Rect.destinationInRange, Bool.and_eq_true, decide_eq_true_eq, and_assoc]

theorem Border.inRange_iff {b : Border} : b.inRange = true ↔
    (b.left = true ∨ b.right = true ∨ b.top = true ∨ b.bottom = true) ∧ 1 ≤ b.width ∧ b.width ≤ 8 := by
  simp only [Border.inRange, Bool.and_eq_true, Bool.or_eq_true, decide_eq_true_eq, and_assoc, or_assoc]

theorem zeros_eq_bytesAt_iff {bs : List Byte} {i n : Nat} : zeros n = bytesAt bs i n ↔ zerosAt bs i n = true :=
  eq_comm.trans zerosAt_iff.symm

theorem readCrop_eq_some_iff {bs : List Byte} {c : Option Rect} : readCrop bs = some c ↔
    (byteAt bs 1).getLsbD 1 = c.isSome ∧ c.all Rect.cropInRange = true ∧ cropBytes c = bytesAt bs 14 8 := by
  have hfits : ∀ {r : Rect}, r.cropInRange = true → (rectAt bs 14 = r ↔ r.bytes = bytesAt bs 14 8) := fun h => by
    rw [Rect.cropInRange_iff] at h
    exact rectAt_eq_iff (by omega) (by omega) (by omega) (by omega)
  unfold readCrop
  cases hbit : (byteAt bs 1).getLsbD 1 with
  | false =>
    cases c with
    | none => simp [cropBytes, zeros_eq_bytesAt_iff]
    | some r => simp
  | true =>
    cases c with
    | none => simp
    | some r =>
      simp only [if_true, Option.isSome_some, true_and, Option.all_some, cropBytes, Option.ite_none_right_eq_some,
        Option.some.injEq]
      constructor
      · rintro ⟨hin, rfl⟩; exact ⟨hin, (hfits hin).1 rfl⟩
      · rintro ⟨hin, hbytes⟩
        have hr := (hfits hin).2 hbytes
        exact ⟨hr ▸ hin, hr⟩

theorem tripleAt_eq_iff {bs : List Byte} {i : Nat} {c : Triple} : tripleAt bs i = c ↔ c.bytes = bytesAt bs i 3 := by
  obtain ⟨y, cb, cr⟩ := c
  show Triple.mk _ _ _ = _ ↔ [y, cb, cr] = [byteAt bs i, byteAt bs (i + 1), byteAt bs (i + 2)]
  simp [eq_comm]

theorem readFallback_eq_some_iff {bs : List Byte} {f : Option Fallback} : readFallback bs = some f ↔
    (byteAt bs 1).getLsbD 0 = f.isSome ∧ fallbackBytes f = bytesAt bs 10 4 := by
  have hparts : bytesAt bs 10 4 = byteAt bs 10 :: bytesAt bs 11 3 := rfl
  have hparts' : bytesAt bs 11 3 = byteAt bs 11 :: bytesAt bs 12 2 := rfl
  unfold readFallback
  cases hbit : (byteAt bs 1).getLsbD 0 with
  | false =>
    cases f with
    | none => simp [fallbackBytes, zeros_eq_bytesAt_iff]
    | some r => simp
  | true =>
    rw [if_pos rfl, hparts]
    by_cases himage : byteAt bs 10 = 1
    · rw [if_pos himage, himage, hparts']
      cases hid : libIdOf (byteAt bs 11) with
      | none =>
        have hnone : ∀ i, libIdByte i ≠ byteAt bs 11 := fun i h => by
          rw [← h, libIdOf_libIdByte] at hid; cases hid
        rcases f with _ | (i | c) <;> simp [fallbackBytes, hnone]
      | some j =>
        rw [libIdOf_eq_some_iff.1 hid]
        rcases f with _ | (i | c)
        · simp
        · simp only [fallbackBytes, List.cons.injEq, true_and, libIdByte_inj, Option.isSome_some,
            Option.ite_none_right_eq_some, Option.some.injEq, Fallback.image.injEq, ← zeros_eq_bytesAt_iff]
          exact ⟨fun ⟨hzeros, hj⟩ => ⟨hj.symm, hzeros⟩, fun ⟨hj, hzeros⟩ => ⟨hzeros, hj.symm⟩⟩
        · simp [fallbackBytes]
    · rw [if_neg himage]
      by_cases hcolour : byteAt bs 10 = 2
      · rw [if_pos hcolour, hcolour]
        rcases f with _ | (i | c) <;> simp [fallbackBytes, tripleAt_eq_iff]
      · rw [if_neg hcolour]
        have hother : ∀ l : List Byte, (1 : Byte) :: l ≠ byteAt bs 10 :: bytesAt bs 11 3 ∧
            (2 : Byte) :: l ≠ byteAt bs 10 :: bytesAt bs 11 3 := fun l =>
          ⟨fun h => himage (List.cons.inj h).1.symm, fun h => hcolour (List.cons.inj h).1.symm⟩
        rcases f with _ | (i | c)
        · simp
        · exact ⟨nofun, fun h => absurd h.2 (hother _).1⟩
        · exact ⟨nofun, fun h => absurd h.2 (hother _).2⟩

theorem readBorder_eq_some_iff {bs : List Byte} {b : Option Border} : readBorder bs = some b ↔
    (byteAt bs 1).getLsbD 2 = b.isSome ∧ b.all Border.inRange = true ∧ borderBytes b = bytesAt bs 30 5 := by
  have hparts : bytesAt bs 30 5 = [byteAt bs 30, byteAt bs 31] ++ bytesAt bs 32 3 := rfl
  have hfields : ∀ {x : Border}, x.inRange = true →
      (borderAt bs = x ∧ (byteAt bs 30).toNat < 16 ↔ borderBytes (some x) = bytesAt bs 30 5) := by
    intro x hx
    have hwidth : x.width < 256 := by
      have := Border.inRange_iff.1 hx
      omega
    obtain ⟨left, right, top, bottom, width, colour⟩ := x
    have hsides := sides_iff (byteAt bs 30) left right top bottom
    have hbyte := eq_byteOf_iff (b := byteAt bs 31) hwidth
    have hcolour := tripleAt_eq_iff (bs := bs) (i := 32) (c := colour)
    rw [hparts]
    simp only [borderAt, Border.mk.injEq, borderBytes, Border.sides, List.cons_append, List.nil_append, List.cons.injEq,
      ← hcolour]
    rw [eq_comm (b := byteAt bs 30), eq_comm (b := byteAt bs 31), hsides, hbyte]
    tauto
  unfold readBorder
  cases hbit : (byteAt bs 1).getLsbD 2 with
  | false =>
    cases b with
    | none => simp [borderBytes, zeros_eq_bytesAt_iff]
    | some x => simp
  | true =>
    cases b with
    | none => simp
    | some x =>
      simp only [if_true, Option.isSome_some, true_and, Option.all_some, Option.ite_none_right_eq_some,
        Option.some.injEq, Bool.and_eq_true, decide_eq_true_eq]
      constructor
      · rintro ⟨⟨hin, hlow⟩, rfl⟩; exact ⟨hin, (hfields hin).1 ⟨rfl, hlow⟩⟩
      · rintro ⟨hin, hbytes⟩
        obtain ⟨hx, hlow⟩ := (hfields hin).2 hbytes
        exact ⟨⟨hx ▸ hin, hlow⟩, hx⟩

/-! ### Contents (R72) -/

/-- The reading of a content, by its kind, when the five fields that kinds may carry have been read. -/
theorem readContent_eq_some_iff {bs : List Byte} {c : Content} : readContent bs = some c ↔
    readFallback bs = some c.fallback ∧ readCrop bs = some c.crop ∧ byteAt bs 0 = c.kindByte ∧
      c.referenceBytes = bytesAt bs 2 3 ∧ c.choiceBytes = bytesAt bs 5 3 := by
  have href : bytesAt bs 2 3 = byteAt bs 2 :: bytesAt bs 3 2 := rfl
  have hchoice : bytesAt bs 5 3 = [byteAt bs 5, byteAt bs 6, byteAt bs 7] := rfl
  constructor
  · intro h
    unfold readContent at h
    split at h
    · rename_i fallback crop policy onLoss freeze hfallback hcrop hpolicy honLoss hfreeze
      rw [readPolicy_eq_some_iff] at hpolicy
      rw [readOnLoss_eq_some_iff] at honLoss
      rw [flagOf_eq_some_iff] at hfreeze
      rw [hfallback, hcrop, hchoice, hpolicy, honLoss, hfreeze]
      split at h
      · rename_i hkind
        split at h
        · rename_i source policy' onLoss' hsource
          rw [Option.ite_none_right_eq_some, ← zeros_eq_bytesAt_iff] at h
          obtain ⟨hzeros, hc⟩ := h
          cases hc
          rw [finOf_eq_some_iff (by decide)] at hsource
          exact ⟨rfl, rfl, hkind, by rw [href, hsource, ← hzeros]; rfl, rfl⟩
        · cases h
      · split at h
        · rename_i hkind
          split at h
          · rename_i pin onLoss' hpin
            rw [Option.ite_none_right_eq_some, ← zeros_eq_bytesAt_iff] at h
            obtain ⟨hzeros, hc⟩ := h
            cases hc
            rw [finOf_eq_some_iff (by decide)] at hpin
            exact ⟨rfl, rfl, hkind, by rw [href, hpin, ← hzeros]; rfl, rfl⟩
          · cases h
        · split at h
          · rename_i hkind
            split at h
            · rename_i id hid
              rw [Option.ite_none_right_eq_some, ← zeros_eq_bytesAt_iff] at h
              obtain ⟨hzeros, hc⟩ := h
              cases hc
              rw [libIdOf_eq_some_iff] at hid
              exact ⟨rfl, rfl, hkind, by rw [href, hid, ← hzeros]; rfl, rfl⟩
            · cases h
          · split at h
            · rename_i hkind
              split at h
              · cases h
                exact ⟨rfl, rfl, hkind, rfl, rfl⟩
              · cases h
            · cases h
    · cases h
  · rintro ⟨hfallback, hcrop, hkind, hreference, hchoices⟩
    rw [href] at hreference
    rw [hchoice] at hchoices
    cases c with
    | live source policy onLoss fallback crop freeze =>
      obtain ⟨hsource, hzeros⟩ := List.cons.inj hreference
      simp only [Content.choiceBytes, List.cons.injEq, and_true] at hchoices
      obtain ⟨hpolicy, honLoss, hfreeze⟩ := hchoices
      have hzero := zeros_eq_bytesAt_iff.1 (show zeros 2 = bytesAt bs 3 2 from hzeros)
      unfold readContent
      rw [hfallback, hcrop, (readPolicy_eq_some_iff (o := some policy)).2 hpolicy.symm,
        (readOnLoss_eq_some_iff (o := some onLoss)).2 honLoss.symm, flagOf_eq_some_iff.2 hfreeze.symm, hkind,
        (finOf_eq_some_iff (by decide)).2 hsource.symm]
      simp [Content.kindByte, hzero, Content.fallback, Content.crop]
    | pin pin onLoss fallback crop =>
      obtain ⟨hpin, hzeros⟩ := List.cons.inj hreference
      simp only [Content.choiceBytes, List.cons.injEq, and_true] at hchoices
      obtain ⟨hpolicy, honLoss, hfreeze⟩ := hchoices
      have hzero := zeros_eq_bytesAt_iff.1 (show zeros 2 = bytesAt bs 3 2 from hzeros)
      unfold readContent
      rw [hfallback, hcrop, (readPolicy_eq_some_iff (o := none)).2 hpolicy.symm,
        (readOnLoss_eq_some_iff (o := some onLoss)).2 honLoss.symm,
        (flagOf_eq_some_iff (f := false)).2 hfreeze.symm, hkind, (finOf_eq_some_iff (by decide)).2 hpin.symm]
      simp [Content.kindByte, hzero, Content.fallback, Content.crop]
    | image id crop =>
      obtain ⟨hid, hzeros⟩ := List.cons.inj hreference
      simp only [Content.choiceBytes, List.cons.injEq, and_true] at hchoices
      obtain ⟨hpolicy, honLoss, hfreeze⟩ := hchoices
      have hzero := zeros_eq_bytesAt_iff.1 (show zeros 2 = bytesAt bs 3 2 from hzeros)
      unfold readContent
      rw [hfallback, hcrop, (readPolicy_eq_some_iff (o := none)).2 hpolicy.symm,
        (readOnLoss_eq_some_iff (o := none)).2 honLoss.symm,
        (flagOf_eq_some_iff (f := false)).2 hfreeze.symm, hkind, libIdOf_eq_some_iff.2 hid.symm]
      simp [Content.kindByte, hzero, Content.fallback, Content.crop]
    | fill colour =>
      simp only [Content.choiceBytes, List.cons.injEq, and_true] at hchoices
      obtain ⟨hpolicy, honLoss, hfreeze⟩ := hchoices
      have hcolour := tripleAt_eq_iff.2 (show colour.bytes = bytesAt bs 2 3 from hreference)
      unfold readContent
      rw [hfallback, hcrop, (readPolicy_eq_some_iff (o := none)).2 hpolicy.symm,
        (readOnLoss_eq_some_iff (o := none)).2 honLoss.symm,
        (flagOf_eq_some_iff (f := false)).2 hfreeze.symm, hkind, hcolour]
      simp [Content.kindByte, Content.fallback, Content.crop]

theorem Option.all_iff_forall {α : Type} {o : Option α} {p : α → Bool} :
    o.all p = true ↔ ∀ a, o = some a → p a = true := by
  cases o <;> simp

/-! ### Records (R73, R78) -/

theorem WindowRecord.inRange_iff {w : WindowRecord} : w.inRange = true ↔
    w.content.crop.all Rect.cropInRange = true ∧ w.destination.destinationInRange = true ∧ w.layer ≤ 15 ∧
      (1 ≤ w.opacity ∧ w.opacity ≤ 16) ∧ w.border.all Border.inRange = true := by
  simp only [WindowRecord.inRange, Bool.and_eq_true, decide_eq_true_eq, and_assoc]

theorem readRecord_eq_some_iff {bs : List Byte} {w : WindowRecord} : readRecord bs = some w ↔
    readContent bs = some w.content ∧ readBorder bs = some w.border ∧ rectAt bs 22 = w.destination ∧
      (byteAt bs 8).toNat = w.layer ∧ (byteAt bs 9).toNat = w.opacity ∧ w.inRange = true ∧ (byteAt bs 1).toNat < 8 := by
  unfold readRecord
  constructor
  · intro h
    split at h
    · rename_i content border hcontent hborder
      dsimp only at h
      rw [Option.ite_none_right_eq_some, Bool.and_eq_true, decide_eq_true_eq] at h
      obtain ⟨⟨hin, hlow⟩, hw⟩ := h
      cases hw
      exact ⟨hcontent, hborder, rfl, rfl, rfl, hin, hlow⟩
    · cases h
  · rintro ⟨hcontent, hborder, hdestination, hlayer, hopacity, hin, hlow⟩
    rw [hcontent, hborder]
    dsimp only
    rw [hdestination, hlayer, hopacity, hin, decide_eq_true hlow]
    rfl

/-- The bytes of a record, stretch by stretch. -/
theorem WindowRecord.bytes_eq_iff {bs : List Byte} (hlen : bs.length = 35) (w : WindowRecord) : w.bytes = bs ↔
    byteAt bs 0 = w.content.kindByte ∧ byteAt bs 1 = w.presence ∧ w.content.referenceBytes = bytesAt bs 2 3 ∧
      w.content.choiceBytes = bytesAt bs 5 3 ∧ byteAt bs 8 = byteOf w.layer ∧ byteAt bs 9 = byteOf w.opacity ∧
      fallbackBytes w.content.fallback = bytesAt bs 10 4 ∧ cropBytes w.content.crop = bytesAt bs 14 8 ∧
      w.destination.bytes = bytesAt bs 22 8 ∧ borderBytes w.border = bytesAt bs 30 5 := by
  have hparts : bs = [byteAt bs 0, byteAt bs 1] ++ bytesAt bs 2 3 ++ bytesAt bs 5 3 ++ [byteAt bs 8, byteAt bs 9] ++
      bytesAt bs 10 4 ++ bytesAt bs 14 8 ++ bytesAt bs 22 8 ++ bytesAt bs 30 5 := (bytesAt_all hlen).symm
  constructor
  · intro h
    rw [hparts] at h
    unfold WindowRecord.bytes at h
    obtain ⟨h, hborder⟩ := List.append_inj' h (by rw [borderBytes_length, bytesAt_length])
    obtain ⟨h, hdestination⟩ := List.append_inj' h (by rw [Rect.bytes_length, bytesAt_length])
    obtain ⟨h, hcrop⟩ := List.append_inj' h (by rw [cropBytes_length, bytesAt_length])
    obtain ⟨h, hfallback⟩ := List.append_inj' h (by rw [fallbackBytes_length, bytesAt_length])
    obtain ⟨h, hlevels⟩ := List.append_inj' h rfl
    obtain ⟨h, hchoices⟩ := List.append_inj' h (by rw [choiceBytes_length, bytesAt_length])
    obtain ⟨hfirst, hreference⟩ := List.append_inj' h (by rw [referenceBytes_length, bytesAt_length])
    simp only [List.cons.injEq, and_true] at hfirst hlevels
    exact ⟨hfirst.1.symm, hfirst.2.symm, hreference, hchoices, hlevels.1.symm, hlevels.2.symm, hfallback, hcrop,
      hdestination, hborder⟩
  · rintro ⟨hkind, hpresence, hreference, hchoices, hlayer, hopacity, hfallback, hcrop, hdestination, hborder⟩
    rw [hparts]
    unfold WindowRecord.bytes
    rw [hkind, hpresence, hreference, hchoices, hlayer, hopacity, hfallback, hcrop, hdestination, hborder]

/-- 35 bytes read as a record exactly when they are the bytes of that record and it is in range. -/
theorem readRecord_iff_bytes {bs : List Byte} (hlen : bs.length = 35) (w : WindowRecord) :
    readRecord bs = some w ↔ w.inRange = true ∧ w.bytes = bs := by
  rw [readRecord_eq_some_iff, WindowRecord.bytes_eq_iff hlen, readContent_eq_some_iff, readBorder_eq_some_iff,
    readFallback_eq_some_iff, readCrop_eq_some_iff]
  unfold WindowRecord.presence
  rw [presence_iff]
  by_cases hin : w.inRange = true
  · obtain ⟨hcrop, hdestination, hlayer, ⟨-, hopacity⟩, hborder⟩ := WindowRecord.inRange_iff.1 hin
    have hbounds := Rect.destinationInRange_iff.1 hdestination
    rw [rectAt_eq_iff (r := w.destination) (by omega) (by omega) (by omega) (by omega),
      eq_byteOf_iff (n := w.layer) (by omega), eq_byteOf_iff (n := w.opacity) (by omega)]
    tauto
  · tauto

/-! ### Table 11-7 -/

theorem WindowRecord.presence_eq (w : WindowRecord) :
    w.presence = byteOf ((if w.content.fallback.isSome then 1 else 0) + (if w.content.crop.isSome then 2 else 0) +
      (if w.border.isSome then 4 else 0)) := by
  unfold WindowRecord.presence
  cases w.content.fallback <;> cases w.content.crop <;> cases w.border <;> rfl

theorem Border.sides_eq (b : Border) :
    b.sides = byteOf ((if b.left then 1 else 0) + (if b.right then 2 else 0) + (if b.top then 4 else 0) +
      (if b.bottom then 8 else 0)) := by
  unfold Border.sides
  cases b.left <;> cases b.right <;> cases b.top <;> cases b.bottom <;> rfl

theorem WindowRecord.bytes_eq_fields (w : WindowRecord) :
    w.bytes = recordFields w w.content.kindByte w.content.referenceBytes w.content.choiceBytes w.content.fallback
      w.content.crop := by
  unfold WindowRecord.bytes recordFields
  rw [WindowRecord.presence_eq]
  cases w.border with
  | none => rcases w.content.fallback with _ | (i | c) <;> cases w.content.crop <;> rfl
  | some b =>
    rw [show borderBytes (some b) = [b.sides, byteOf b.width] ++ b.colour.bytes from rfl, Border.sides_eq]
    rcases w.content.fallback with _ | (i | c) <;> cases w.content.crop <;> rfl

theorem WindowRecord.bytes_eq_layout (w : WindowRecord) : w.bytes = recordLayout w := by
  rw [WindowRecord.bytes_eq_fields]
  unfold recordLayout
  cases w.content with
  | live source policy onLoss fallback crop freeze => cases policy <;> cases onLoss <;> rfl
  | pin pin onLoss fallback crop => cases onLoss <;> rfl
  | image id crop => rfl
  | fill c => rfl

theorem WindowRecord.crops_iff {w : WindowRecord} {c : Rect} : w.Crops c ↔ w.content.crop = some c := by
  unfold WindowRecord.Crops
  cases w.content <;> simp [Content.crop]

/-- Settles O38: the layout, the ranges, and reading as the inverse of writing. -/
theorem windowRecordsReadBack : Obligations.WindowRecordsReadBack := by
  refine ⟨fun w => ⟨w.bytes_eq_layout, w.bytes_length⟩, fun w => ?_, fun bytes w hlen => readRecord_iff_bytes hlen w⟩
  rw [WindowRecord.inRange_iff, Option.all_iff_forall, Option.all_iff_forall, Rect.destinationInRange_iff]
  simp only [WindowRecord.crops_iff, Rect.cropInRange_iff, Border.inRange_iff, and_assoc]

end Sys2Proof.Machine
end

section
/-! The block map of the library: its free runs, first fit, and what LIB_SPACE reports. -/

namespace Sys2Proof.Machine

/-! ### Runs between extents -/

/-- The library is 5,584 blocks. -/
theorem libraryBlocks_eq : Config.libraryBlocks = 5584 := rfl

/-- A block lies in the library and in none of a list of extents. -/
def FreeOf (l : List Extent) (n : Nat) : Prop := n < 5584 ∧ ∀ a ∈ l, n < a.first ∨ a.stop ≤ n

/-- Extents of at least one block, one behind another, from block `b` on and inside the library. -/
def LaidOut (b : Nat) (l : List Extent) : Prop :=
  (∀ a ∈ l, b ≤ a.first ∧ 1 ≤ a.count ∧ a.stop ≤ 5584) ∧ l.Pairwise fun a c => a.stop ≤ c.first

theorem LaidOut.tail {b : Nat} {e : Extent} {l : List Extent} (h : LaidOut b (e :: l)) : LaidOut e.stop l := by
  obtain ⟨hin, hbehind⟩ := h
  obtain ⟨hfirst, hrest⟩ := List.pairwise_cons.1 hbehind
  exact ⟨fun a ha => ⟨hfirst a ha, (hin a (List.mem_cons_of_mem _ ha)).2⟩, hrest⟩

theorem runsFrom_nil (b : Nat) : runsFrom b [] = if b < 5584 then [⟨b, 5584 - b⟩] else [] := rfl

theorem runsFrom_cons {b : Nat} {e : Extent} {l : List Extent} (h : LaidOut b (e :: l)) :
    runsFrom b (e :: l) = if b < e.first then ⟨b, e.first - b⟩ :: runsFrom e.stop l else runsFrom e.stop l := by
  have hle := (h.1 e List.mem_cons_self).1
  have hstop : max b e.stop = e.stop := Nat.max_eq_right (hle.trans (Nat.le_add_right _ _))
  rw [runsFrom, hstop]

/-- Every run lies behind `b`, holds at least one block, and only free ones. -/
theorem runsFrom_free {l : List Extent} : ∀ {b : Nat}, LaidOut b l → ∀ r ∈ runsFrom b l,
    b ≤ r.first ∧ 1 ≤ r.count ∧ ∀ k, k < r.count → FreeOf l (r.first + k) := by
  induction l with
  | nil =>
    intro b _ r hr
    rw [runsFrom_nil] at hr
    split at hr
    · rename_i hb
      rw [List.mem_singleton] at hr
      subst hr
      refine ⟨Nat.le_refl b, by dsimp only; omega, fun k hk => ⟨?_, nofun⟩⟩
      dsimp only at hk ⊢
      omega
    · cases hr
  | cons e l ih =>
    intro b h r hr
    have htail := h.tail
    obtain ⟨hle, hcount, hstop⟩ := h.1 e List.mem_cons_self
    have hbehind : ∀ a ∈ l, e.stop ≤ a.first := fun a ha => (htail.1 a ha).1
    have hrest : ∀ r ∈ runsFrom e.stop l, b ≤ r.first ∧ 1 ≤ r.count ∧ ∀ k, k < r.count → FreeOf (e :: l) (r.first + k) := by
      intro r hr
      obtain ⟨hfirst, hpos, hfree⟩ := ih htail r hr
      refine ⟨by unfold Extent.stop at hfirst; omega, hpos, fun k hk => ⟨(hfree k hk).1, fun a ha => ?_⟩⟩
      rcases List.mem_cons.1 ha with rfl | ha
      · exact .inr (hfirst.trans (Nat.le_add_right _ _))
      · exact (hfree k hk).2 a ha
    rw [runsFrom_cons h] at hr
    split at hr
    · rename_i hgap
      rcases List.mem_cons.1 hr with rfl | hr
      · refine ⟨Nat.le_refl b, by dsimp only; omega, fun k hk => ⟨?_, fun a ha => .inl ?_⟩⟩
        · unfold Extent.stop at hstop
          dsimp only at hk ⊢
          omega
        · dsimp only at hk ⊢
          rcases List.mem_cons.1 ha with rfl | ha
          · omega
          · have := hbehind a ha
            unfold Extent.stop at this
            omega
      · exact hrest r hr
    · exact hrest r hr

/-- Consecutive free blocks lie in one run. -/
theorem runsFrom_contains {l : List Extent} {x c : Nat} (hc : 1 ≤ c) : ∀ {b : Nat}, LaidOut b l → b ≤ x →
    (∀ k, k < c → FreeOf l (x + k)) → ∃ r ∈ runsFrom b l, r.first ≤ x ∧ x + c ≤ r.stop := by
  induction l with
  | nil =>
    intro b _ hx hfree
    have hlast := (hfree (c - 1) (by omega)).1
    have hb : b < 5584 := by omega
    refine ⟨⟨b, 5584 - b⟩, by rw [runsFrom_nil, if_pos hb]; exact List.mem_singleton_self _, hx, ?_⟩
    unfold Extent.stop
    dsimp only
    omega
  | cons e l ih =>
    intro b h hx hfree
    obtain ⟨hle, hcount, hstop⟩ := h.1 e List.mem_cons_self
    rw [runsFrom_cons h]
    by_cases hbefore : x < e.first
    · have hfits : x + c ≤ e.first := by
        by_contra hover
        have hmiddle := (hfree (e.first - x) (by omega)).2 e List.mem_cons_self
        unfold Extent.stop at hmiddle
        omega
      refine ⟨⟨b, e.first - b⟩, by rw [if_pos (by omega)]; exact List.mem_cons_self, hx, ?_⟩
      unfold Extent.stop
      dsimp only
      omega
    · have hbehind : e.stop ≤ x := by
        have hstart := (hfree 0 (by omega)).2 e List.mem_cons_self
        omega
      obtain ⟨r, hr, hin⟩ := ih h.tail hbehind fun k hk =>
        ⟨(hfree k hk).1, fun a ha => (hfree k hk).2 a (List.mem_cons_of_mem _ ha)⟩
      refine ⟨r, ?_, hin⟩
      split
      · exact List.mem_cons_of_mem _ hr
      · exact hr

theorem runsFrom_sorted {l : List Extent} : ∀ {b : Nat}, LaidOut b l →
    (runsFrom b l).Pairwise fun r r' => r.first ≤ r'.first := by
  induction l with
  | nil =>
    intro b _
    rw [runsFrom_nil]
    split
    · exact List.pairwise_singleton _ _
    · exact List.Pairwise.nil
  | cons e l ih =>
    intro b h
    have hle := (h.1 e List.mem_cons_self).1
    rw [runsFrom_cons h]
    split
    · refine List.pairwise_cons.2 ⟨fun r hr => ?_, ih h.tail⟩
      have hfirst := (runsFrom_free h.tail r hr).1
      unfold Extent.stop at hfirst
      dsimp only
      omega
    · exact ih h.tail

/-- The blocks of the runs and of the extents make up the library from `b` on. -/
theorem runsFrom_count {l : List Extent} : ∀ {b : Nat}, LaidOut b l → b ≤ 5584 →
    ((runsFrom b l).map Extent.count).sum + (l.map Extent.count).sum = 5584 - b := by
  induction l with
  | nil =>
    intro b _ hb
    rw [runsFrom_nil]
    split
    · simp
    · simp; omega
  | cons e l ih =>
    intro b h hb
    obtain ⟨hle, -, hstop⟩ := h.1 e List.mem_cons_self
    have hrest := ih h.tail hstop
    rw [runsFrom_cons h]
    unfold Extent.stop at hrest hstop
    split
    · simp only [List.map_cons, List.sum_cons, Extent.stop] at hrest ⊢
      omega
    · simp only [List.map_cons, List.sum_cons, Extent.stop] at hrest ⊢
      omega

/-! ### The extents of the library (R115) -/

theorem insertExtent_eq (e : Extent) (l : List Extent) :
    insertExtent e l = l.orderedInsert (fun a b => a.first ≤ b.first) e := by
  induction l with
  | nil => rfl
  | cons f l ih =>
    unfold insertExtent
    rw [List.orderedInsert_cons, ih]

theorem Library.extents_eq (l : Library) :
    l.extents = (l.entries.toList.filterMap Entry.extent?).insertionSort fun a b => a.first ≤ b.first := by
  unfold Library.extents List.insertionSort
  congr 1
  funext e m
  exact insertExtent_eq e m

theorem Library.mem_extents_iff {l : Library} {a : Extent} :
    a ∈ l.extents ↔ ∃ i : LibId, a ∈ (l.entries[i]).extent? := by
  rw [Library.extents_eq, (List.perm_insertionSort _ _).mem_iff, List.mem_filterMap]
  constructor
  · rintro ⟨x, hx, ha⟩
    obtain ⟨k, hk, rfl⟩ := Vector.getElem_of_mem (Vector.mem_toList_iff.1 hx)
    exact ⟨⟨k, hk⟩, ha⟩
  · rintro ⟨i, ha⟩
    exact ⟨l.entries[i], Vector.mem_toList_iff.2 (Vector.getElem_mem i.isLt), ha⟩

theorem Library.blockFree_iff {l : Library} {n : Nat} : l.blockFree n ↔ FreeOf l.extents n := by
  unfold Library.blockFree FreeOf
  simp only [Library.mem_extents_iff, libraryBlocks_eq]
  exact and_congr_right fun _ => ⟨fun h a ⟨i, ha⟩ => h i a ha, fun h i a ha => h a ⟨i, ha⟩⟩

theorem Extent.apart_iff {a b : Extent} : a.apart b = true ↔ a.stop ≤ b.first ∨ b.stop ≤ a.first := by
  simp only [Extent.apart, Bool.or_eq_true, decide_eq_true_eq]

/-! ### Sizes (R113, Table 6-3) -/

theorem sizeInRange_image {w h : Nat} : sizeInRange .image w h = true ↔
    (16 ≤ w ∧ w ≤ 1280 ∧ w % 2 = 0) ∧ 16 ≤ h ∧ h ≤ 720 := by
  simp only [sizeInRange, Bool.and_eq_true, decide_eq_true_eq, and_assoc]

theorem sizeInRange_sprite {w h : Nat} : sizeInRange .sprite w h = true ↔
    (8 ≤ w ∧ w ≤ 64 ∧ w % 4 = 0) ∧ 8 ≤ h ∧ h ≤ 64 := by
  simp only [sizeInRange, Bool.and_eq_true, decide_eq_true_eq, and_assoc]

theorem EntryInfo.byteTotal_of_image {e : EntryInfo} (h : e.kind = .image) : e.byteTotal = e.width * e.height * 2 := by
  unfold EntryInfo.byteTotal
  rw [h]

theorem EntryInfo.byteTotal_of_sprite {e : EntryInfo} (h : e.kind = .sprite) :
    e.byteTotal = e.width * e.height / 4 := by
  unfold EntryInfo.byteTotal
  rw [h]

theorem EntryInfo.blockCount_eq (e : EntryInfo) :
    e.blockCount = e.byteTotal / 4096 + if e.byteTotal % 4096 = 0 then 0 else 1 := by
  show (e.byteTotal + 4096 - 1) / 4096 = _
  split <;> omega

theorem EntryInfo.byteTotal_pos {e : EntryInfo} (h : sizeInRange e.kind e.width e.height = true) : 1 ≤ e.byteTotal := by
  cases hkind : e.kind with
  | image =>
    rw [hkind, sizeInRange_image] at h
    have harea : 16 * 16 ≤ e.width * e.height := Nat.mul_le_mul h.1.1 h.2.1
    rw [EntryInfo.byteTotal_of_image hkind]
    omega
  | sprite =>
    rw [hkind, sizeInRange_sprite] at h
    have harea : 8 * 8 ≤ e.width * e.height := Nat.mul_le_mul h.1.1 h.2.1
    rw [EntryInfo.byteTotal_of_sprite hkind]
    omega

theorem EntryInfo.blockCount_pos {e : EntryInfo} (h : sizeInRange e.kind e.width e.height = true) : 1 ≤ e.blockCount := by
  have hpos := EntryInfo.byteTotal_pos h
  rw [EntryInfo.blockCount_eq]
  split <;> omega

theorem EntryInfo.legal_iff {e : EntryInfo} : e.legal = true ↔
    sizeInRange e.kind e.width e.height = true ∧ e.firstBlock + e.blockCount ≤ 5584 := by
  unfold EntryInfo.legal
  rw [Bool.and_eq_true, decide_eq_true_eq]
  rfl

theorem Entry.mem_extent_iff {x : Entry} {a : Extent} :
    a ∈ x.extent? ↔ ∃ e, x.info? = some e ∧ a = ⟨e.firstBlock, e.blockCount⟩ := by
  unfold Entry.extent?
  rw [Option.mem_map]
  exact ⟨fun ⟨e, he, ha⟩ => ⟨e, he, ha.symm⟩, fun ⟨e, he, ha⟩ => ⟨e, he, ha.symm⟩⟩

/-- The extents of a sound library, sorted, lie one behind another. -/
theorem LibraryOk.laidOut {s : State} (ok : LibraryOk s) : LaidOut 0 s.library.extents := by
  obtain ⟨hlegal, hapart, -⟩ := ok
  have hone : ∀ a ∈ s.library.extents, 1 ≤ a.count ∧ a.stop ≤ 5584 := by
    intro a ha
    obtain ⟨i, hi⟩ := Library.mem_extents_iff.1 ha
    obtain ⟨e, he, rfl⟩ := Entry.mem_extent_iff.1 hi
    obtain ⟨hsize, hstop⟩ := EntryInfo.legal_iff.1 (hlegal i e he)
    exact ⟨EntryInfo.blockCount_pos hsize, hstop⟩
  have hsorted : s.library.extents.Pairwise fun a b => a.first ≤ b.first := by
    have htotal : Std.Total fun a b : Extent => a.first ≤ b.first := ⟨fun a b => Nat.le_total _ _⟩
    have htrans : IsTrans Extent fun a b => a.first ≤ b.first := ⟨fun _ _ _ => Nat.le_trans⟩
    rw [Library.extents_eq]
    exact List.pairwise_insertionSort _ _
  have hdisjoint : s.library.extents.Pairwise fun a b => a.stop ≤ b.first ∨ b.stop ≤ a.first := by
    rw [Library.extents_eq, (List.perm_insertionSort _ _).pairwise_iff Or.symm, List.pairwise_filterMap,
      List.pairwise_iff_getElem]
    intro i j hi hj hlt a ha b hb
    rw [Vector.getElem_toList] at ha hb
    rw [Vector.length_toList] at hi hj
    exact Extent.apart_iff.1 (hapart ⟨i, hi⟩ ⟨j, hj⟩ (fun e => Nat.ne_of_lt hlt (congrArg Fin.val e)) a ha b hb)
  refine ⟨fun a ha => ⟨Nat.zero_le _, hone a ha⟩, ?_⟩
  refine (hsorted.and hdisjoint).imp_of_mem fun {a b} ha hb ⟨hle, hor⟩ => hor.resolve_right fun hback => ?_
  have hpos := (hone b hb).1
  unfold Extent.stop at hback
  omega

/-! ### First fit and the largest run (R116, R127) -/

section
variable {s : State} (ok : LibraryOk s)
include ok

theorem LibraryOk.runFree_of_run {r : Extent} (hr : r ∈ s.library.freeRuns) {n : Nat} (hn : n ≤ r.count) :
    s.library.runFree r.first n := fun k hk =>
  Library.blockFree_iff.2 ((runsFrom_free (LibraryOk.laidOut ok) r hr).2.2 k (Nat.lt_of_lt_of_le hk hn))

theorem LibraryOk.run_of_runFree {b n : Nat} (hn : 1 ≤ n) (hfree : s.library.runFree b n) :
    ∃ r ∈ s.library.freeRuns, r.first ≤ b ∧ n ≤ r.count := by
  obtain ⟨r, hr, hle, hstop⟩ := runsFrom_contains hn (LibraryOk.laidOut ok) (Nat.zero_le b)
    fun k hk => Library.blockFree_iff.1 (hfree k hk)
  unfold Extent.stop at hstop
  exact ⟨r, hr, hle, by omega⟩

theorem LibraryOk.firstFit_eq_none_iff {n : Nat} (hn : 1 ≤ n) :
    s.library.firstFit n = none ↔ ∀ b, ¬ s.library.runFree b n := by
  unfold Library.firstFit
  rw [Option.map_eq_none_iff, List.find?_eq_none]
  constructor
  · intro hnone b hfree
    obtain ⟨r, hr, -, hfits⟩ := LibraryOk.run_of_runFree ok hn hfree
    exact hnone r hr (decide_eq_true hfits)
  · intro hnone r hr hfits
    exact hnone r.first (LibraryOk.runFree_of_run ok hr (of_decide_eq_true hfits))

theorem LibraryOk.firstFit_spec {n b : Nat} (hn : 1 ≤ n) (h : s.library.firstFit n = some b) :
    s.library.runFree b n ∧ ∀ b', b' < b → ¬ s.library.runFree b' n := by
  unfold Library.firstFit at h
  obtain ⟨r, hfind, rfl⟩ := Option.map_eq_some_iff.1 h
  obtain ⟨hfits, before, after, hruns, hskipped⟩ := List.find?_eq_some_iff_append.1 hfind
  have hr : r ∈ s.library.freeRuns := List.mem_of_find?_eq_some hfind
  refine ⟨LibraryOk.runFree_of_run ok hr (of_decide_eq_true hfits), fun b' hlt hfree => ?_⟩
  obtain ⟨r', hr', hle, hfits'⟩ := LibraryOk.run_of_runFree ok hn hfree
  have hsorted : s.library.freeRuns.Pairwise fun r r' => r.first ≤ r'.first := runsFrom_sorted (LibraryOk.laidOut ok)
  rw [hruns] at hr' hsorted
  rcases List.mem_append.1 hr' with hearly | hlate
  · have hshort := hskipped r' hearly
    rw [decide_eq_true hfits'] at hshort
    cases hshort
  · rcases List.mem_cons.1 hlate with rfl | hlate
    · omega
    · have := (List.pairwise_cons.1 (List.pairwise_append.1 hsorted).2.1).1 r' hlate
      omega

theorem LibraryOk.firstFit_eq_some_iff {n b : Nat} (hn : 1 ≤ n) : s.library.firstFit n = some b ↔
    s.library.runFree b n ∧ ∀ b', b' < b → ¬ s.library.runFree b' n := by
  refine ⟨LibraryOk.firstFit_spec ok hn, fun ⟨hfree, hlowest⟩ => ?_⟩
  cases hfit : s.library.firstFit n with
  | none => exact absurd hfree ((LibraryOk.firstFit_eq_none_iff ok hn).1 hfit b)
  | some c =>
    obtain ⟨hfree', hlowest'⟩ := LibraryOk.firstFit_spec ok hn hfit
    have hle : ¬ c < b := fun hlt => hlowest c hlt hfree'
    have hge : ¬ b < c := fun hlt => hlowest' b hlt hfree
    rw [Nat.le_antisymm (Nat.not_lt.1 hge) (Nat.not_lt.1 hle)]

omit ok in
theorem List.le_foldr_max_iff {n : Nat} (hn : 1 ≤ n) (l : List Nat) : n ≤ l.foldr max 0 ↔ ∃ c ∈ l, n ≤ c := by
  induction l with
  | nil => simp; omega
  | cons c l ih => simp [ih]

theorem LibraryOk.le_largestRun_iff {n : Nat} (hn : 1 ≤ n) :
    n ≤ s.library.largestRun ↔ ∃ b, s.library.runFree b n := by
  unfold Library.largestRun
  rw [List.le_foldr_max_iff hn]
  constructor
  · rintro ⟨c, hc, hle⟩
    obtain ⟨r, hr, rfl⟩ := List.mem_map.1 hc
    exact ⟨r.first, LibraryOk.runFree_of_run ok hr hle⟩
  · rintro ⟨b, hfree⟩
    obtain ⟨r, hr, -, hle⟩ := LibraryOk.run_of_runFree ok hn hfree
    exact ⟨r.count, List.mem_map_of_mem hr, hle⟩

theorem LibraryOk.largestRunFirst_spec (hpos : 1 ≤ s.library.largestRun) :
    s.library.runFree s.library.largestRunFirst s.library.largestRun ∧
      ∀ b, b < s.library.largestRunFirst → ¬ s.library.runFree b s.library.largestRun := by
  obtain ⟨b, hfree⟩ := (LibraryOk.le_largestRun_iff ok hpos).1 (Nat.le_refl _)
  cases hfit : s.library.firstFit s.library.largestRun with
  | none => exact absurd hfree ((LibraryOk.firstFit_eq_none_iff ok hpos).1 hfit b)
  | some c =>
    have hfirst : s.library.largestRunFirst = c := by
      unfold Library.largestRunFirst
      rw [hfit]
      rfl
    rw [hfirst]
    exact LibraryOk.firstFit_spec ok hpos hfit

end

end Sys2Proof.Machine
end

section
/-! The requests and events of the library: placing, receiving, verifying and deleting an entry. -/

namespace Sys2Proof.Machine

/-! ### LIB_OPEN (R117) -/

theorem libIdByte_toNat (i : LibId) : (libIdByte i).toNat = i.val + 1 := by
  have hlt := i.isLt
  unfold libIdByte
  rw [byteOf_toNat]
  omega

theorem kindOf_byte (k : EntryKind) : kindOf k.byte = some k := by cases k <;> rfl

section
variable {s : State} {i : LibId} {e : EntryInfo}

theorem State.setEntry_others (s : State) (i : LibId) (v : Entry) : OtherEntries i s (s.setEntry i v) :=
  ⟨fun _ hj => State.entry_setEntry_other _ _ hj, rfl⟩

theorem State.openEntry_of_present (h : s.entry i ≠ .empty) : s.openEntry i e = refuse .wrongState s := by
  unfold State.openEntry
  cases hentry : s.entry i with
  | empty => exact absurd hentry h
  | receiving e n => rfl
  | verifying e => rfl
  | valid e n => rfl

theorem State.openEntry_of_empty (h : s.entry i = .empty) : s.openEntry i e =
    if 2 ≤ s.library.uploads then refuse .limit s
    else match s.library.firstFit e.blockCount with
      | none => refuse .noSpace s
      | some b =>
        (.ok (leBytes 2 b ++ leBytes 2 e.blockCount), s.setEntry i (.receiving { e with firstBlock := b } 0)) := by
  unfold State.openEntry
  rw [h]
  rfl

/-- LIB_OPEN reads its six fields, and checks the size first. -/
theorem libOpenBody_eq {k : EntryKind} {w h : Nat} {check : BitVec 32} (hw : w < 65536) (hh : h < 65536) :
    libOpenBody (libIdByte i :: k.byte :: (leBytes 2 w ++ leBytes 2 h ++ leBytes 4 check.toNat)) s =
      if sizeInRange k w h then s.openEntry i ⟨k, w, h, check, 0⟩ else refuse .badValue s := by
  generalize hpayload : libIdByte i :: k.byte :: (leBytes 2 w ++ leBytes 2 h ++ leBytes 4 check.toNat) = bs
  have hkind : kindOf (byteAt bs 1) = some k := by rw [← hpayload]; exact kindOf_byte k
  have hwidth : u16At bs 2 = w := by rw [← hpayload]; exact leNat_leBytes_of_lt (k := 2) hw
  have hheight : u16At bs 4 = h := by rw [← hpayload]; exact leNat_leBytes_of_lt (k := 2) hh
  have hcheck : u32At bs 6 = check.toNat := by rw [← hpayload]; exact leNat_leBytes_of_lt (k := 4) check.isLt
  unfold libOpenBody
  rw [hkind, hwidth, hheight, hcheck, BitVec.ofNat_toNat, BitVec.setWidth_eq, ← hpayload]
  exact withLibId_libIdByte i _ _ _

end

/-- Settles O39: sizes and blocks, LIB_OPEN by its checks, and the free space. -/
theorem libOpenPlacesByFirstFit : Obligations.LibOpenPlacesByFirstFit := by
  refine ⟨fun w h => ⟨sizeInRange_image, sizeInRange_sprite⟩,
    fun e => ⟨EntryInfo.byteTotal_of_image, EntryInfo.byteTotal_of_sprite, e.blockCount_eq⟩,
    ⟨rfl, rfl, libIdByte_toNat⟩, ?_, fun s ok => ⟨?_, fun n hn => LibraryOk.le_largestRun_iff ok hn,
      LibraryOk.largestRunFirst_spec ok⟩⟩
  · intro s r rest i k w h check e ht hw hh hp he ok
    have hlen : LengthRule.allows (.exactly 10) r.payload.length = true := by rw [hp]; rfl
    have hbody := libOpenBody_eq (s := s.withRequests rest) (i := i) (k := k) (check := check) hw hh
    rw [← hp, ← he] at hbody
    refine ⟨fun hsize => ?_, fun hsize hpresent => ?_, fun hsize hempty hlimit => ?_, fun hsize hempty hroom => ?_⟩
    · exact refuses_of_body rfl ht rfl hlen (hbody.trans (if_neg (Bool.eq_false_iff.1 hsize)))
    · exact refuses_of_body rfl ht rfl hlen ((hbody.trans (if_pos hsize)).trans (State.openEntry_of_present hpresent))
    · exact refuses_of_body rfl ht rfl hlen
        (((hbody.trans (if_pos hsize)).trans (State.openEntry_of_empty hempty)).trans (if_pos hlimit))
    · have hopen := ((hbody.trans (if_pos hsize)).trans (State.openEntry_of_empty hempty)).trans
        (if_neg (Nat.not_le.2 hroom))
      have hpos : 1 ≤ e.blockCount := EntryInfo.blockCount_pos (by rw [he]; exact hsize)
      have hlibrary : (s.withRequests rest).library = s.library := rfl
      rw [hlibrary] at hopen
      refine ⟨fun hnone => ?_, fun b hfree hlowest => ?_⟩
      · rw [(LibraryOk.firstFit_eq_none_iff ok hpos).2 hnone] at hopen
        exact refuses_of_body rfl ht rfl hlen hopen
      · rw [(LibraryOk.firstFit_eq_some_iff ok hpos).2 ⟨hfree, hlowest⟩] at hopen
        exact performs_of_body rfl ht rfl hlen hopen rfl (State.setEntry_only _ i _)
          ⟨State.setEntry_others (s.withRequests rest) i _, State.entry_setEntry_same (s.withRequests rest) i _⟩
  · exact runsFrom_count (LibraryOk.laidOut ok) (Nat.zero_le _)

/-! ### LIB_DATA (R114, R118) -/

theorem entryAddress_eq (e : EntryInfo) (m : Nat) : entryAddress e m =
    BitVec.ofNat 26 (44236800 + (e.firstBlock + m / 4096) * 4096 + m % 4096) := by
  have hplace : 44236800 + e.firstBlock * 4096 + m = 44236800 + (e.firstBlock + m / 4096) * 4096 + m % 4096 := by omega
  show BitVec.ofNat 26 (44236800 + e.firstBlock * 4096 + m) = _
  rw [hplace]

theorem EntryInfo.byteTotal_le_blocks (e : EntryInfo) : e.byteTotal ≤ e.blockCount * 4096 := by
  rw [EntryInfo.blockCount_eq]
  split <;> omega

/-- The places of an entry's bytes lie in DRAM, each at its own address. -/
theorem entryAddress_injective {e : EntryInfo} (hlegal : e.legal = true) {m n : Nat} (hm : m < e.byteTotal)
    (hn : n < e.byteTotal) (h : entryAddress e m = entryAddress e n) : m = n := by
  have hblocks := e.byteTotal_le_blocks
  have hstop := (EntryInfo.legal_iff.1 hlegal).2
  have hplaces := congrArg BitVec.toNat h
  have hvalue : ∀ k, (entryAddress e k).toNat = (44236800 + e.firstBlock * 4096 + k) % 2 ^ 26 := fun k =>
    BitVec.toNat_ofNat _ _
  rw [hvalue, hvalue, Nat.mod_eq_of_lt (by omega), Nat.mod_eq_of_lt (by omega)] at hplaces
  omega

section
variable {s : State} {i : LibId} {off : Nat} {data : List Byte}

theorem libDataBody_of_receiving {e : EntryInfo} {n : Nat} (hoff : off < 4294967296) (hentry : s.entry i = .receiving e n) :
    libDataBody (libIdByte i :: (leBytes 4 off ++ data)) s =
      if off ≠ n then (⟨.outOfOrder, leBytes 4 n⟩, s)
      else if e.byteTotal < n + data.length then refuse .badLength s
      else (.ok (leBytes 4 (n + data.length)),
        (s.writeBytes (entryAddress e) n data).setEntry i (.receiving e (n + data.length))) := by
  have hfield : u32At (libIdByte i :: (leBytes 4 off ++ data)) 1 = off := leNat_leBytes_of_lt (k := 4) hoff
  have hdata : (libIdByte i :: (leBytes 4 off ++ data)).drop 5 = data := rfl
  refine (withLibId_libIdByte i _ _ _).trans ?_
  rw [hentry, hfield, hdata]

theorem libDataBody_of_idle (hidle : ∀ e n, s.entry i ≠ .receiving e n) (bs : List Byte) :
    libDataBody (libIdByte i :: bs) s = refuse .wrongState s := by
  refine (withLibId_libIdByte i _ _ _).trans ?_
  cases hentry : s.entry i with
  | receiving e n => exact absurd hentry (hidle e n)
  | empty => rfl
  | verifying e => rfl
  | valid e n => rfl

/-- The bytes of an upload as LIB_DATA stores them: each at its place, and nothing else. -/
theorem State.storeUpload_bytes {e : EntryInfo} {n : Nat} (hlegal : e.legal = true)
    (hfits : n + data.length ≤ e.byteTotal) :
    (∀ k, k < data.length → (State.writeBytes (entryAddress e) n data s).dramByte (entryAddress e (n + k)) =
      data.getD k 0) ∧
    ∀ a, (∀ k, k < data.length → a ≠ entryAddress e (n + k)) →
      (State.writeBytes (entryAddress e) n data s).dramByte a = s.dramByte a := by
  refine ⟨fun k hk => ?_, fun a ha => State.dramByte_writeBytes_other _ _ _ _ _ fun j hj hlt => ?_⟩
  · have hinjective : ∀ j, j < data.length → entryAddress e (n + j) = entryAddress e (n + k) → j = k := fun j hj he => by
      have := entryAddress_injective hlegal (by omega) (by omega) he
      omega
    rw [State.dramByte_writeBytes_same (entryAddress e) data n s k hk hinjective]
    exact (List.getD_eq_getElem _ _ hk).symm
  · obtain ⟨k, rfl⟩ := Nat.exists_eq_add_of_le hj
    exact (ha k (by omega)).symm

theorem State.storeUpload_only (e : EntryInfo) (n : Nat) (v : Entry) :
    OnlyChanges [.library, .dram] s ((State.writeBytes (entryAddress e) n data s).setEntry i v) :=
  ((State.writeBytes_only _ _ _ _).weaken (by decide)).trans ((State.setEntry_only _ _ _).weaken (by decide))

theorem State.storeUpload_entries (e : EntryInfo) (n : Nat) (v : Entry) :
    OtherEntries i s ((State.writeBytes (entryAddress e) n data s).setEntry i v) := by
  have hkept : ∀ j, (State.writeBytes (entryAddress e) n data s).entry j = s.entry j :=
    State.entry_of_only (State.writeBytes_only (entryAddress e) data n s) (by decide)
  refine ⟨fun j hj => (State.entry_setEntry_other _ _ hj).trans (hkept j), ?_⟩
  show (State.writeBytes (entryAddress e) n data s).library.verifyQueue = s.library.verifyQueue
  rw [show (State.writeBytes (entryAddress e) n data s).library = s.library from
    State.writeBytes_only (entryAddress e) data n s .library (by decide)]

end

/-- Settles O40: the checks of LIB_DATA, and the bytes that an accepted one stores. -/
theorem libDataStoresTheStream : Obligations.LibDataStoresTheStream := by
  intro s r rest i off data ht hp hoff hone hmost
  have hlen : LengthRule.allows (.between 6 253) r.payload.length = true := by
    rw [hp]
    simp only [LengthRule.allows, List.length_cons, List.length_append, leBytes_length, Bool.and_eq_true,
      decide_eq_true_eq]
    omega
  refine ⟨fun hidle => ?_, fun e n hentry hlegal => ?_⟩
  · exact refuses_of_body rfl ht rfl hlen (by rw [hp]; exact libDataBody_of_idle (s := s.withRequests rest) hidle _)
  · have hbody := libDataBody_of_receiving (s := s.withRequests rest) (data := data) hoff hentry
    rw [← hp] at hbody
    refine ⟨fun hother => ?_, fun hsame hover => ?_, fun hsame hfits => ?_⟩
    · exact performs_of_body rfl ht rfl hlen (hbody.trans (if_pos hother)) rfl (OnlyChanges.refl _ _) trivial
    · exact refuses_of_body rfl ht rfl hlen ((hbody.trans (if_neg (not_not.2 hsame))).trans (if_pos hover))
    · obtain ⟨hwritten, hkept⟩ := State.storeUpload_bytes (s := s.withRequests rest) (n := n) hlegal hfits
      have honly := State.storeUpload_only (s := s.withRequests rest) (i := i) (data := data) e n
        (.receiving e (n + data.length))
      refine performs_of_body rfl ht rfl hlen
        ((hbody.trans (if_neg (not_not.2 hsame))).trans (if_neg (Nat.not_lt.2 hfits))) (honly .link (by decide)) honly
        ⟨State.storeUpload_entries (s := s.withRequests rest) (i := i) (data := data) e n _,
          State.entry_setEntry_same (State.writeBytes (entryAddress e) n data (s.withRequests rest)) i _,
          fun k hk => ?_, fun a ha => ?_⟩
      · rw [← entryAddress_eq]
        exact hwritten k hk
      · exact hkept a fun k hk => by rw [entryAddress_eq]; exact ha k hk

/-! ### The bytes of an entry and their CRC-32 (R121) -/

theorem crc32_eq (bytes : List Byte) : crc32 bytes = bytes.foldl crc32Register 0xFFFFFFFF ^^^ 0xFFFFFFFF := rfl

theorem State.entryBytes_length (s : State) (e : EntryInfo) : (s.entryBytes e).length = e.byteTotal := by
  simp [State.entryBytes, State.readBytes]

theorem State.entryBytes_getD (s : State) (e : EntryInfo) {k : Nat} (hk : k < e.byteTotal) :
    (s.entryBytes e).getD k 0 = s.dramByte (BitVec.ofNat 26 (44236800 + 4096 * e.firstBlock + k)) := by
  have hbase : Config.libraryBase + e.firstBlock * Config.blockBytes = 44236800 + 4096 * e.firstBlock :=
    congrArg (44236800 + ·) (Nat.mul_comm _ _)
  rw [List.getD_eq_getElem _ _ (by rw [State.entryBytes_length]; exact hk)]
  simp only [State.entryBytes, State.readBytes, List.getElem_map, List.getElem_range, hbase]

/-! ### Closing, verifying, abandoning and deleting (R119 to R123) -/

section
variable {s : State} {i : LibId}

theorem libCloseBody_of_idle (hidle : ∀ e n, s.entry i ≠ .receiving e n) :
    libCloseBody [libIdByte i] s = refuse .wrongState s := by
  refine (withLibId_libIdByte i _ _ _).trans ?_
  cases hentry : s.entry i with
  | receiving e n => exact absurd hentry (hidle e n)
  | empty => rfl
  | verifying e => rfl
  | valid e n => rfl

theorem libCloseBody_of_receiving {e : EntryInfo} {n : Nat} (hentry : s.entry i = .receiving e n) :
    libCloseBody [libIdByte i] s =
      if n < e.byteTotal then refuse .badLength s
      else (⟨.accepted, []⟩, (s.setEntry i (.verifying e)).setVerifyQueue (s.library.verifyQueue ++ [i])) := by
  refine (withLibId_libIdByte i _ _ _).trans ?_
  rw [hentry]

theorem exec_verifyResult_of_ready (hready : s.device.phase = .ready) : exec .verifyResult s =
    .next (match s.library.verifyQueue with
      | [] => s
      | i :: rest => s.verified i rest) :=
  congrArg Host.Outcome.next ((whenReady_of_ready hready _).trans rfl)

theorem exec_inactivityTimerExpiry_of_ready (hready : s.device.phase = .ready) (i : LibId) :
    exec (.inactivityTimerExpiry i) s = .next (s.abandon i) :=
  congrArg Host.Outcome.next (whenReady_of_ready hready _)

theorem State.abandon_of_idle (hidle : ∀ e n, s.entry i ≠ .receiving e n) : s.abandon i = s := by
  unfold State.abandon
  cases hentry : s.entry i with
  | receiving e n => exact absurd hentry (hidle e n)
  | empty => rfl
  | verifying e => rfl
  | valid e n => rfl

theorem State.abandon_of_receiving {e : EntryInfo} {n : Nat} (hentry : s.entry i = .receiving e n) :
    s.abandon i = (s.setEntry i .empty).raise (.uploadAbandoned i n) := by
  unfold State.abandon
  rw [hentry]

/-- The verification of the entry at the head of the queue ends, by its CRC-32. -/
theorem State.verified_of_verifying {e : EntryInfo} (hentry : s.entry i = .verifying e) (rest : List LibId) :
    s.verified i rest = if crc32 (s.entryBytes e) = e.check then
        ((s.setVerifyQueue rest).setEntry i (.valid e 0)).raise (.uploadVerified i e)
      else ((s.setVerifyQueue rest).setEntry i .empty).raise
        (.uploadFailed i e.check (crc32 (s.entryBytes e))) := by
  unfold State.verified
  rw [hentry]
  rfl

/-- LIB_DELETE of an entry that it empties. -/
theorem libDeleteBody_done (h : (∃ e n, s.entry i = .receiving e n) ∨ ∃ e, s.entry i = .valid e 0) :
    libDeleteBody [libIdByte i] s = done (s.setEntry i .empty) := by
  refine (withLibId_libIdByte i _ _ _).trans ?_
  rcases h with ⟨e, n, hentry⟩ | ⟨e, hentry⟩ <;> rw [hentry] <;> rfl

end

/-- Settles O41: the CRC-32, LIB_CLOSE, the verify result, the inactivity timer and LIB_DELETE. -/
theorem uploadsEndAsTheyShould : Obligations.UploadsEndAsTheyShould := by
  refine ⟨crc32_eq, fun s e => ⟨s.entryBytes_length e, fun k hk => s.entryBytes_getD e hk⟩, ?_, ?_, ?_, ?_⟩
  · intro s r rest i ht hp
    have hlen : LengthRule.allows (.exactly 1) r.payload.length = true := by rw [hp]; rfl
    refine ⟨fun hidle => ?_, fun e n hentry => ?_⟩
    · exact refuses_of_body rfl ht rfl hlen (by rw [hp]; exact libCloseBody_of_idle (s := s.withRequests rest) hidle)
    · have hbody := libCloseBody_of_receiving (s := s.withRequests rest) hentry
      rw [← hp] at hbody
      refine ⟨fun hshort => refuses_of_body rfl ht rfl hlen (hbody.trans (if_pos hshort)), fun hfull => ?_⟩
      have honly : OnlyChanges [.library] (s.withRequests rest) (((s.withRequests rest).setEntry i
          (.verifying e)).setVerifyQueue ((s.withRequests rest).library.verifyQueue ++ [i])) :=
        (State.setEntry_only _ i _).trans (State.setVerifyQueue_only _ _)
      exact performs_of_body rfl ht rfl hlen (hbody.trans (if_neg (Nat.not_lt.2 hfull))) rfl honly
        ⟨State.entry_setEntry_same (s.withRequests rest) i _,
          fun j hj => State.entry_setEntry_other (s.withRequests rest) _ hj, rfl⟩
  · intro s hready
    refine ⟨fun hempty => ?_, fun i rest e hqueue hentry => ?_⟩
    · rw [exec_verifyResult_of_ready hready, hempty]
    · have hresult := State.verified_of_verifying hentry rest
      refine ⟨s.verified i rest, ?_, (State.verified_only _ _ _).weaken (by decide), ?_⟩
      · rw [exec_verifyResult_of_ready hready, hqueue]
      · by_cases hcrc : crc32 (s.entryBytes e) = e.check
        · rw [hresult, if_pos hcrc]
          exact ⟨fun j hj => State.entry_setEntry_other (s.setVerifyQueue rest) _ hj, rfl,
            fun _ => ⟨State.entry_setEntry_same (s.setVerifyQueue rest) i _, rfl⟩, fun hnot => absurd hcrc hnot⟩
        · rw [hresult, if_neg hcrc]
          exact ⟨fun j hj => State.entry_setEntry_other (s.setVerifyQueue rest) _ hj, rfl, fun hsame => absurd hsame hcrc,
            fun _ => ⟨State.entry_setEntry_same (s.setVerifyQueue rest) i _, rfl⟩⟩
  · intro s i hready
    refine ⟨fun hidle => ?_, fun e n hentry => ?_⟩
    · rw [exec_inactivityTimerExpiry_of_ready hready, State.abandon_of_idle hidle]
    · have hresult := State.abandon_of_receiving hentry
      refine ⟨s.abandon i, exec_inactivityTimerExpiry_of_ready hready i, State.abandon_only _ _, ?_⟩
      rw [hresult]
      exact ⟨State.setEntry_others s i _, State.entry_setEntry_same s i _, rfl⟩
  · intro s r rest i ht hp
    have hlen : LengthRule.allows (.exactly 1) r.payload.length = true := by rw [hp]; rfl
    have hread : ∀ f : LibId → Reply × State, withLibId r.payload (s.withRequests rest) f = f i := fun f => by
      rw [hp]; exact withLibId_libIdByte i _ _ _
    have hkept : (s.withRequests rest).entry i = s.entry i := rfl
    refine ⟨fun hempty => ?_, fun e hverifying => ?_, fun e n hvalid hused => ?_, fun hidle => ?_⟩
    · exact refuses_of_body rfl ht rfl hlen ((hread _).trans (by rw [hkept, hempty]; rfl))
    · exact refuses_of_body rfl ht rfl hlen ((hread _).trans (by rw [hkept, hverifying]; rfl))
    · exact performs_of_body rfl ht rfl hlen ((hread _).trans (by
        rw [hkept, hvalid]
        exact if_neg (Nat.pos_iff_ne_zero.1 hused))) rfl (OnlyChanges.refl _ _) trivial
    · have hbody := libDeleteBody_done (s := s.withRequests rest) hidle
      rw [← hp] at hbody
      exact performs_of_body rfl ht rfl hlen hbody rfl (State.setEntry_only _ i _)
        ⟨State.setEntry_others (s.withRequests rest) i _,
          State.entry_setEntry_same (s.withRequests rest) i _⟩

end Sys2Proof.Machine
end

section
/-! The cursor: CURSOR_SHAPE and the shape loader, and the requests that set position, visibility and palette. -/

namespace Sys2Proof.Machine

/-! ### Requests that answer with a report of their own change (R140, R149) -/

section
variable {c : Instr} {s u : State} {r : Request} {rest : List Request} {code : Byte} {rule : LengthRule} {body : Body}
  {st : Status} {report : State → List Byte} {parts : List Part} {after : State → Prop}

theorem performsReporting_of_body (hreport : ∀ rep, report (u.post r rep) = report u)
    (he : exec c s = s.runRequest code body) (ht : Takes s r rest code) (hr : commandRule code = some rule)
    (hl : rule.allows r.payload.length = true) (hb : body r.payload (s.withRequests rest) = (⟨st, report u⟩, u))
    (hu : u.link = (s.withRequests rest).link) (ho : OnlyChanges parts (s.withRequests rest) u)
    (ha : after (u.post r ⟨st, report u⟩)) : PerformsReporting c s r rest st report parts after := by
  have hperforms := performs_of_body (after := fun t => report t = report u ∧ after t) he ht hr hl hb hu ho
    ⟨hreport _, ha⟩
  obtain ⟨t, hexec, hanswers, honly, hsame, hafter⟩ := hperforms
  rw [← hsame] at hanswers
  exact ⟨t, hexec, hanswers, honly, hafter⟩

/-- A request that sets a head's record and answers with a report of the new record. -/
theorem performsReporting_modHead {h : HeadId} {f : Head → Head} (hreport : ∀ u rep, report (u.post r rep) = report u)
    (he : exec c s = s.runRequest code body) (ht : Takes s r rest code) (hr : commandRule code = some rule)
    (hl : rule.allows r.payload.length = true)
    (hb : body r.payload (s.withRequests rest) =
      (⟨st, report ((s.withRequests rest).modHead h f)⟩, (s.withRequests rest).modHead h f)) :
    PerformsReporting c s r rest st report [.heads] fun t => OtherHeads h s t ∧ t.head h = f (s.head h) :=
  performsReporting_of_body (hreport _) he ht hr hl hb rfl (State.modHead_only _ h f)
    ⟨State.modHead_others (s.withRequests rest) h f, State.head_modHead_same (s.withRequests rest) h f⟩

end

theorem cursorReport_post (h : HeadId) (r : Request) (u : State) (rep : Reply) :
    cursorReport (u.post r rep) h = cursorReport u h := by
  have hhead := State.head_of_only (u.post_only r rep) (by decide) h
  have hloader : (u.post r rep).loader = u.loader := u.post_only r rep .loader (by decide)
  unfold cursorReport
  rw [hhead, hloader]

/-! ### CURSOR_SHAPE (R131) -/

section
variable {l : Loader} {h : HeadId} {i : LibId}

theorem Loader.jobOf_of_running (hjob : ∃ j, l.job = some (h, j)) : ∃ j, l.jobOf h = .loading j := by
  obtain ⟨j, hj⟩ := hjob
  refine ⟨j, ?_⟩
  unfold Loader.jobOf
  rw [hj]
  exact if_pos rfl

theorem Loader.jobOf_of_idle (hidle : ¬ ∃ j, l.job = some (h, j)) : l.jobOf h = Loader.jobOf.queuedOf l h := by
  unfold Loader.jobOf
  cases hjob : l.job with
  | none => rfl
  | some job =>
    obtain ⟨g, j⟩ := job
    exact if_neg fun hg => hidle ⟨j, by rw [hjob, hg]⟩

theorem Loader.queuedOf_of_unqueued (hnone : ∀ j, (h, j) ∉ l.queue) : Loader.jobOf.queuedOf l h = .none := by
  have hfind : (l.queue.find? fun e => decide (e.1 = h)) = none :=
    List.find?_eq_none.2 fun e he hsame => hnone e.2 (by rw [← of_decide_eq_true hsame]; exact he)
  unfold Loader.jobOf.queuedOf
  rw [hfind]

theorem Loader.queuedOf_of_queued (hsome : ∃ j, (h, j) ∈ l.queue) : ∃ j, Loader.jobOf.queuedOf l h = .queued j := by
  obtain ⟨j, hj⟩ := hsome
  unfold Loader.jobOf.queuedOf
  cases hfind : l.queue.find? fun e => decide (e.1 = h) with
  | none => exact absurd (decide_eq_true rfl) (List.find?_eq_none.1 hfind (h, j) hj)
  | some e => exact ⟨e.2, rfl⟩

end

section
variable {s : State} {h : HeadId} {i : LibId}

theorem State.placeShape_of_running (hjob : ∃ j, s.loader.job = some (h, j)) :
    s.placeShape h i = s.modCursor h fun c => { c with waiting := some i } := by
  obtain ⟨j, hj⟩ := Loader.jobOf_of_running hjob
  unfold State.placeShape
  rw [hj]

theorem State.placeShape_of_unqueued (hidle : ¬ ∃ j, s.loader.job = some (h, j)) (hnone : ∀ j, (h, j) ∉ s.loader.queue) :
    s.placeShape h i = { s with loader := ⟨s.loader.queue ++ [(h, i)], s.loader.job⟩ } := by
  unfold State.placeShape
  rw [Loader.jobOf_of_idle hidle, Loader.queuedOf_of_unqueued hnone]

theorem State.placeShape_of_queued (hidle : ¬ ∃ j, s.loader.job = some (h, j)) (hsome : ∃ j, (h, j) ∈ s.loader.queue) :
    s.placeShape h i = { s with loader := ⟨replaceQueued h i s.loader.queue, s.loader.job⟩ } := by
  obtain ⟨j, hj⟩ := Loader.queuedOf_of_queued hsome
  unfold State.placeShape
  rw [Loader.jobOf_of_idle hidle, hj]

theorem cursorShapeBody_eq : cursorShapeBody [byteOf h.val, libIdByte i] s =
    if ((s.entry i).validOf .sprite).isSome then withCursorReport .accepted h (s.placeShape h i)
    else refuse .notFound s := by
  have hid : libIdOf (byteAt [byteOf h.val, libIdByte i] 1) = some i := libIdOf_libIdByte i
  refine (withIndex_byteOf h (by decide) _ _ _).trans ?_
  rw [hid]

end

/-- Settles O42: the three places of an accepted shape. -/
theorem cursorShapeIsPlacedByTheJob : Obligations.CursorShapeIsPlacedByTheJob := by
  intro s r rest h i ht hp
  have hlen : LengthRule.allows (.exactly 2) r.payload.length = true := by rw [hp]; rfl
  have hbody := cursorShapeBody_eq (s := s.withRequests rest) (h := h) (i := i)
  rw [← hp] at hbody
  have hentry : (s.withRequests rest).entry i = s.entry i := rfl
  rw [hentry] at hbody
  refine ⟨fun hnone => ?_, fun hsome running hrunning => ?_⟩
  · exact refuses_of_body rfl ht rfl hlen (hbody.trans (if_neg (by rw [hnone]; nofun)))
  · replace hbody := hbody.trans (if_pos (Option.isSome_iff_ne_none.2 hsome))
    refine ⟨fun htrue => ?_, fun hfalse hnone => ?_, fun hfalse hqueued => ?_⟩
    · rw [State.placeShape_of_running (s := s.withRequests rest) (hrunning.1 htrue)] at hbody
      exact performsReporting_modHead (report := fun t => cursorReport t h)
        (f := fun hd => { hd with cursor := { hd.cursor with waiting := some i } })
        (fun u rep => cursorReport_post h r u rep) rfl ht rfl hlen hbody
    · have hidle : ¬ ∃ j, s.loader.job = some (h, j) := fun hjob => by rw [hrunning.2 hjob] at hfalse; cases hfalse
      rw [State.placeShape_of_unqueued (s := s.withRequests rest) hidle hnone] at hbody
      exact performsReporting_of_body (report := fun t => cursorReport t h) (fun rep => cursorReport_post h r _ rep) rfl
        ht rfl hlen hbody rfl (State.setLoader_only _ _) rfl
    · have hidle : ¬ ∃ j, s.loader.job = some (h, j) := fun hjob => by rw [hrunning.2 hjob] at hfalse; cases hfalse
      rw [State.placeShape_of_queued (s := s.withRequests rest) hidle hqueued] at hbody
      exact performsReporting_of_body (report := fun t => cursorReport t h) (fun rep => cursorReport_post h r _ rep) rfl
        ht rfl hlen hbody rfl (State.setLoader_only _ _) rfl

/-! ### The shape loader (R132 to R134) -/

section
variable {s : State} {h : HeadId} {i : LibId} {queue : List (HeadId × LibId)}

theorem exec_jobStart_of_ready (hready : s.device.phase = .ready) : exec .jobStart s = .next s.startJob :=
  congrArg Host.Outcome.next (whenReady_of_ready hready _)

theorem exec_shapeLoadCompletion_of_ready (hready : s.device.phase = .ready) :
    exec .shapeLoadCompletion s = .next s.finishJob := congrArg Host.Outcome.next (whenReady_of_ready hready _)

theorem State.startJob_of_queued (hloader : s.loader = ⟨(h, i) :: queue, none⟩) :
    s.startJob = if ((s.entry i).validOf .sprite).isSome then
        ({ s with loader := ⟨queue, none⟩ } : State).beginJob h i
      else ({ s with loader := ⟨queue, none⟩ } : State).raise (.shapeFailed h i) := by
  unfold State.startJob
  rw [hloader]

theorem State.startJob_of_unable (hunable : s.loader.queue = [] ∨ s.loader.job ≠ none) : s.startJob = s := by
  unfold State.startJob
  cases hjob : s.loader.job with
  | some job => rfl
  | none =>
    rw [hunable.resolve_right (not_not.2 hjob)]

theorem State.beginJob_loader (s : State) (h : HeadId) (i : LibId) :
    (s.beginJob h i).loader = ⟨s.loader.queue, some (h, i)⟩ := by
  unfold State.beginJob
  exact (State.dropUseOf_only _ _ .loader (by decide)).trans (State.addUse_only _ _ .loader (by decide))

theorem State.beginJob_head (s : State) (h : HeadId) (i : LibId) : (s.beginJob h i).head h =
    { s.head h with cursor := { (s.head h).cursor with back := .loading i } } := by
  unfold State.beginJob
  rw [State.head_of_only (State.dropUseOf_only _ _) (by decide), State.head_of_only (State.addUse_only _ _) (by decide)]
  exact State.head_modHead_same _ h _

theorem State.beginJob_others (s : State) (h : HeadId) (i : LibId) : OtherHeads h s (s.beginJob h i) :=
  (State.modHead_others { s with loader := ⟨s.loader.queue, some (h, i)⟩ } h _).trans
    ((OtherHeads.of_only (State.addUse_only _ _) (by decide)).trans
      (OtherHeads.of_only (State.dropUseOf_only _ _) (by decide)))

theorem State.beginJob_directory (s : State) (h : HeadId) (i : LibId) : SameDirectory s (s.beginJob h i) :=
  SameDirectory.trans (t := ({ s with loader := ⟨s.loader.queue, some (h, i)⟩ } : State).modCursor h fun c =>
    { c with back := .loading i }) ⟨fun _ => rfl, rfl⟩
    ((State.addUse_directory _ _).trans (State.dropUseOf_directory _ _))

/-- A job that begins takes a use of its entry, and the shape it replaces loses its own. -/
theorem beginJob_usesOk (hvalid : (s.entry i).isValid = true) (ok : UsesOk s) : UsesOk (s.beginJob h i) := by
  refine usesOk_renamed ok (s.beginJob_others h i) (fun j => [some i].count (some j))
    (fun j => [(s.head h).cursor.back.uses].count (some j)) (fun j => ?_) fun j => ?_
  · have hstart : ∀ k, ((({ s with loader := ⟨s.loader.queue, some (h, i)⟩ } : State).modCursor h fun c =>
        { c with back := .loading i })).entry k = s.entry k := fun k => rfl
    unfold State.beginJob
    rw [State.useCount_dropUseOf]
    show (((State.modCursor { s with loader := ⟨s.loader.queue, some (h, i)⟩ } h fun c =>
      { c with back := .loading i }).addUseOf (some i)).entry j).useCount - _ = _
    rw [State.useCount_addUseOf (by rintro k ⟨⟩; exact hvalid), hstart]
  · rw [State.beginJob_head, Head.namesOf_eq, Head.namesOf_eq]
    simp only [List.count_cons, List.count_nil, BackBuffer.uses]
    omega

theorem State.finishJob_of_idle (hjob : s.loader.job = none) : s.finishJob = s := by
  unfold State.finishJob
  rw [hjob]

/-- The state in which a copy has become LOADED, before a waiting request is queued. -/
def State.loaded (s : State) (h : HeadId) (i : LibId) (e : EntryInfo) : State :=
  ({ s with loader := { s.loader with job := none } } : State).modCursor h fun c =>
    { c with back := .loaded (s.copiedShape i e) }

theorem State.finishJob_of_running {e : EntryInfo} (hjob : s.loader.job = some (h, i))
    (hinfo : (s.entry i).info? = some e) : s.finishJob = (s.loaded h i e).queueWaiting h := by
  unfold State.finishJob
  rw [hjob]
  dsimp only
  rw [hinfo]
  rfl

theorem State.loaded_head (s : State) (h : HeadId) (i : LibId) (e : EntryInfo) : (s.loaded h i e).head h =
    { s.head h with cursor := { (s.head h).cursor with back := .loaded (s.copiedShape i e) } } :=
  State.head_modHead_same _ h _

theorem State.queueWaiting_of_none (hnone : (s.head h).cursor.waiting = none) : s.queueWaiting h = s := by
  unfold State.queueWaiting
  rw [hnone]

theorem State.queueWaiting_of_some {j : LibId} (hsome : (s.head h).cursor.waiting = some j) :
    s.queueWaiting h = ({ s with loader := { s.loader with queue := s.loader.queue ++ [(h, j)] } } : State).modCursor h
      fun c => { c with waiting := none } := by
  unfold State.queueWaiting
  rw [hsome]

theorem State.queueWaiting_head (s : State) (h : HeadId) : (s.queueWaiting h).head h =
    { s.head h with cursor := { (s.head h).cursor with waiting := none } } := by
  cases hwaiting : (s.head h).cursor.waiting with
  | none =>
    rw [State.queueWaiting_of_none hwaiting, ← hwaiting]
  | some j =>
    rw [State.queueWaiting_of_some hwaiting]
    exact State.head_modHead_same _ h _

theorem State.queueWaiting_others (s : State) (h : HeadId) : OtherHeads h s (s.queueWaiting h) := by
  cases hwaiting : (s.head h).cursor.waiting with
  | none => rw [State.queueWaiting_of_none hwaiting]; exact OtherHeads.refl h s
  | some j =>
    rw [State.queueWaiting_of_some hwaiting]
    exact State.modHead_others { s with loader := { s.loader with queue := s.loader.queue ++ [(h, j)] } } h _

theorem State.finishJob_others (s : State) (h : HeadId) (i : LibId) (e : EntryInfo) :
    OtherHeads h s ((s.loaded h i e).queueWaiting h) :=
  (State.modHead_others { s with loader := { s.loader with job := none } } h _).trans
    (State.queueWaiting_others (s.loaded h i e) h)

end

/-- Settles O43: JOB_START and SHAPE_LOAD_COMPLETION, with and without something to serve. -/
theorem shapeLoaderServesTheQueue : Obligations.ShapeLoaderServesTheQueue := by
  refine ⟨?_, ?_, ?_, ?_⟩
  · intro s h i queue hready hloader ok
    have hstart := State.startJob_of_queued hloader
    have honly := State.setLoader_only s ⟨queue, none⟩
    refine ⟨fun hnone => ?_, fun hsome => ?_⟩
    · rw [if_neg (by rw [hnone]; nofun)] at hstart
      refine ⟨_, exec_jobStart_of_ready hready, ?_⟩
      rw [hstart]
      exact ⟨(honly.weaken (by decide)).trans ((State.raise_only _ _).weaken (by decide)), rfl, rfl⟩
    · rw [if_pos (Option.isSome_iff_ne_none.2 hsome)] at hstart
      refine ⟨_, exec_jobStart_of_ready hready, ?_⟩
      rw [hstart]
      refine ⟨(honly.weaken (by decide)).trans ((State.beginJob_only _ _ _).weaken (by decide)),
        State.beginJob_loader _ h i, State.beginJob_others { s with loader := ⟨queue, none⟩ } h i,
        State.beginJob_head _ h i, ?_, (State.beginJob_directory { s with loader := ⟨queue, none⟩ } h i).info⟩
      exact beginJob_usesOk (s := { s with loader := ⟨queue, none⟩ }) (Entry.isValid_of_validOf hsome) ok
  · intro s hready hunable
    rw [exec_jobStart_of_ready hready, State.startJob_of_unable hunable]
  · intro s hready hjob
    rw [exec_shapeLoadCompletion_of_ready hready, State.finishJob_of_idle hjob]
  · intro s h i e hready hjob hinfo
    have hfinish := State.finishJob_of_running hjob hinfo
    have hhead := s.loaded_head h i e
    refine ⟨_, exec_shapeLoadCompletion_of_ready hready, State.finishJob_only s, ?_⟩
    rw [hfinish]
    refine ⟨State.finishJob_others s h i e, ?_, fun j hwaiting => ?_, fun hwaiting => ?_⟩
    · rw [State.queueWaiting_head, hhead]
      rfl
    · rw [State.queueWaiting_of_some (j := j) (by rw [hhead]; exact hwaiting)]
      rfl
    · rw [State.queueWaiting_of_none (by rw [hhead]; exact hwaiting)]
      rfl

/-! ### CURSOR_MOVE, CURSOR_SHOW and CURSOR_PALETTE (R137, R138) -/

section
variable {s : State} {h : HeadId}

theorem signedOf_toNat (x : BitVec 16) : signedOf x.toNat = x.toInt := by
  unfold signedOf
  rw [BitVec.ofNat_toNat, BitVec.setWidth_eq]

theorem cursorInRange_iff {timing : Option Timing} {x y width height : Int}
    (harea : (width, height) = match timing with
      | some t => ((t.activeWidth : Int), (t.activeLines : Int))
      | none => (1920, 1080)) :
    cursorInRange timing x y = true ↔ -63 ≤ x ∧ x ≤ width - 1 ∧ -63 ≤ y ∧ y ≤ height - 1 := by
  unfold cursorInRange
  cases timing with
  | none =>
    cases harea
    simp only [Bool.and_eq_true, decide_eq_true_eq]
    omega
  | some t =>
    cases harea
    simp only [Bool.and_eq_true, decide_eq_true_eq]
    omega

theorem cursorMoveBody_eq (x y : BitVec 16) :
    cursorMoveBody (byteOf h.val :: (leBytes 2 x.toNat ++ leBytes 2 y.toNat)) s =
      if cursorInRange (s.head h).timing x.toInt y.toInt then
        withCursorReport .ok h (s.modCursor h fun c => { c with pendingPosition := some (x.toInt, y.toInt) })
      else refuse .badValue s := by
  have hx : signedOf (u16At (byteOf h.val :: (leBytes 2 x.toNat ++ leBytes 2 y.toNat)) 1) = x.toInt := by
    rw [← signedOf_toNat]
    exact congrArg signedOf (leNat_leBytes_of_lt (k := 2) x.isLt)
  have hy : signedOf (u16At (byteOf h.val :: (leBytes 2 x.toNat ++ leBytes 2 y.toNat)) 3) = y.toInt := by
    rw [← signedOf_toNat]
    exact congrArg signedOf (leNat_leBytes_of_lt (k := 2) y.isLt)
  unfold cursorMoveBody
  rw [hx, hy]
  exact withIndex_byteOf h (by decide) _ _ _

theorem cursorShowBody_eq (mode : Byte) :
    cursorShowBody [byteOf h.val, mode] s =
      if mode = 0 then withCursorReport .ok h (s.modCursor h fun c => { c with visible := false })
      else if mode = 1 then withCursorReport .ok h (s.modCursor h fun c => { c with visible := true })
      else if mode = 2 then withCursorReport .ok h s
      else refuse .badValue s := withIndex_byteOf h (by decide) _ _ _

theorem cursorPaletteBody_eq (a b : Triple) :
    cursorPaletteBody [byteOf h.val, a.y, a.cb, a.cr, b.y, b.cb, b.cr] s =
      withCursorReport .ok h (s.modCursor h fun c => { c with colourA := a, colourB := b }) :=
  withIndex_byteOf h (by decide) _ _ _

end

/-- A cursor request that changes the head's cursor and answers with the cursor report. -/
theorem performsReporting_modCursor {c : Instr} {s : State} {r : Request} {rest : List Request} {code : Byte}
    {rule : LengthRule} {body : Body} {h : HeadId} {f : Cursor → Cursor} (he : exec c s = s.runRequest code body)
    (ht : Takes s r rest code) (hr : commandRule code = some rule) (hl : rule.allows r.payload.length = true)
    (hb : body r.payload (s.withRequests rest) = withCursorReport .ok h ((s.withRequests rest).modCursor h f)) :
    PerformsReporting c s r rest .ok (fun t => cursorReport t h) [.heads] fun t =>
      OtherHeads h s t ∧ t.head h = { s.head h with cursor := f (s.head h).cursor } :=
  performsReporting_modHead (report := fun t => cursorReport t h) (fun u rep => cursorReport_post h r u rep) he ht hr hl
    hb

/-- Settles O44: the three requests, each by its range. -/
theorem cursorSettingsAreStored : Obligations.CursorSettingsAreStored := by
  intro s r rest h c hc
  subst hc
  refine ⟨fun x y ht hp width height harea => ?_, fun mode ht hp => ?_, fun a b ht hp => ?_⟩
  · have hlen : LengthRule.allows (.exactly 5) r.payload.length = true := by rw [hp]; rfl
    have hbody := cursorMoveBody_eq (s := s.withRequests rest) (h := h) x y
    rw [← hp] at hbody
    have hrange := cursorInRange_iff (x := x.toInt) (y := y.toInt) harea
    refine ⟨fun hout => ?_, fun hin => ?_⟩
    · exact refuses_of_body rfl ht rfl hlen (hbody.trans (if_neg fun hin => hout (hrange.1 hin)))
    · exact performsReporting_modCursor (f := fun c => { c with pendingPosition := some (x.toInt, y.toInt) }) rfl ht rfl
        hlen (hbody.trans (if_pos (hrange.2 hin)))
  · have hlen : LengthRule.allows (.exactly 2) r.payload.length = true := by rw [hp]; rfl
    have hbody := cursorShowBody_eq (s := s.withRequests rest) (h := h) mode
    rw [← hp] at hbody
    refine ⟨fun hhigh => ?_, fun hlow => ?_⟩
    · have hother : ∀ b : Byte, b.toNat ≤ 2 → mode ≠ b := fun b hb e => absurd (e ▸ hhigh) (Nat.not_lt.2 hb)
      rw [if_neg (hother 0 (by decide)), if_neg (hother 1 (by decide)), if_neg (hother 2 (by decide))] at hbody
      exact refuses_of_body rfl ht rfl hlen hbody
    · have hcases : mode = 0 ∨ mode = 1 ∨ mode = 2 := by
        have hvalue : ∀ n : Nat, n < 256 → mode.toNat = n → mode = BitVec.ofNat 8 n := fun n hn hm =>
          BitVec.eq_of_toNat_eq (by rw [hm, BitVec.toNat_ofNat, Nat.mod_eq_of_lt hn])
        rcases (by omega : mode.toNat = 0 ∨ mode.toNat = 1 ∨ mode.toNat = 2) with hm | hm | hm
        · exact .inl (hvalue 0 (by decide) hm)
        · exact .inr (.inl (hvalue 1 (by decide) hm))
        · exact .inr (.inr (hvalue 2 (by decide) hm))
      rcases hcases with rfl | rfl | rfl
      · exact performsReporting_modCursor (f := fun c => { c with visible := false }) rfl ht rfl hlen hbody
      · exact performsReporting_modCursor (f := fun c => { c with visible := true }) rfl ht rfl hlen hbody
      · exact performsReporting_of_body (u := s.withRequests rest) (report := fun t => cursorReport t h)
          (fun rep => cursorReport_post h r _ rep) rfl ht rfl hlen hbody rfl (OnlyChanges.refl _ _)
          ⟨fun _ _ => rfl, rfl⟩
  · exact performsReporting_modCursor (rule := .exactly 7) (f := fun c => { c with colourA := a, colourB := b }) rfl ht
      rfl (by rw [hp]; rfl) (by rw [hp]; exact cursorPaletteBody_eq a b)

end Sys2Proof.Machine
end

section
/-! The requests of the ancillary inserter. -/

namespace Sys2Proof.Machine

/-! ### Characters and pairs (R143, R144) -/

theorem charOf_of_low {b : Byte} (h : b.toNat ≤ 127) : charOf b = some (b.setWidth 7) :=
  if_pos (Nat.lt_succ_of_le h)

theorem charOf_of_high {b : Byte} (h : 127 < b.toNat) : charOf b = none := if_neg (Nat.not_lt.2 h)

theorem charOf_setWidth (c : BitVec 7) : charOf (c.setWidth 8) = some c := by
  have hlow : (c.setWidth 8).toNat = c.toNat := by
    rw [BitVec.toNat_setWidth, Nat.mod_eq_of_lt (Nat.lt_trans c.isLt (by decide))]
  rw [charOf_of_low (by rw [hlow]; exact Nat.le_of_lt_succ c.isLt)]
  refine congrArg some (BitVec.eq_of_toNat_eq ?_)
  rw [BitVec.toNat_setWidth, hlow, Nat.mod_eq_of_lt c.isLt]

theorem pairsOf_bytes (pairs : List CharPair) : pairsOf (pairs.map CharPair.bytes).flatten = some pairs := by
  induction pairs with
  | nil => rfl
  | cons p pairs ih =>
    show pairsOf (p.first.setWidth 8 :: p.second.setWidth 8 :: (pairs.map CharPair.bytes).flatten) = _
    unfold pairsOf
    rw [charOf_setWidth, charOf_setWidth, ih]

theorem pairsOf_of_high : ∀ {chars : List Byte}, (∃ b ∈ chars, 127 < b.toNat) → pairsOf chars = none
  | [], ⟨_, hb, _⟩ => by cases hb
  | [_], _ => rfl
  | a :: b :: rest, ⟨c, hc, hhigh⟩ => by
    unfold pairsOf
    rcases List.mem_cons.1 hc with rfl | hc
    · rw [charOf_of_high hhigh]
    · rcases List.mem_cons.1 hc with rfl | hc
      · rw [charOf_of_high hhigh]
        cases charOf a <;> rfl
      · rw [pairsOf_of_high ⟨c, hc, hhigh⟩]
        cases charOf a <;> cases charOf b <;> rfl

theorem flatten_pairBytes_length (pairs : List CharPair) :
    (pairs.map CharPair.bytes).flatten.length = 2 * pairs.length := by
  induction pairs with
  | nil => rfl
  | cons p pairs ih =>
    rw [List.map_cons, List.flatten_cons, List.length_append, ih]
    show 2 + 2 * pairs.length = 2 * (pairs.length + 1)
    omega

/-! ### The three requests (R142, R144, R148) -/

theorem inserterReport_post (h : HeadId) (r : Request) (u : State) (rep : Reply) :
    inserterReport ((u.post r rep).head h).anc = inserterReport (u.head h).anc := by
  rw [State.head_of_only (u.post_only r rep) (by decide)]

/-- An inserter request that changes the head's inserter and answers with the inserter report. -/
theorem performsReporting_modAnc {c : Instr} {s : State} {r : Request} {rest : List Request} {code : Byte}
    {rule : LengthRule} {body : Body} {h : HeadId} {f : Ancillary → Ancillary} (he : exec c s = s.runRequest code body)
    (ht : Takes s r rest code) (hr : commandRule code = some rule) (hl : rule.allows r.payload.length = true)
    (hb : body r.payload (s.withRequests rest) = withInserterReport h ((s.withRequests rest).modAnc h f)) :
    PerformsReporting c s r rest .ok (fun t => inserterReport (t.head h).anc) [.heads] fun t =>
      OtherHeads h s t ∧ t.head h = { s.head h with anc := f (s.head h).anc } :=
  performsReporting_modHead (report := fun t => inserterReport (t.head h).anc)
    (fun u rep => inserterReport_post h r u rep) he ht hr hl hb

section
variable {s : State} {h : HeadId}

/-- The ranges of ANC_CONFIG's fields. -/
def AncConfigFits (enable line first second mark : Byte) : Prop :=
  enable.toNat ≤ 1 ∧ 1 ≤ line.toNat ∧ line.toNat ≤ 8 ∧ first.toNat ≤ 127 ∧ second.toNat ≤ 127 ∧ mark.toNat ≤ 31

theorem flagOf_of_low {b : Byte} (hb : b.toNat ≤ 1) : flagOf b = some (decide (b = 1)) := by
  revert hb b; decide +kernel

theorem ancConfigBody_of_fits {enable line first second mark : Byte} (hfits : AncConfigFits enable line first second mark) :
    ancConfigBody [byteOf h.val, enable, line, first, second, mark] s =
      withInserterReport h (s.modAnc h fun a => { a with
        enable := decide (enable = 1), line := line.toNat
        defaultPair := ⟨first.setWidth 7, second.setWidth 7⟩, lowMark := mark.toNat }) := by
  obtain ⟨henable, hline, hline', hfirst, hsecond, hmark⟩ := hfits
  have hflag : flagOf (byteAt [byteOf h.val, enable, line, first, second, mark] 1) = some (decide (enable = 1)) :=
    flagOf_of_low henable
  have hone : charOf (byteAt [byteOf h.val, enable, line, first, second, mark] 3) = some (first.setWidth 7) :=
    charOf_of_low hfirst
  have htwo : charOf (byteAt [byteOf h.val, enable, line, first, second, mark] 4) = some (second.setWidth 7) :=
    charOf_of_low hsecond
  refine (withIndex_byteOf h (by decide) _ _ _).trans ?_
  rw [hflag, hone, htwo]
  exact if_pos ⟨hline, hline', hmark⟩

theorem ancConfigBody_of_not_fits {enable line first second mark : Byte}
    (hout : ¬ AncConfigFits enable line first second mark) :
    ancConfigBody [byteOf h.val, enable, line, first, second, mark] s = refuse .badValue s := by
  refine (withIndex_byteOf h (by decide) _ _ _).trans ?_
  split
  · rename_i on one two hflag hone htwo
    refine if_neg fun hin => hout ⟨?_, hin.1, hin.2.1, ?_, ?_, hin.2.2⟩
    · by_contra hhigh
      rw [show flagOf (byteAt [byteOf h.val, enable, line, first, second, mark] 1) = none from
        flagOf_none (Nat.lt_of_not_le hhigh)] at hflag
      cases hflag
    · by_contra hhigh
      rw [show charOf (byteAt [byteOf h.val, enable, line, first, second, mark] 3) = none from
        charOf_of_high (Nat.lt_of_not_le hhigh)] at hone
      cases hone
    · by_contra hhigh
      rw [show charOf (byteAt [byteOf h.val, enable, line, first, second, mark] 4) = none from
        charOf_of_high (Nat.lt_of_not_le hhigh)] at htwo
      cases htwo
  · rfl

theorem ancPushBody_of_pairs {chars : List Byte} {pairs : List CharPair} (hpairs : pairsOf chars = some pairs) :
    ancPushBody (byteOf h.val :: chars) s =
      if 32 < (s.head h).anc.queue.length + pairs.length then refuse .ancFull s
      else withInserterReport h (s.modAnc h fun a => { a with queue := a.queue ++ pairs }) := by
  have hdrop : pairsOf ((byteOf h.val :: chars).drop 1) = some pairs := hpairs
  refine (withIndex_byteOf h (by decide) _ _ _).trans ?_
  rw [hdrop]
  rfl

theorem ancPushBody_of_none {chars : List Byte} (hpairs : pairsOf chars = none) :
    ancPushBody (byteOf h.val :: chars) s = refuse .badValue s := by
  have hdrop : pairsOf ((byteOf h.val :: chars).drop 1) = none := hpairs
  refine (withIndex_byteOf h (by decide) _ _ _).trans ?_
  rw [hdrop]

theorem ancFlushBody_eq : ancFlushBody [byteOf h.val] s =
    withInserterReport h (s.modAnc h fun a => { a with queue := [] }) := withIndex_byteOf h (by decide) _ _ _

end

theorem ancPush_allows_iff {b : Byte} {chars : List Byte} : LengthRule.allows (.oddBetween 3 33) (b :: chars).length = true ↔
    2 ≤ chars.length ∧ chars.length ≤ 32 ∧ chars.length % 2 = 0 := by
  simp only [LengthRule.allows, List.length_cons, Bool.and_eq_true, decide_eq_true_eq]
  omega

/-- Settles O45: ANC_CONFIG by its ranges, ANC_PUSH by its characters and the room, ANC_FLUSH. -/
theorem inserterRequestsActOnTheQueue : Obligations.InserterRequestsActOnTheQueue := by
  intro s r rest h a ha
  subst ha
  refine ⟨fun enable line first second mark ht hp => ?_, fun pairs ht hone hmost hp => ?_,
    fun chars ht hp hone hmost heven hhigh => ?_, fun ht hp => ?_⟩
  · have hlen : LengthRule.allows (.exactly 6) r.payload.length = true := by rw [hp]; rfl
    refine ⟨fun hout => ?_, fun henable hline hline' hfirst hsecond hmark => ?_⟩
    · have hnot : ¬ AncConfigFits enable line first second mark := by unfold AncConfigFits; omega
      exact refuses_of_body rfl ht rfl hlen (by rw [hp]; exact ancConfigBody_of_not_fits hnot)
    · have hbody := ancConfigBody_of_fits (s := s.withRequests rest) (h := h)
        ⟨henable, hline, hline', hfirst, hsecond, hmark⟩
      rw [← hp] at hbody
      exact performsReporting_modAnc (f := fun a => { a with
        enable := decide (enable = 1), line := line.toNat
        defaultPair := ⟨first.setWidth 7, second.setWidth 7⟩, lowMark := mark.toNat }) rfl ht rfl hlen hbody
  · have hlen : LengthRule.allows (.oddBetween 3 33) r.payload.length = true := by
      rw [hp, ancPush_allows_iff, flatten_pairBytes_length]
      omega
    have hbody := ancPushBody_of_pairs (s := s.withRequests rest) (h := h) (pairsOf_bytes pairs)
    rw [← hp] at hbody
    refine ⟨fun hfull => refuses_of_body rfl ht rfl hlen (hbody.trans (if_pos hfull)), fun hroom => ?_⟩
    exact performsReporting_modAnc (f := fun a => { a with queue := a.queue ++ pairs }) rfl ht rfl hlen
      (hbody.trans (if_neg (Nat.not_lt.2 hroom)))
  · have hlen : LengthRule.allows (.oddBetween 3 33) r.payload.length = true := by
      rw [hp, ancPush_allows_iff]
      exact ⟨hone, hmost, heven⟩
    exact refuses_of_body rfl ht rfl hlen (by rw [hp]; exact ancPushBody_of_none (pairsOf_of_high hhigh))
  · exact performsReporting_modAnc (rule := .exactly 1) (f := fun a => { a with queue := [] }) rfl ht rfl
      (by rw [hp]; rfl) (by rw [hp]; exact ancFlushBody_eq)

end Sys2Proof.Machine
end

section
/-! The proofs about frames (R152, R153) and about the notices that are coalesced (R167). -/

namespace Sys2Proof.Machine

/-! ### Coalescing (R167) -/

theorem Notice.coalescable_iff (n : Notice) :
    n.coalescable = true ↔ n.code = 0x02 ∨ n.code = 0x06 ∨ n.code = 0x07 ∨ n.code = 0x0D := by
  cases n <;> simp [Notice.coalescable, Notice.code]

/-- Entries that a notice does not merge into stay as they are. -/
theorem NoticeEntry.map_merge_of_none {n : Notice} {l : List NoticeEntry} (h : ∀ x ∈ l, ¬ x.mergesWith n = true) :
    l.map (fun e => if e.mergesWith n then { e with notice := n } else e) = l :=
  (List.map_congr_left fun x hx => if_neg (h x hx)).trans (List.map_id' l)

/-- Settles O52: of the queue's entries only the one NEW entry of the kind and object merges with the notice. -/
theorem noticesCoalesce : Obligations.NoticesCoalesce := by
  refine ⟨Notice.coalescable_iff, fun n q l₁ l₂ e hn hq hnew hcode hobject hothers => ?_⟩
  have he : e.mergesWith n = true := NoticeEntry.mergesWith_iff.mpr ⟨hnew, hcode, hobject⟩
  have hmerge : (n.coalescable && q.entries.any (NoticeEntry.mergesWith n)) = true := by
    rw [hn, hq]; simp [he]
  have hstay : ∀ l : List NoticeEntry, (∀ x ∈ l, x ∈ l₁ ++ l₂) →
      l.map (fun x => if x.mergesWith n then { x with notice := n } else x) = l := fun l hl =>
    NoticeEntry.map_merge_of_none fun x hx hm => hothers x (hl x hx) (NoticeEntry.mergesWith_iff.mp hm)
  have hmap : q.entries.map (fun x => if x.mergesWith n then { x with notice := n } else x) =
      l₁ ++ { e with notice := n } :: l₂ := by
    rw [hq, List.map_append, List.map_cons, if_pos he, hstay l₁ fun x hx => List.mem_append_left _ hx,
      hstay l₂ fun x hx => List.mem_append_right _ hx]
  unfold NoticeQueue.raise
  rw [if_pos hmerge, hmap]

/-! ### Frames (R152, R153) -/

theorem heldLength_leBytes {n : Nat} (h : n < 65536) (bs : List Byte) : heldLength (leBytes 2 n ++ bs) = n :=
  leNat_leBytes_of_lt (k := 2) h

theorem byteAt_append_right (l m : List Byte) (j : Nat) : byteAt (l ++ m) (l.length + j) = byteAt m j := by
  exact (List.getD_append_right l m 0 _ (Nat.le_add_right ..)).trans (by rw [Nat.add_sub_cancel_left]; rfl)

/-- The 2-byte field behind a run of bytes. -/
theorem u16At_append (l : List Byte) {n : Nat} (h : n < 65536) : u16At (l ++ leBytes 2 n) l.length = n := by
  unfold u16At
  rw [byteAt_append_right l _ 1, ← Nat.add_zero l.length, byteAt_append_right l _ 0]
  exact leNat_leBytes_of_lt (k := 2) h

theorem frameBody_length (kind tag code status : Byte) (payload : List Byte) :
    (frameBody kind tag code status payload).length = 6 + payload.length := by
  simp [frameBody]; omega

theorem frameTail_length (kind tag code status : Byte) (payload : List Byte) :
    (frameTail kind tag code status payload).length = 8 + payload.length := by
  unfold frameTail
  rw [List.length_append, frameBody_length, leBytes_length]; omega

/-- A frame's bytes begin with the length field. -/
theorem frameTail_eq (kind tag code status : Byte) (payload : List Byte) :
    frameTail kind tag code status payload = leBytes 2 (4 + payload.length) ++ ([kind, tag, code, status] ++ payload ++
      leBytes 2 (crc16 (frameBody kind tag code status payload)).toNat) := by
  simp only [frameTail, frameBody, List.append_assoc]

theorem heldLength_frameTail (kind tag code status : Byte) {payload : List Byte} (h : payload.length ≤ 256) :
    heldLength (frameTail kind tag code status payload) = 4 + payload.length := by
  rw [frameTail_eq]; exact heldLength_leBytes (by omega) _

theorem frameOf_frameTail (kind tag code status : Byte) {payload : List Byte} (h : payload.length ≤ 256) :
    frameOf (frameTail kind tag code status payload) =
      ⟨kind, tag, code, status, payload, crc16 (frameBody kind tag code status payload)⟩ := by
  have hcrc : BitVec.ofNat 16 (u16At (frameTail kind tag code status payload) (4 + payload.length + 2)) =
      crc16 (frameBody kind tag code status payload) := by
    have hat : 4 + payload.length + 2 = (frameBody kind tag code status payload).length := by
      rw [frameBody_length]; omega
    rw [hat]
    exact (congrArg (BitVec.ofNat 16) (u16At_append _ (BitVec.isLt _))).trans (BitVec.ofNat_toNat _ _ |>.trans (BitVec.setWidth_eq _))
  have hpayload : ((frameTail kind tag code status payload).drop 6).take (4 + payload.length - 4) = payload := by
    rw [Nat.add_sub_cancel_left]
    exact List.take_left' rfl
  unfold frameOf
  rw [heldLength_frameTail kind tag code status h, hcrc, hpayload]
  rfl

theorem parseFrame_frameTail (kind tag code status : Byte) {payload : List Byte} (h : payload.length ≤ 256) :
    parseFrame (frameTail kind tag code status payload) =
      .good ⟨kind, tag, code, status, payload, crc16 (frameBody kind tag code status payload)⟩ := by
  have hcheck : (frameTail kind tag code status payload).take (2 + (4 + payload.length)) =
      frameBody kind tag code status payload :=
    List.take_left' (by rw [frameBody_length]; omega)
  unfold parseFrame
  rw [heldLength_frameTail kind tag code status h, frameOf_frameTail kind tag code status h, hcheck, frameTail_length,
    if_neg (by omega), if_neg (by omega), if_neg (by omega), if_neg (by omega), if_pos rfl]

/-- Bytes that stop short of the length their length field gives leave the receiver inside the frame. -/
theorem parseFrame_of_short {bs : List Byte} (hlength : 2 ≤ bs.length → 4 ≤ heldLength bs ∧ heldLength bs ≤ 260)
    (hshort : 2 ≤ bs.length → bs.length < 4 + heldLength bs) :
    parseFrame bs = .inLength ∨ parseFrame bs = .inBody ∨ parseFrame bs = .inCheck := by
  unfold parseFrame
  by_cases h₂ : bs.length < 2
  · rw [if_pos h₂]; exact .inl rfl
  · have hl := hlength (by omega)
    have hs := hshort (by omega)
    rw [if_neg h₂, if_neg (by omega)]
    by_cases hb : bs.length < 2 + heldLength bs
    · rw [if_pos hb]; exact .inr (.inl rfl)
    · rw [if_neg hb, if_pos hs]; exact .inr (.inr rfl)

theorem parseFrame_take (kind tag code status : Byte) {payload : List Byte} (h : payload.length ≤ 256) {k : Nat}
    (hk : k < (frameTail kind tag code status payload).length) :
    parseFrame ((frameTail kind tag code status payload).take k) = .inLength ∨
    parseFrame ((frameTail kind tag code status payload).take k) = .inBody ∨
    parseFrame ((frameTail kind tag code status payload).take k) = .inCheck := by
  rw [frameTail_length] at hk
  have hlen : ((frameTail kind tag code status payload).take k).length = k := by
    rw [List.length_take, frameTail_length]; omega
  have hheld : 2 ≤ k → heldLength ((frameTail kind tag code status payload).take k) = 4 + payload.length := by
    intro h₂
    rw [frameTail_eq, List.take_append, List.take_of_length_le (by rw [leBytes_length]; exact h₂)]
    exact heldLength_leBytes (by omega) _
  refine parseFrame_of_short (fun h₂ => ?_) fun h₂ => ?_ <;> rw [hlen] at h₂ <;> rw [hheld h₂]
  · omega
  · rw [hlen]; omega

/-- Settles O46. -/
theorem framesReadBack : Obligations.FramesReadBack := fun kind tag code status payload h =>
  ⟨parseFrame_frameTail kind tag code status h, by rw [frameBytes, List.length_cons, frameTail_length]; omega,
    fun _ hk => parseFrame_take kind tag code status h hk⟩

end Sys2Proof.Machine
end

section
/-! The proofs about the receiver (R154, R155) and about good frames (R156 to R158, R163, R172). -/

namespace Sys2Proof.Machine

/-! ### What bytes amount to (Table 9-3) -/

/-- The bytes held leave the receiver inside the frame. -/
def Parsed.Incomplete (p : Parsed) : Prop := p = .inLength ∨ p = .inBody ∨ p = .inCheck

/-- The length field is there and in range. -/
def LengthGood (bs : List Byte) : Prop := 2 ≤ bs.length ∧ 4 ≤ heldLength bs ∧ heldLength bs ≤ 260

theorem parseFrame_lengthError_iff {bs : List Byte} :
    parseFrame bs = .lengthError ↔ 2 ≤ bs.length ∧ (heldLength bs < 4 ∨ 260 < heldLength bs) := by
  unfold parseFrame
  split_ifs <;> simp <;> omega

theorem parseFrame_crcError_iff {bs : List Byte} :
    parseFrame bs = .crcError ↔ LengthGood bs ∧ 4 + heldLength bs ≤ bs.length ∧
      crc16 (bs.take (2 + heldLength bs)) ≠ (frameOf bs).crc := by
  unfold parseFrame LengthGood
  split_ifs <;> simp [*] <;> omega

theorem parseFrame_good_iff {bs : List Byte} {f : Frame} :
    parseFrame bs = .good f ↔ LengthGood bs ∧ 4 + heldLength bs ≤ bs.length ∧
      crc16 (bs.take (2 + heldLength bs)) = (frameOf bs).crc ∧ f = frameOf bs := by
  unfold parseFrame LengthGood
  split_ifs with h₁ h₂ h₃ h₄ hcrc
  · simp; omega
  · simp; omega
  · simp; omega
  · simp; omega
  · have hgood : (2 ≤ bs.length ∧ 4 ≤ heldLength bs ∧ heldLength bs ≤ 260) ∧ 4 + heldLength bs ≤ bs.length := by omega
    simp [hgood, hcrc, eq_comm]
  · simp [hcrc]

theorem parseFrame_incomplete_iff {bs : List Byte} :
    (parseFrame bs).Incomplete ↔ bs.length < 2 ∨ LengthGood bs ∧ bs.length < 4 + heldLength bs := by
  unfold parseFrame LengthGood Parsed.Incomplete
  split_ifs <;> simp <;> omega

theorem parseFrame_cases (bs : List Byte) : (parseFrame bs).Incomplete ∨ parseFrame bs = .lengthError ∨
    parseFrame bs = .crcError ∨ ∃ f, parseFrame bs = .good f := by
  unfold Parsed.Incomplete
  cases parseFrame bs <;> simp

/-! ### More bytes do not change what the first ones amount to -/

theorem byteAt_append_left {l : List Byte} {j : Nat} (h : j < l.length) (m : List Byte) :
    byteAt (l ++ m) j = byteAt l j := List.getD_append l m 0 j h

theorem u16At_append_left {l : List Byte} {j : Nat} (h : j + 1 < l.length) (m : List Byte) :
    u16At (l ++ m) j = u16At l j := by
  unfold u16At; rw [byteAt_append_left (by omega), byteAt_append_left h]

theorem heldLength_append {l : List Byte} (h : 2 ≤ l.length) (m : List Byte) : heldLength (l ++ m) = heldLength l :=
  u16At_append_left h m

theorem LengthGood.append {l : List Byte} (h : LengthGood l) (m : List Byte) : LengthGood (l ++ m) := by
  obtain ⟨hlen, hrange⟩ := h
  refine ⟨by rw [List.length_append]; omega, ?_⟩
  rw [heldLength_append hlen]; exact hrange

theorem frameOf_append {l : List Byte} (hgood : LengthGood l) (hall : 4 + heldLength l ≤ l.length) (m : List Byte) :
    frameOf (l ++ m) = frameOf l := by
  obtain ⟨hlen, hmin, -⟩ := hgood
  have hpayload : ((l ++ m).drop 6).take (heldLength l - 4) = (l.drop 6).take (heldLength l - 4) := by
    rw [List.drop_append_of_le_length (by omega), List.take_append_of_le_length (by rw [List.length_drop]; omega)]
  unfold frameOf
  rw [heldLength_append hlen, hpayload, u16At_append_left (by omega), byteAt_append_left (by omega),
    byteAt_append_left (by omega), byteAt_append_left (by omega), byteAt_append_left (by omega)]

theorem parseFrame_append_of_lengthError {l : List Byte} (h : parseFrame l = .lengthError) (m : List Byte) :
    parseFrame (l ++ m) = .lengthError := by
  obtain ⟨hlen, hbad⟩ := parseFrame_lengthError_iff.mp h
  refine parseFrame_lengthError_iff.mpr ⟨by rw [List.length_append]; omega, ?_⟩
  rw [heldLength_append hlen]; exact hbad

/-- What the CRC-16 is compared with does not change when bytes follow. -/
theorem crc_append {l : List Byte} (hgood : LengthGood l) (hall : 4 + heldLength l ≤ l.length) (m : List Byte) :
    4 + heldLength (l ++ m) ≤ (l ++ m).length ∧
    crc16 ((l ++ m).take (2 + heldLength (l ++ m))) = crc16 (l.take (2 + heldLength l)) := by
  rw [heldLength_append hgood.1, List.take_append_of_le_length (by omega), List.length_append]
  exact ⟨by omega, rfl⟩

theorem parseFrame_append_of_crcError {l : List Byte} (h : parseFrame l = .crcError) (m : List Byte) :
    parseFrame (l ++ m) = .crcError := by
  obtain ⟨hgood, hall, hcrc⟩ := parseFrame_crcError_iff.mp h
  obtain ⟨hall', hcrc'⟩ := crc_append hgood hall m
  refine parseFrame_crcError_iff.mpr ⟨hgood.append m, hall', ?_⟩
  rw [hcrc', frameOf_append hgood hall]; exact hcrc

theorem parseFrame_append_of_good {l : List Byte} {f : Frame} (h : parseFrame l = .good f) (m : List Byte) :
    parseFrame (l ++ m) = .good f := by
  obtain ⟨hgood, hall, hcrc, hf⟩ := parseFrame_good_iff.mp h
  obtain ⟨hall', hcrc'⟩ := crc_append hgood hall m
  refine parseFrame_good_iff.mpr ⟨hgood.append m, hall', ?_⟩
  rw [hcrc', frameOf_append hgood hall]; exact ⟨hcrc, hf⟩

/-- The byte that completes a good frame is its last one. -/
theorem length_of_completed {held : List Byte} {b : Byte} {f : Frame} (hheld : (parseFrame held).Incomplete)
    (h : parseFrame (held ++ [b]) = .good f) : (held ++ [b]).length = 4 + heldLength (held ++ [b]) := by
  obtain ⟨⟨-, hmin, -⟩, hall, -⟩ := parseFrame_good_iff.mp h
  rw [List.length_append, List.length_singleton] at hall ⊢
  rcases parseFrame_incomplete_iff.mp hheld with hshort | ⟨⟨hlen, -⟩, hshort⟩
  · omega
  · rw [heldLength_append hlen] at hall hmin ⊢; omega

/-! ### One byte at the receiver -/

theorem State.setReceiver_self {s : State} {r : Receiver} (h : s.link.receiver = r) : s.setReceiver r = s := by
  subst h; rfl

theorem byteEvent_of_incomplete {held : List Byte} {b : Byte} (h : (parseFrame (held ++ [b])).Incomplete) :
    byteEvent (.inFrame held) b = .goesOn (.inFrame (held ++ [b])) := by
  rcases h with h | h | h <;> simp only [byteEvent, h]

theorem State.receive_of_goesOn {s : State} {b : Byte} {r : Receiver} (h : byteEvent s.link.receiver b = .goesOn r) :
    s.receive b = s.setReceiver r := by
  unfold State.receive; rw [h]

theorem State.receive_of_lengthError {s : State} {b : Byte} {bs : List Byte}
    (h : byteEvent s.link.receiver b = .lengthError bs) :
    s.receive b = State.examineAgain 0 bs (s.setReceiver .hunt).countLengthError := by
  unfold State.receive; rw [h]

theorem State.receive_of_crcError {s : State} {b : Byte} {bs : List Byte}
    (h : byteEvent s.link.receiver b = .crcError bs) :
    s.receive b = State.examineAgain 0 bs (s.setReceiver .hunt).countCrcError := by
  unfold State.receive; rw [h]

theorem State.receive_of_good {s : State} {b : Byte} {f : Frame} (h : byteEvent s.link.receiver b = .good f) :
    s.receive b = (s.setReceiver .hunt).takeFrame f := by
  unfold State.receive; rw [h]

/-! ### Bytes examined again (R155) -/

theorem State.examineAgain_skip (n : Nat) (bs : List Byte) (s : State) :
    State.examineAgain n bs s = State.examineAgain 0 (bs.drop n) s := by
  induction bs generalizing n with
  | nil => cases n <;> rfl
  | cons b bs ih =>
    cases n with
    | zero => rfl
    | succ n => exact ih n

theorem State.examineAgain_of_other {s : State} {b : Byte} {bs : List Byte} (h : b ≠ 0xA5) :
    State.examineAgain 0 (b :: bs) s = State.examineAgain 0 bs s := by
  rw [State.examineAgain, if_neg h]

theorem State.examineAgain_of_incomplete {s : State} {bs : List Byte} (h : (parseFrame bs).Incomplete) :
    State.examineAgain 0 (0xA5 :: bs) s = s.setReceiver (.inFrame bs) := by
  rw [State.examineAgain, if_pos rfl]
  rcases h with h | h | h <;> rw [h]

theorem State.examineAgain_of_lengthError {s : State} {bs : List Byte} (h : parseFrame bs = .lengthError) :
    State.examineAgain 0 (0xA5 :: bs) s = State.examineAgain 0 bs s.countLengthError := by
  rw [State.examineAgain, if_pos rfl, h]

theorem State.examineAgain_of_crcError {s : State} {bs : List Byte} (h : parseFrame bs = .crcError) :
    State.examineAgain 0 (0xA5 :: bs) s = State.examineAgain 0 bs s.countCrcError := by
  rw [State.examineAgain, if_pos rfl, h]

theorem State.examineAgain_of_good {s : State} {bs : List Byte} {f : Frame} (h : parseFrame bs = .good f) :
    State.examineAgain 0 (0xA5 :: bs) s = State.examineAgain 0 (bs.drop (4 + heldLength bs)) (s.takeFrame f) := by
  rw [State.examineAgain, if_pos rfl, h]
  exact State.examineAgain_skip _ bs _

theorem State.answerNow_receiver (s : State) (e : ReplyEntry) (f : LinkCounters → LinkCounters) :
    (s.answerNow e f).link.receiver = s.link.receiver := by
  unfold State.answerNow; split <;> rfl

theorem State.admission_receiver (s : State) (f : Frame) : (s.admission f).link.receiver = s.link.receiver := by
  unfold State.admission
  split
  · exact State.answerNow_receiver _ _ _
  split
  · exact State.answerNow_receiver _ _ _
  split
  · exact State.answerNow_receiver _ _ _
  split
  · exact State.answerNow_receiver _ _ _
  split
  · exact State.answerNow_receiver _ _ _
  · rfl

theorem State.acknowledge_receiver (s : State) (f : Frame) :
    (s.acknowledge f).link.receiver = s.link.receiver := by
  unfold State.acknowledge
  repeat' split
  all_goals rfl

theorem State.takeFrame_receiver (s : State) (f : Frame) : (s.takeFrame f).link.receiver = s.link.receiver := by
  unfold State.takeFrame
  repeat' split
  · exact State.admission_receiver _ _
  · exact State.acknowledge_receiver _ _
  · rfl

/-- The bytes behind a start byte are received one by one as they are examined: up to the byte that ends the
frame or breaks it the receiver holds them, and from there on the shorter runs are received as `shorter` says. -/
theorem State.foldl_receive_inFrame {n : Nat} {s : State} (hs : s.link.receiver = .hunt)
    (shorter : ∀ bs : List Byte, bs.length ≤ n → ∀ u : State, u.link.receiver = .hunt →
      State.examineAgain 0 bs u = bs.foldl State.receive u)
    (rest held : List Byte) (hheld : (parseFrame held).Incomplete) (hn : (held ++ rest).length ≤ n) :
    rest.foldl State.receive (s.setReceiver (.inFrame held)) = State.examineAgain 0 (0xA5 :: (held ++ rest)) s := by
  have hhunt : ∀ r, (s.setReceiver r).setReceiver .hunt = s := fun _ => State.setReceiver_self hs
  induction rest generalizing held with
  | nil => rw [List.append_nil, State.examineAgain_of_incomplete hheld, List.foldl_nil]
  | cons b rest ih =>
    have hsplit : held ++ b :: rest = (held ++ [b]) ++ rest := by simp
    rw [List.foldl_cons, hsplit]
    rw [hsplit] at hn
    have hfirst : (held ++ [b]).length ≤ n := by rw [List.length_append] at hn; omega
    rcases parseFrame_cases (held ++ [b]) with h | h | h | ⟨f, h⟩
    · rw [State.receive_of_goesOn (byteEvent_of_incomplete h)]
      exact ih (held ++ [b]) h hn
    · have hevent : byteEvent (.inFrame held) b = .lengthError (held ++ [b]) := by simp only [byteEvent, h]
      rw [State.receive_of_lengthError hevent, hhunt, State.examineAgain_of_lengthError
        (parseFrame_append_of_lengthError h rest), shorter _ hfirst _ (by exact hs), shorter _ hn _ (by exact hs), ← List.foldl_append]
    · have hevent : byteEvent (.inFrame held) b = .crcError (held ++ [b]) := by simp only [byteEvent, h]
      rw [State.receive_of_crcError hevent, hhunt, State.examineAgain_of_crcError
        (parseFrame_append_of_crcError h rest), shorter _ hfirst _ (by exact hs), shorter _ hn _ (by exact hs), ← List.foldl_append]
    · have hevent : byteEvent (.inFrame held) b = .good f := by simp only [byteEvent, h]
      have hlast := length_of_completed hheld h
      have hlen : 2 ≤ (held ++ [b]).length := (parseFrame_good_iff.mp h).1.1
      rw [State.receive_of_good hevent, hhunt, State.examineAgain_of_good (parseFrame_append_of_good h rest),
        heldLength_append hlen, ← hlast, List.drop_left]
      exact (shorter rest (by rw [List.length_append] at hn; omega) _ ((State.takeFrame_receiver s f).trans hs)).symm

/-- Examining bytes again is receiving them in HUNT. -/
theorem State.examineAgain_eq_foldl (n : Nat) : ∀ bs : List Byte, bs.length ≤ n → ∀ s : State,
    s.link.receiver = .hunt → State.examineAgain 0 bs s = bs.foldl State.receive s := by
  induction n with
  | zero => intro bs hn s _; rw [List.length_eq_zero_iff.mp (Nat.le_zero.mp hn)]; rfl
  | succ n ih =>
    intro bs hn s hs
    cases bs with
    | nil => rfl
    | cons b bs =>
      have hn' : bs.length ≤ n := Nat.le_of_succ_le_succ hn
      rw [List.foldl_cons]
      by_cases hb : b = 0xA5
      · subst hb
        have hstart : s.receive 0xA5 = s.setReceiver (.inFrame []) :=
          State.receive_of_goesOn (by rw [hs]; rfl)
        rw [hstart]
        exact (State.foldl_receive_inFrame hs ih bs [] (.inl rfl) hn').symm
      · have hpass : s.receive b = s := by
          rw [State.receive_of_goesOn (r := .hunt) (by rw [hs]; exact congrArg _ (if_neg hb)),
            State.setReceiver_self hs]
        rw [hpass, State.examineAgain_of_other hb]
        exact ih bs hn' s hs

/-! ### The receiver's commands -/

theorem OnlyChanges.eq_of_link {s t u : State} (ht : OnlyChanges [.link] s t) (hu : OnlyChanges [.link] s u)
    (hlink : t.link = u.link) : t = u := by
  have hsame : ∀ p, p ≠ Part.link → p.same u t := by
    intro p hp
    have hpt := ht p (by simpa using hp)
    have hpu := hu p (by simpa using hp)
    cases p <;> exact hpt.trans hpu.symm
  cases t; cases u
  obtain rfl := hlink
  obtain rfl := hsame .device (by decide)
  obtain rfl := hsame .notices (by decide)
  obtain rfl := hsame .pool (by decide)
  obtain rfl := hsame .ports (by decide)
  obtain rfl := hsame .heads (by decide)
  obtain rfl := hsame .library (by decide)
  obtain rfl := hsame .loader (by decide)
  obtain rfl := hsame .dram (by decide)
  obtain rfl := hsame .pending (by decide)
  rfl

theorem State.onByte_running {s : State} {b : Byte} {f : ByteEvent → State} (h : s.device.phase ≠ .held) :
    s.onByte b f = f (byteEvent s.link.receiver b) :=
  if_neg (by simpa [State.isHeld] using h)

theorem exec_receivedByte {s : State} {b : Byte} {r : Receiver} (h : s.device.phase ≠ .held)
    (hb : byteEvent s.link.receiver b = .goesOn r) : exec (.receivedByte b) s = .next (s.setReceiver r) := by
  refine congrArg Host.Outcome.next ((State.onByte_running h).trans ?_)
  rw [hb]

theorem exec_lengthError {s : State} {b : Byte} {bs : List Byte} (h : s.device.phase ≠ .held)
    (hb : byteEvent s.link.receiver b = .lengthError bs) :
    exec (.lengthError b) s = .next (State.examineAgain 0 bs (s.setReceiver .hunt).countLengthError) := by
  refine congrArg Host.Outcome.next ((State.onByte_running h).trans ?_)
  rw [hb]

theorem exec_crcError {s : State} {b : Byte} {bs : List Byte} (h : s.device.phase ≠ .held)
    (hb : byteEvent s.link.receiver b = .crcError bs) :
    exec (.crcError b) s = .next (State.examineAgain 0 bs (s.setReceiver .hunt).countCrcError) := by
  refine congrArg Host.Outcome.next ((State.onByte_running h).trans ?_)
  rw [hb]

theorem exec_gapError {s : State} {held : List Byte} (h : s.device.phase ≠ .held)
    (hr : s.link.receiver = .inFrame held) :
    exec .gapError s = .next ((s.setReceiver .hunt).countLink fun c => { c with gapErrors := c.gapErrors + 1 }) := by
  have hheld : ¬ s.isHeld = true := by simpa [State.isHeld] using h
  refine congrArg Host.Outcome.next ((if_neg hheld).trans (if_pos ?_))
  rw [hr]; rfl

theorem exec_gapError_of_hunt {s : State} (hr : s.link.receiver = .hunt) : exec .gapError s = .next s := by
  refine congrArg Host.Outcome.next ?_
  split
  · rfl
  · rw [hr]; rfl

/-- Settles O49: the re-examination is the reception of the bytes, by induction on their number. -/
theorem receiverTakesBytesAndReceivesAgain : Obligations.ReceiverTakesBytesAndReceivesAgain := by
  refine ⟨⟨fun s b hs hr => ?_, fun s b held hs hr hin => ?_, fun s held hs hr => ?_, fun s => exec_gapError_of_hunt⟩,
    fun s u b bytes hs => ⟨fun hb hu hlink => ?_, fun hb hu hlink => ?_⟩⟩
  · exact ⟨_, exec_receivedByte hs (by rw [hr]; rfl), s.setReceiver_only _, rfl⟩
  · exact ⟨_, exec_receivedByte hs (by rw [hr]; exact byteEvent_of_incomplete hin), s.setReceiver_only _, rfl⟩
  · exact ⟨_, exec_gapError hs hr, (s.setReceiver_only _).trans (State.countLink_only _ _), rfl⟩
  · have hu' : (s.setReceiver .hunt).countLengthError = u :=
      OnlyChanges.eq_of_link ((s.setReceiver_only _).trans (State.countLink_only _ _)) hu hlink.symm
    rw [exec_lengthError hs hb, hu', State.examineAgain_eq_foldl _ bytes le_rfl u (by rw [hlink])]
  · have hu' : (s.setReceiver .hunt).countCrcError = u :=
      OnlyChanges.eq_of_link ((s.setReceiver_only _).trans (State.countLink_only _ _)) hu hlink.symm
    rw [exec_crcError hs hb, hu', State.examineAgain_eq_foldl _ bytes le_rfl u (by rw [hlink])]

end Sys2Proof.Machine
end

section
/-! The proofs about good frames (R156 to R158, R163, R172). -/

namespace Sys2Proof.Machine

/-! ### A good frame (R156) -/

/-- The state in which a good frame of a known kind is handed on: the receiver in HUNT and the frame counted. -/
def State.afterGoodFrame (s : State) : State :=
  (s.setReceiver .hunt).countLink fun c => { c with goodFrames := c.goodFrames + 1 }

theorem State.afterGoodFrame_only (s : State) : OnlyChanges [.link] s s.afterGoodFrame :=
  (s.setReceiver_only _).trans (State.countLink_only _ _)

theorem State.onGoodFrame_of_completes {s : State} {b : Byte} {f : Frame} (h : Completes s b f) {mine : Byte → Bool}
    (hmine : mine f.kind = true) : s.onGoodFrame b mine = (s.setReceiver .hunt).takeFrame f := by
  refine (State.onByte_running h.running).trans ?_
  rw [h.good]
  exact if_pos hmine

theorem exec_request_frame {s : State} {b : Byte} {f : Frame} (h : Completes s b f) (hk : f.kind = 0x01) :
    exec (.request b) s = .next (s.afterGoodFrame.admission f) := by
  refine congrArg Host.Outcome.next ((State.onGoodFrame_of_completes h (decide_eq_true hk)).trans ?_)
  exact if_pos hk

theorem exec_noticeAck_frame {s : State} {b : Byte} {f : Frame} (h : Completes s b f) (hk : f.kind = 0x02) :
    exec (.noticeAck b) s = .next (s.afterGoodFrame.acknowledge f) := by
  refine congrArg Host.Outcome.next ((State.onGoodFrame_of_completes h (decide_eq_true hk)).trans ?_)
  have hnot : ¬ f.kind = kindRequest := by rw [hk]; decide
  exact (if_neg hnot).trans (if_pos hk)

theorem exec_unknownKindFrame {s : State} {b : Byte} {f : Frame} (h : Completes s b f) (h₁ : f.kind ≠ 0x01)
    (h₂ : f.kind ≠ 0x02) : exec (.unknownKindFrame b) s =
      .next ((s.setReceiver .hunt).countLink fun c => { c with unknownKinds := c.unknownKinds + 1 }) := by
  have hmine : (decide (f.kind ≠ kindRequest) && decide (f.kind ≠ kindAck)) = true := by
    rw [Bool.and_eq_true, decide_eq_true_eq, decide_eq_true_eq]; exact ⟨h₁, h₂⟩
  refine congrArg Host.Outcome.next ((State.onGoodFrame_of_completes h
    (mine := fun k => decide (k ≠ kindRequest) && decide (k ≠ kindAck)) hmine).trans ?_)
  exact (if_neg h₁).trans (if_neg h₂)

/-! ### Admission (R157, R158) -/

theorem State.answerNow_link (s : State) (e : ReplyEntry) (count : LinkCounters → LinkCounters) :
    (s.answerNow e count).link = s.link.answered e count := by
  by_cases h : s.link.pendingAnswers < 4
  · exact (congrArg State.link (if_pos h)).trans (if_pos h).symm
  · exact (congrArg State.link (if_neg h)).trans (if_neg h).symm

theorem State.admission_of_starting {s : State} {f : Frame} (h : s.device.phase = .starting) :
    s.admission f = s.answerNow (immediate f .notReady) id := if_pos h

theorem State.admission_of_status {s : State} {f : Frame} (h : s.device.phase ≠ .starting) (hst : f.status ≠ 0) :
    s.admission f = s.answerNow (immediate f .badValue) id := (if_neg h).trans (if_pos hst)

theorem State.admission_of_outstanding {s : State} {f : Frame} (h : s.device.phase ≠ .starting) (hst : f.status = 0)
    (htag : f.tag ∈ s.link.outstanding) : s.admission f = s.answerNow (immediate f .tagInUse) id :=
  (if_neg h).trans <| (if_neg (not_not.mpr hst)).trans (if_pos htag)

/-- A REQUEST that passes the first checks; what is left depends on the reply memory. -/
structure Admissible (s : State) (f : Frame) : Prop where
  started : s.device.phase ≠ .starting
  status : f.status = 0
  fresh : f.tag ∉ s.link.outstanding

theorem State.admission_of_remembered {s : State} {f : Frame} (h : Admissible s f) {m : MemoryEntry}
    (hm : s.link.remembered f = some m) : s.admission f =
      s.answerNow ⟨.replayed, m.tag, m.code, m.reply⟩ fun c => { c with replays := c.replays + 1 } := by
  refine (if_neg h.started).trans <| (if_neg (not_not.mpr h.status)).trans <| (if_neg h.fresh).trans ?_
  rw [hm]

theorem State.admission_of_full {s : State} {f : Frame} (h : Admissible s f) (hm : s.link.remembered f = none)
    (hfull : 4 ≤ s.link.outstanding.length) : s.admission f =
      s.answerNow (immediate f .queueFull) fun c => { c with queueFull := c.queueFull + 1 } := by
  refine (if_neg h.started).trans <| (if_neg (not_not.mpr h.status)).trans <| (if_neg h.fresh).trans ?_
  rw [hm]
  exact if_pos hfull

theorem State.admission_of_room {s : State} {f : Frame} (h : Admissible s f) (hm : s.link.remembered f = none)
    (hroom : s.link.outstanding.length < 4) : s.admission f =
      s.modLink fun l => { l with requestQueue := l.requestQueue ++ [⟨f.tag, f.code, f.payload, f.crc⟩] } := by
  refine (if_neg h.started).trans <| (if_neg (not_not.mpr h.status)).trans <| (if_neg h.fresh).trans ?_
  rw [hm]
  exact if_neg (Nat.not_le.mpr hroom)

theorem Link.remembered_of_first {l : Link} {f : Frame} {m : MemoryEntry} {l₁ l₂ : List MemoryEntry}
    (hl : l.memory = l₁ ++ m :: l₂) (htag : m.tag = f.tag) (hcrc : m.crc = f.crc)
    (hbefore : ∀ x ∈ l₁, ¬(x.tag = f.tag ∧ x.crc = f.crc)) : l.remembered f = some m := by
  unfold Link.remembered
  rw [hl, List.find?_append, List.find?_eq_none.mpr (by simpa using hbefore), Option.none_or,
    List.find?_cons_of_pos (by simp [htag, hcrc])]

theorem Link.remembered_of_none {l : Link} {f : Frame} (h : ∀ m ∈ l.memory, ¬(m.tag = f.tag ∧ m.crc = f.crc)) :
    l.remembered f = none :=
  List.find?_eq_none.mpr (by simpa using h)

/-- Settles O47: the checks are made on the link after the frame has been counted, which has the outstanding
requests and the reply memory of the link before. -/
theorem admissionChecksInOrder : Obligations.AdmissionChecksInOrder := by
  intro s b f hf hk
  refine ⟨_, exec_request_frame hf hk, s.afterGoodFrame_only.trans (State.admission_only _ f),
    fun hstarting => ?_, fun hstarted => ⟨fun hst => ?_, fun hst htag => ?_, fun hst htag => ?_⟩⟩
  · rw [State.admission_of_starting (s := s.afterGoodFrame) hstarting]; exact State.answerNow_link _ _ _
  · rw [State.admission_of_status (s := s.afterGoodFrame) hstarted hst]; exact State.answerNow_link _ _ _
  · rw [State.admission_of_outstanding (s := s.afterGoodFrame) hstarted hst htag]; exact State.answerNow_link _ _ _
  have hadm : Admissible s.afterGoodFrame f := ⟨hstarted, hst, htag⟩
  refine ⟨fun l₁ m l₂ hmem hmtag hmcrc hbefore => ?_, fun hnone => ⟨fun hfull => ?_, fun hroom => ?_⟩⟩
  · rw [State.admission_of_remembered hadm (Link.remembered_of_first hmem hmtag hmcrc hbefore)]
    exact State.answerNow_link _ _ _
  · rw [State.admission_of_full hadm (Link.remembered_of_none hnone) hfull]; exact State.answerNow_link _ _ _
  · rw [State.admission_of_room hadm (Link.remembered_of_none hnone) hroom]; rfl

/-! ### Acknowledgement (R172) -/

theorem dropThrough_split {e : NoticeEntry} {l₁ : List NoticeEntry} (l₂ : List NoticeEntry)
    (h : ∀ x ∈ l₁, x.sequence ≠ e.sequence) : dropThrough e.sequence (l₁ ++ e :: l₂) = l₂ := by
  induction l₁ with
  | nil => exact if_pos rfl
  | cons x l₁ ih =>
    obtain ⟨hx, hl₁⟩ := List.forall_mem_cons.mp h
    exact (if_neg hx).trans (ih hl₁)

theorem NoticeQueue.names_iff {q : NoticeQueue} {n : BitVec 16} :
    q.names n = true ↔ ∃ e ∈ q.entries, e.stage = .sent ∧ e.sequence = n := by
  simp [NoticeQueue.names, NoticeEntry.isSent]

theorem State.acknowledge_of_named {s : State} {f : Frame} (hst : f.status = 0) (hlen : f.payload.length = 2)
    (hn : s.notices.names (BitVec.ofNat 16 (u16At f.payload 0)) = true) :
    s.acknowledge f = { s with notices := s.notices.retire (BitVec.ofNat 16 (u16At f.payload 0)) } :=
  (if_pos ⟨hst, hlen⟩).trans (if_pos hn)

theorem State.acknowledge_of_stray {s : State} {f : Frame}
    (h : f.status = 0 → f.payload.length = 2 → s.notices.names (BitVec.ofNat 16 (u16At f.payload 0)) = false) :
    s.acknowledge f = s.strayAck := by
  unfold State.acknowledge
  split
  case isTrue hwell => rw [h hwell.1 hwell.2]; exact if_neg Bool.false_ne_true
  case isFalse => rfl

theorem ofNat_u16At_leBytes (n : Nat) : BitVec.ofNat 16 (u16At (leBytes 2 n) 0) = BitVec.ofNat 16 n := by
  have hvalue : u16At (leBytes 2 n) 0 = n % 65536 := leNat_leBytes 2 n
  rw [hvalue]
  exact BitVec.eq_of_toNat_eq (by simp)

/-- Settles O48. -/
theorem acknowledgementsRetireNotices : Obligations.AcknowledgementsRetireNotices := by
  refine ⟨fun s b f hf hk => ⟨fun n l₁ e l₂ hst hpay hq hseq hsent hfirst => ?_, fun hstray => ?_⟩,
    fun s b f hf h₁ h₂ => ?_⟩
  · have hnumber : BitVec.ofNat 16 (u16At f.payload 0) = e.sequence := by rw [hpay, ofNat_u16At_leBytes, hseq]
    have hnamed : s.afterGoodFrame.notices.names (BitVec.ofNat 16 (u16At f.payload 0)) = true :=
      NoticeQueue.names_iff.mpr ⟨e, hq ▸ (by simp), hsent, hnumber.symm⟩
    refine ⟨_, exec_noticeAck_frame hf hk, (s.afterGoodFrame_only.weaken (by decide)).trans
      (State.acknowledge_only _ f), ?_, ?_⟩
    · rw [State.acknowledge_of_named hst (by rw [hpay, leBytes_length]) hnamed]; rfl
    · rw [State.acknowledge_of_named hst (by rw [hpay, leBytes_length]) hnamed, hnumber]
      show s.notices.retire e.sequence = _
      unfold NoticeQueue.retire
      rw [hq, dropThrough_split l₂ hfirst]
      rfl
  · have hack : s.afterGoodFrame.acknowledge f = s.afterGoodFrame.strayAck := by
      refine State.acknowledge_of_stray fun hst hlen => Bool.eq_false_iff.mpr fun hn => ?_
      obtain ⟨e, he, hsent, hseq⟩ := NoticeQueue.names_iff.mp hn
      rcases hstray with h | h | h
      · exact h hst
      · exact h hlen
      · exact h e he hsent hseq
    refine ⟨_, exec_noticeAck_frame hf hk, ?_, ?_⟩
    · rw [hack]; exact s.afterGoodFrame_only.trans (State.countLink_only _ _)
    · rw [hack]; rfl
  · exact ⟨_, exec_unknownKindFrame hf h₁ h₂, (s.setReceiver_only _).trans (State.countLink_only _ _), rfl⟩

end Sys2Proof.Machine
end

section
/-! The proofs about the transmitter (R160, R162, R169 to R171). -/

namespace Sys2Proof.Machine

/-! ### The bytes of a frame (R153, Tables 11-3, 11-6 and 11-8) -/

/-- Table 11-6. -/
def statusCodes : List (Status × Byte) :=
  [(.ok, 0x00), (.accepted, 0x01), (.unknownCommand, 0x10), (.badLength, 0x11), (.badValue, 0x12),
    (.wrongState, 0x13), (.busy, 0x14), (.notFound, 0x15), (.inUse, 0x16), (.noSpace, 0x17), (.noFrame, 0x18),
    (.invalidScene, 0x19), (.outOfOrder, 0x1A), (.tagInUse, 0x1B), (.queueFull, 0x1C), (.notReady, 0x1D),
    (.limit, 0x1E), (.ancFull, 0x1F)]

theorem Status.byte_of_mem : ∀ x ∈ statusCodes, x.1.byte = x.2 := by decide

theorem Status.byte_iff (st : Status) (b : Byte) : st.byte = b ↔ (st, b) ∈ statusCodes := by
  refine ⟨?_, Status.byte_of_mem (st, b)⟩
  rintro rfl
  cases st <;> decide

theorem Notice.layout_eq (n : Notice) : (n.code, n.object, n.bytes) = noticeLayout n := by
  cases n with
  | inputState p st m => simp only [noticeLayout, measurementField_eq]; cases st <;> rfl
  | followState h st p e => simp only [noticeLayout, signedField_eq]; cases st <;> cases p <;> rfl
  | ready r c => cases r <;> cases c <;> rfl
  | uploadVerified i e =>
    obtain ⟨kind, width, height, check, firstBlock⟩ := e
    cases kind <;> rfl
  | _ => rfl

theorem Notice.payload_length (n : Notice) : (n.code, 2 + n.bytes.length) ∈
    ([(0x01, 4), (0x02, 14), (0x03, 11), (0x04, 15), (0x05, 7), (0x06, 7), (0x07, 9), (0x08, 12), (0x09, 11),
      (0x0A, 7), (0x0B, 8), (0x0C, 4), (0x0D, 8)] : List (Byte × Nat)) := by
  cases n <;> simp [Notice.code, Notice.bytes, measurementBytes_length, signedBytes_length]

/-! ### The sequence numbers of the queue (R166) -/

theorem NoticeQueue.nodup_of_consecutive {q : NoticeQueue} (hlen : q.entries.length ≤ 16)
    (hseq : q.entries.map NoticeEntry.sequence =
      (List.range q.entries.length).map fun k => q.next - BitVec.ofNat 16 (q.entries.length - k)) :
    (q.entries.map NoticeEntry.sequence).Nodup := by
  rw [hseq]
  refine List.Nodup.map_on (fun x hx y hy hxy => ?_) List.nodup_range
  rw [List.mem_range] at hx hy
  have hdist : BitVec.ofNat 16 (q.entries.length - x) = BitVec.ofNat 16 (q.entries.length - y) :=
    sub_right_injective hxy
  have htoNat := congrArg BitVec.toNat hdist
  rw [BitVec.toNat_ofNat, BitVec.toNat_ofNat] at htoNat
  omega

/-- No other entry has the sequence number of an entry. -/
theorem sequence_ne_of_nodup {l₁ l₂ : List NoticeEntry} {e : NoticeEntry}
    (hnodup : ((l₁ ++ e :: l₂).map NoticeEntry.sequence).Nodup) : ∀ x ∈ l₁ ++ l₂, x.sequence ≠ e.sequence := by
  rw [List.map_append, List.map_cons, List.nodup_middle, ← List.map_append, List.nodup_cons] at hnodup
  exact fun x hx heq => hnodup.1 (heq ▸ List.mem_map_of_mem hx)

theorem NoticesOk.others {s : State} (h : NoticesOk s) {l₁ l₂ : List NoticeEntry} {e : NoticeEntry}
    (hq : s.notices.entries = l₁ ++ e :: l₂) : ∀ x ∈ l₁ ++ l₂, x.sequence ≠ e.sequence :=
  sequence_ne_of_nodup (hq ▸ NoticeQueue.nodup_of_consecutive h.1 h.2.1)

theorem NoticeQueue.modEntry_split {q : NoticeQueue} {l₁ l₂ : List NoticeEntry} {e : NoticeEntry}
    (hq : q.entries = l₁ ++ e :: l₂) (hothers : ∀ x ∈ l₁ ++ l₂, x.sequence ≠ e.sequence)
    (f : NoticeEntry → NoticeEntry) : q.modEntry e.sequence f = { q with entries := l₁ ++ f e :: l₂ } := by
  have hstay : ∀ l : List NoticeEntry, (∀ x ∈ l, x ∈ l₁ ++ l₂) →
      l.map (fun x => if x.sequence = e.sequence then f x else x) = l := fun l hl =>
    (List.map_congr_left fun x hx => if_neg (hothers x (hl x hx))).trans (List.map_id' l)
  unfold NoticeQueue.modEntry
  rw [hq, List.map_append, List.map_cons, if_pos rfl, hstay l₁ fun x hx => List.mem_append_left _ hx,
    hstay l₂ fun x hx => List.mem_append_right _ hx]

/-! ### The notice that the queue offers (R169) -/

theorem NoticeQueue.offered_of_due {q : NoticeQueue} {l₁ l₂ : List NoticeEntry} {e : NoticeEntry}
    (hq : q.entries = l₁ ++ e :: l₂) (hsent : e.stage = .sent) (hdue : e.resendDue = true)
    (hbefore : ∀ x ∈ l₁, x.resendDue = false) : q.offered = some e := by
  have hfind : q.entries.find? (fun e => e.isSent && e.resendDue) = some e := by
    rw [hq, List.find?_append, List.find?_eq_none.mpr (by simpa using fun x hx _ => hbefore x hx), Option.none_or,
      List.find?_cons_of_pos (by simp [NoticeEntry.isSent, hsent, hdue])]
  unfold NoticeQueue.offered
  rw [hfind]

theorem NoticeQueue.offered_of_none_due {q : NoticeQueue} (hdue : ∀ x ∈ q.entries, x.resendDue = false) :
    q.offered = q.entries.find? fun e => decide (e.stage = .new) := by
  have hfind : q.entries.find? (fun e => e.isSent && e.resendDue) = none :=
    List.find?_eq_none.mpr (by simpa using fun x hx _ => hdue x hx)
  unfold NoticeQueue.offered
  rw [hfind]

theorem NoticeQueue.offered_of_new {q : NoticeQueue} {l₁ l₂ : List NoticeEntry} {e : NoticeEntry}
    (hq : q.entries = l₁ ++ e :: l₂) (hnew : e.stage = .new) (hdue : ∀ x ∈ q.entries, x.resendDue = false)
    (hbefore : ∀ x ∈ l₁, x.stage ≠ .new) : q.offered = some e := by
  rw [NoticeQueue.offered_of_none_due hdue, hq, List.find?_append,
    List.find?_eq_none.mpr (by simpa using hbefore), Option.none_or, List.find?_cons_of_pos (by simp [hnew])]

theorem NoticeQueue.offered_of_none {q : NoticeQueue} (h : ∀ x ∈ q.entries, x.resendDue = false ∧ x.stage ≠ .new) :
    q.offered = none := by
  rw [NoticeQueue.offered_of_none_due fun x hx => (h x hx).1]
  exact List.find?_eq_none.mpr (by simpa using fun x hx => (h x hx).2)

theorem NoticeEntry.begun_of_sent {e : NoticeEntry} (h : e.stage = .sent) :
    e.begun = { e with stage := if e.stage = .new then .firstSend else .sent, resendDue := false } := by
  cases e; subst h; rfl

theorem NoticeEntry.begun_of_new {e : NoticeEntry} (h : e.stage = .new) (hdue : e.resendDue = false) :
    e.begun = { e with stage := if e.stage = .new then .firstSend else .sent, resendDue := false } := by
  cases e; subst h; subst hdue; rfl

/-! ### Beginning a frame (R162) -/

theorem exec_transmitBegin {s : State} (h : s.device.phase ≠ .held) :
    exec .transmitBegin s = .next s.transmitNext :=
  congrArg Host.Outcome.next (if_neg (by simpa [State.isHeld] using h))

theorem State.transmitNext_of_busy {s : State} (h : s.link.transmitter ≠ none) : s.transmitNext = s := by
  obtain ⟨x, hx⟩ := Option.ne_none_iff_exists'.mp h
  unfold State.transmitNext; rw [hx]

theorem State.transmitNext_of_reply {s : State} {e : ReplyEntry} {l : List ReplyEntry}
    (h : s.link.transmitter = none) (hl : s.link.replyLine = e :: l) : s.transmitNext =
      s.modLink fun k => { k with replyLine := l, transmitter := some ⟨.reply e, e.frame⟩ } := by
  unfold State.transmitNext; rw [h]; dsimp only; rw [hl]

theorem State.transmitNext_of_notice {s : State} {e : NoticeEntry} (h : s.link.transmitter = none)
    (hl : s.link.replyLine = []) (ho : s.notices.offered = some e) : s.transmitNext =
      { s.modLink fun l => { l with transmitter := some ⟨.notice e.sequence, e.frame⟩ } with
        notices := s.notices.modEntry e.sequence NoticeEntry.begun } := by
  unfold State.transmitNext; rw [h]; dsimp only; rw [hl]; dsimp only; rw [ho]

theorem State.transmitNext_of_nothing {s : State} (h : s.link.transmitter = none) (hl : s.link.replyLine = [])
    (ho : s.notices.offered = none) : s.transmitNext = s := by
  unfold State.transmitNext; rw [h]; dsimp only; rw [hl]; dsimp only; rw [ho]

/-- Settles O50. -/
theorem transmitterChoosesItsFrame : Obligations.TransmitterChoosesItsFrame := by
  refine ⟨fun kind tag code status payload covered hcovered => ?_, Status.byte_iff,
    fun n => ⟨n.layout_eq, n.payload_length⟩, fun s hs hok => ?_⟩
  · rw [hcovered]; rfl
  rw [exec_transmitBegin hs]
  refine ⟨fun hbusy => by rw [State.transmitNext_of_busy hbusy], fun hidle => ⟨fun e l hl => ?_,
    fun hl l₁ e l₂ hq hwhich => ?_, fun hl hnone => ?_⟩⟩
  · rw [State.transmitNext_of_reply hidle hl]
    exact ⟨_, rfl, s.modLink_only _, rfl⟩
  · have hchosen : s.notices.offered = some e ∧
        e.begun = { e with stage := if e.stage = .new then .firstSend else .sent, resendDue := false } := by
      rcases hwhich with ⟨hsent, hdue, hbefore⟩ | ⟨hnew, hdue, hbefore⟩
      · exact ⟨NoticeQueue.offered_of_due hq hsent hdue hbefore, NoticeEntry.begun_of_sent hsent⟩
      · exact ⟨NoticeQueue.offered_of_new hq hnew hdue hbefore,
          NoticeEntry.begun_of_new hnew (hdue e (by rw [hq]; simp))⟩
    refine ⟨_, rfl, s.transmitNext_only, ?_, ?_⟩
    · rw [State.transmitNext_of_notice hidle hl hchosen.1]; rfl
    · rw [State.transmitNext_of_notice hidle hl hchosen.1]
      show s.notices.modEntry e.sequence NoticeEntry.begun = _
      rw [NoticeQueue.modEntry_split hq (hok.others hq), hchosen.2]
  · rw [State.transmitNext_of_nothing hidle hl (NoticeQueue.offered_of_none hnone)]

/-! ### The end of a frame (R160, R170) -/

/-- R160: what is left of the reply memory when a reply with a tag is stored. -/
theorem Link.store_eq {l : Link} {m : MemoryEntry} {kept : List MemoryEntry}
    (h : kept = (if ∃ x ∈ l.memory, x.tag = m.tag then l.memory.filter (fun x => decide (x.tag ≠ m.tag))
      else if 8 ≤ l.memory.length then l.memory.drop 1 else l.memory)) : l.store m = kept ++ [m] := by
  have hany : (l.memory.any fun x => decide (x.tag = m.tag)) = true ↔ ∃ x ∈ l.memory, x.tag = m.tag := by simp
  unfold Link.store
  rw [h]
  by_cases hx : ∃ x ∈ l.memory, x.tag = m.tag
  · rw [if_pos hx, if_pos (hany.mpr hx)]
    simp only [decide_not]
  · rw [if_neg hx, if_neg fun hc => hx (hany.mp hc)]
    exact (apply_ite (· ++ [m]) (8 ≤ l.memory.length) _ _).symm

theorem exec_transmitComplete_of_idle {s : State} (straps : Straps) (h : s.link.transmitter = none) :
    exec (.transmitComplete straps) s = .next s := by
  show execTransmitComplete straps s = _
  unfold execTransmitComplete; rw [h]

theorem exec_transmitComplete_posted {s : State} (straps : Straps) {e : ReplyEntry} {bytes : List Byte}
    {crc : BitVec 16} (h : s.link.transmitter = some ⟨.reply e, bytes⟩) (ho : e.origin = .posted crc) :
    exec (.transmitComplete straps) s = .next (s.modLink fun l =>
      { l with transmitter := none, memory := l.store ⟨e.tag, e.code, crc, e.reply⟩ }) := by
  show execTransmitComplete straps s = _
  unfold execTransmitComplete; rw [h]; dsimp only; rw [ho]

theorem exec_transmitComplete_answer {s : State} (straps : Straps) {e : ReplyEntry} {bytes : List Byte}
    (h : s.link.transmitter = some ⟨.reply e, bytes⟩) (ho : e.origin = .immediate ∨ e.origin = .replayed) :
    exec (.transmitComplete straps) s = .next (s.modLink fun l => { l with transmitter := none }) := by
  show execTransmitComplete straps s = _
  unfold execTransmitComplete; rw [h]; dsimp only
  rcases ho with ho | ho <;> rw [ho]

theorem exec_transmitComplete_notice {s : State} (straps : Straps) {n : BitVec 16} {bytes : List Byte}
    (h : s.link.transmitter = some ⟨.notice n, bytes⟩) : exec (.transmitComplete straps) s =
      .next { s.modLink fun l => { l with transmitter := none } with notices := s.notices.copySent n } := by
  show execTransmitComplete straps s = _
  unfold execTransmitComplete; rw [h]

theorem NoticeQueue.copySent_of_held {q : NoticeQueue} {l₁ l₂ : List NoticeEntry} {e : NoticeEntry}
    (hq : q.entries = l₁ ++ e :: l₂) (hothers : ∀ x ∈ l₁ ++ l₂, x.sequence ≠ e.sequence) (hstage : e.stage ≠ .new) :
    q.copySent e.sequence = { q with entries := l₁ ++ { e with stage := .sent } :: l₂, resendTimer := true } := by
  have hheld : (q.entries.any fun x => decide (x.sequence = e.sequence) && decide (x.stage ≠ .new)) = true := by
    rw [hq]; simp [hstage]
  have hsent : (if e.stage = .firstSend then { e with stage := .sent } else e) = { e with stage := .sent } := by
    obtain ⟨sequence, notice, lost, stage, due⟩ := e
    cases stage
    · exact absurd rfl hstage
    · rfl
    · rfl
  unfold NoticeQueue.copySent
  rw [if_pos hheld, NoticeQueue.modEntry_split hq hothers, hsent]

theorem NoticeQueue.copySent_of_retired {q : NoticeQueue} {n : BitVec 16} (h : ∀ e ∈ q.entries, e.sequence ≠ n) :
    q.copySent n = q :=
  if_neg (by simpa using fun x hx heq => absurd heq (h x hx))

/-! ### The resend timer (R171) -/

theorem Link.noticeOnLine_eq_some_iff {l : Link} {n : BitVec 16} :
    l.noticeOnLine = some n ↔ l.transmitter.map Sending.owner = some (.notice n) := by
  unfold Link.noticeOnLine
  rcases l.transmitter with _ | ⟨_ | _, bytes⟩ <;> simp

/-- Settles O51. -/
theorem framesEndAndNoticesAreResent : Obligations.FramesEndAndNoticesAreResent := by
  refine ⟨fun straps s bytes => ⟨exec_transmitComplete_of_idle straps, fun e crc ht ho => ?_, fun e ht ho => ?_,
    fun n ht hok => ?_⟩, fun s => ⟨fun hstopped => ?_, fun hruns => ?_⟩⟩
  · exact ⟨_, exec_transmitComplete_posted straps ht ho, s.modLink_only _, fun kept hkept =>
      congrArg (fun memory => { s.link with transmitter := none, memory := memory })
        (Link.store_eq (m := ⟨e.tag, e.code, crc, e.reply⟩) hkept)⟩
  · exact ⟨_, exec_transmitComplete_answer straps ht ho, s.modLink_only _, rfl⟩
  · refine ⟨_, exec_transmitComplete_notice straps ht, ((s.modLink_only _).weaken (by decide)).trans
      ((State.setNotices_only _ _).weaken (by decide)), rfl, fun l₁ e l₂ hq hseq hstage => ?_, fun hgone => ?_⟩
    · subst hseq; exact NoticeQueue.copySent_of_held hq (hok.others hq) hstage
    · exact NoticeQueue.copySent_of_retired hgone
  · exact congrArg Host.Outcome.next (if_neg (by rw [hstopped]; exact Bool.false_ne_true))
  · refine ⟨_, congrArg Host.Outcome.next (if_pos hruns), s.setNotices_only _, ?_⟩
    have hdue : ∀ e : NoticeEntry, (e.isSent = true ∧ s.link.noticeOnLine ≠ some e.sequence) ↔
        (e.stage = .sent ∧ s.link.transmitter.map Sending.owner ≠ some (.notice e.sequence)) := fun e => by
      rw [ne_eq, Link.noticeOnLine_eq_some_iff, NoticeEntry.isSent, decide_eq_true_eq]
    exact congrArg (fun entries => { s.notices with entries := entries })
      (List.map_congr_left fun e _ => if_congr (hdue e) rfl rfl)

end Sys2Proof.Machine
end

section
/-! The library through every step: the extents lie apart, the uploads are few, and the verify queue holds the
entries that are VERIFYING (R112, R115, R117, R121). -/

namespace Sys2Proof.Machine

/-! ### The number of uploads (R117) -/

theorem Library.uploads_eq (l : Library) : l.uploads = (l.entries.map Entry.inProgress).toList.count true := by
  rw [Vector.toList_map, List.count, List.countP_map]
  refine (List.countP_eq_length_filter ..).symm.trans (List.countP_congr fun e _ => ?_)
  simp

theorem Library.uploads_congr {s t : State} (h : ∀ i, (t.entry i).inProgress = (s.entry i).inProgress) :
    t.library.uploads = s.library.uploads := by
  rw [Library.uploads_eq, Library.uploads_eq]
  congr 2
  refine Vector.ext fun k hk => ?_
  rw [Vector.getElem_map, Vector.getElem_map]
  exact h ⟨k, hk⟩

theorem State.uploads_setEntry (s : State) (i : LibId) (v : Entry) :
    (s.setEntry i v).library.uploads + [(s.entry i).inProgress].count true =
      s.library.uploads + [v.inProgress].count true := by
  have hlen : i.val < (s.library.entries.map Entry.inProgress).toList.length := by simp
  have hold : (s.library.entries.map Entry.inProgress).toList[i.val] = (s.entry i).inProgress := by
    simp [State.entry]
  have hnew : ((s.library.entries.set i v).map Entry.inProgress).toList =
      (s.library.entries.map Entry.inProgress).toList.set i v.inProgress := by
    rw [Vector.map_set, Vector.toList_set]
  rw [Library.uploads_eq, Library.uploads_eq, ← hold]
  show ((s.library.entries.set i v).map Entry.inProgress).toList.count true + _ = _
  rw [hnew]
  generalize (s.library.entries.map Entry.inProgress).toList = l at hlen
  have hsplit : l = l.take i ++ l[i.val] :: l.drop (i + 1) := by simp
  have hcount : l.count true = (l.take i).count true + ([l[i.val]].count true + (l.drop (i + 1)).count true) := by
    conv_lhs => rw [hsplit, List.count_append, ← List.singleton_append, List.count_append]
  rw [List.set_eq_take_append_cons_drop, if_pos hlen, List.count_append, ← List.singleton_append, List.count_append,
    hcount]
  omega

/-! ### What keeps the invariant -/

theorem libraryOk_of_directory {s t : State} (h : SameDirectory s t) (ok : LibraryOk s) : LibraryOk t := by
  have hextent : ∀ i, (t.entry i).extent? = (s.entry i).extent? := fun i => by unfold Entry.extent?; rw [h.info]
  obtain ⟨hlegal, hapart, huploads, hnodup, hqueue⟩ := ok
  refine ⟨fun i e he => hlegal i e (by rwa [← h.info]), fun i j hij a ha b hb => ?_, ?_, ?_, fun i => ?_⟩
  · rw [hextent] at ha hb; exact hapart i j hij a ha b hb
  · rw [Library.uploads_congr h.inProgress]; exact huploads
  · rw [h.2]; exact hnodup
  · rw [h.2, h.isVerifying]; exact hqueue i

theorem libraryOk_of_only {l : List Part} {s t : State} (h : OnlyChanges l s t) (hl : Part.library ∉ l)
    (ok : LibraryOk s) : LibraryOk t := libraryOk_of_directory (.of_only h hl) ok

/-- One entry is replaced and the verify queue adjusted to it: what the new entry and the new queue have to meet. -/
theorem libraryOk_replace {s t : State} {i : LibId} {v : Entry} {queue : List LibId} (ok : LibraryOk s)
    (ht : t.library = ((s.setEntry i v).setVerifyQueue queue).library)
    (hlegal : ∀ e ∈ v.info?, e.legal = true)
    (hapart : ∀ j, j ≠ i → ∀ a ∈ v.extent?, ∀ b ∈ (s.entry j).extent?, a.apart b = true)
    (huploads : s.library.uploads + [v.inProgress].count true ≤ 2 + [(s.entry i).inProgress].count true)
    (hnodup : queue.Nodup) (hself : i ∈ queue ↔ v.isVerifying = true)
    (hqueue : ∀ j, j ≠ i → (j ∈ queue ↔ j ∈ s.library.verifyQueue)) : LibraryOk t := by
  obtain ⟨hlegals, haparts, -, -, hqueues⟩ := ok
  have hentry : ∀ j, t.entry j = (s.setEntry i v).entry j := fun j =>
    (congrArg (fun l : Library => l.entries[j]) ht).trans rfl
  have hsame : t.entry i = v := (hentry i).trans (s.entry_setEntry_same i v)
  have hother : ∀ j, j ≠ i → t.entry j = s.entry j := fun j hj =>
    (hentry j).trans (s.entry_setEntry_other v hj)
  refine ⟨fun j e he => ?_, fun j k hjk a ha b hb => ?_, ?_, ?_, fun j => ?_⟩
  · by_cases hj : j = i
    · subst hj; rw [hsame] at he; exact hlegal e he
    · rw [hother j hj] at he; exact hlegals j e he
  · by_cases hj : j = i
    · subst hj
      rw [hsame] at ha
      rw [hother k (Ne.symm hjk)] at hb
      exact hapart k (Ne.symm hjk) a ha b hb
    · rw [hother j hj] at ha
      by_cases hk : k = i
      · subst hk
        rw [hsame] at hb
        exact Extent.apart_iff.mpr (Extent.apart_iff.mp (hapart j hj b hb a ha)).symm
      · rw [hother k hk] at hb; exact haparts j k hjk a ha b hb
  · have hcount := s.uploads_setEntry i v
    have hsum : t.library.uploads = (s.setEntry i v).library.uploads := (congrArg (fun l : Library =>
      (l.entries.toList.filter Entry.inProgress).length) ht).trans rfl
    have hmax : Config.maxUploads = 2 := rfl
    omega
  · rw [ht]; exact hnodup
  · rw [ht]
    by_cases hj : j = i
    · subst hj; rw [hsame]; exact hself
    · rw [hother j hj, ← hqueues j]; exact hqueue j hj

/-- One entry is replaced by one that has the same extent or none, and is VERIFYING as before. -/
theorem libraryOk_setEntry {s : State} {i : LibId} {v : Entry} (ok : LibraryOk s)
    (hinfo : v.info? = (s.entry i).info? ∨ v.info? = none) (hverifying : v.isVerifying = (s.entry i).isVerifying)
    (hprogress : v.inProgress = true → (s.entry i).inProgress = true) : LibraryOk (s.setEntry i v) := by
  have ⟨hlegal, hapart, huploads, hnodup, hqueue⟩ := ok
  refine libraryOk_replace ok (v := v) rfl (fun e he => ?_) (fun j hj a ha b hb => ?_) ?_ hnodup ?_ fun _ _ => Iff.rfl
  · rcases hinfo with h | h
    · rw [h] at he; exact hlegal i e he
    · rw [h] at he; cases he
  · rcases hinfo with h | h
    · rw [Entry.extent?, h] at ha; exact hapart i j (Ne.symm hj) a ha b hb
    · rw [Entry.extent?, h] at ha; cases ha
  · have hle : [v.inProgress].count true ≤ [(s.entry i).inProgress].count true := by
      cases hv : v.inProgress with
      | false => exact Nat.zero_le _
      | true => rw [hprogress hv]
    have hmax : Config.maxUploads = 2 := rfl
    omega
  · rw [hverifying]; exact hqueue i

theorem Extent.apart_of_free {s : State} (ok : LibraryOk s) {b n : Nat} (hn : 1 ≤ n) (hfree : s.library.runFree b n) (i : LibId) :
    ∀ a ∈ (s.entry i).extent?, (⟨b, n⟩ : Extent).apart a = true := by
  intro a ha
  obtain ⟨e, he, rfl⟩ := Entry.mem_extent_iff.1 ha
  have hpos := EntryInfo.blockCount_pos (EntryInfo.legal_iff.1 (ok.1 i e he)).1
  rw [Extent.apart_iff]
  unfold Extent.stop
  dsimp only
  by_contra hnot
  obtain ⟨h₁, h₂⟩ := not_or.mp hnot
  have hshared := (hfree (max b e.firstBlock - b) (by omega)).2 i _ ha
  unfold Extent.stop at hshared
  dsimp only at hshared
  omega

theorem libOpen_libraryOk {s : State} {i : LibId} {e : EntryInfo} {b : Nat} (ok : LibraryOk s)
    (hempty : s.entry i = .empty) (hlimit : ¬ Config.maxUploads ≤ s.library.uploads)
    (hfit : s.library.firstFit e.blockCount = some b) (hsize : sizeInRange e.kind e.width e.height = true) :
    LibraryOk (s.setEntry i (.receiving { e with firstBlock := b } 0)) := by
  have hpos := EntryInfo.blockCount_pos hsize
  have hfree := (LibraryOk.firstFit_spec ok hpos hfit).1
  refine libraryOk_replace ok rfl (fun x hx => ?_) (fun j _ a ha c hc => ?_) ?_ ok.2.2.2.1 ?_ fun _ _ => Iff.rfl
  · obtain rfl := Option.some.inj hx
    have hlast := (hfree (e.blockCount - 1) (by omega)).1
    have hblocks : Config.libraryBlocks = 5584 := rfl
    refine EntryInfo.legal_iff.mpr ⟨hsize, ?_⟩
    show b + e.blockCount ≤ 5584
    omega
  · obtain rfl := Option.some.inj ha
    exact Extent.apart_of_free ok hpos hfree j c hc
  · rw [hempty]
    have hmax : Config.maxUploads = 2 := rfl
    have hone : [(Entry.receiving { e with firstBlock := b } 0).inProgress].count true = 1 := rfl
    omega
  · rw [ok.2.2.2.2 i, hempty]; rfl

theorem libClose_libraryOk {s : State} {i : LibId} {e : EntryInfo} {n : Nat} (ok : LibraryOk s)
    (hentry : s.entry i = .receiving e n) :
    LibraryOk ((s.setEntry i (.verifying e)).setVerifyQueue (s.library.verifyQueue ++ [i])) := by
  have ⟨hlegal, hapart, huploads, hnodup, hqueue⟩ := ok
  have hinfo : (s.entry i).info? = some e := by rw [hentry]; rfl
  have hout : i ∉ s.library.verifyQueue := fun hi => by
    have hverifying := (hqueue i).mp hi
    rw [hentry] at hverifying
    cases hverifying
  refine libraryOk_replace ok (v := .verifying e) rfl (fun x hx => hlegal i x (hinfo.trans hx))
    (fun j hj a ha => hapart i j (Ne.symm hj) a ?_) ?_ ?_ ?_ fun j hj => ?_
  · rw [Entry.extent?, hinfo]; exact ha
  · rw [hentry]; exact Nat.add_le_add_right huploads 1
  · rw [← List.concat_eq_append]; exact hnodup.concat hout
  · simp [Entry.isVerifying]
  · simp [hj]

theorem verified_libraryOk {s : State} {i : LibId} {rest : List LibId} (ok : LibraryOk s)
    (hhead : s.library.verifyQueue = i :: rest) : LibraryOk (s.verified i rest) := by
  have ⟨hlegal, hapart, huploads, hnodup, hqueue⟩ := ok
  have hverifying : (s.entry i).isVerifying = true := (hqueue i).mp (hhead ▸ List.mem_cons_self)
  obtain ⟨e, hentry⟩ : ∃ e, s.entry i = .verifying e := by
    cases hi : s.entry i with
    | verifying e => exact ⟨e, rfl⟩
    | empty => rw [hi] at hverifying; cases hverifying
    | receiving e n => rw [hi] at hverifying; cases hverifying
    | valid e n => rw [hi] at hverifying; cases hverifying
  have hinfo : (s.entry i).info? = some e := by rw [hentry]; rfl
  rw [hhead, List.nodup_cons] at hnodup
  have hmax : Config.maxUploads = 2 := rfl
  have hleave : ∀ j, j ≠ i → (j ∈ rest ↔ j ∈ s.library.verifyQueue) := fun j hj => by rw [hhead]; simp [hj]
  have hout : ∀ v : Entry, v.isVerifying = false → (i ∈ rest ↔ v.isVerifying = true) := fun v hv => by
    rw [hv]; simp [hnodup.1]
  have hless : ∀ v : Entry, v.inProgress = false →
      s.library.uploads + [v.inProgress].count true ≤ 2 + [(s.entry i).inProgress].count true := fun v hv => by
    rw [hv]
    have hzero : [false].count true = 0 := rfl
    omega
  rw [State.verified_of_verifying hentry]
  split
  · refine libraryOk_of_only (State.raise_only _ _) (by decide) (libraryOk_replace ok (v := .valid e 0) rfl
      (fun x hx => hlegal i x (hinfo.trans hx)) (fun j hj a ha => hapart i j (Ne.symm hj) a ?_) (hless _ rfl) hnodup.2
      (hout _ rfl) hleave)
    rw [Entry.extent?, hinfo]; exact ha
  · exact libraryOk_of_only (State.raise_only _ _) (by decide) (libraryOk_replace ok (v := .empty) rfl nofun
      (fun _ _ _ ha => by cases ha) (hless _ rfl) hnodup.2 (hout _ rfl) hleave)

theorem abandon_libraryOk {s : State} {i : LibId} (ok : LibraryOk s) : LibraryOk (s.abandon i) := by
  by_cases h : ∃ e n, s.entry i = .receiving e n
  · obtain ⟨e, n, hentry⟩ := h
    rw [State.abandon_of_receiving hentry]
    exact libraryOk_of_only (State.raise_only _ _) (by decide)
      (libraryOk_setEntry ok (.inr rfl) (by rw [hentry]; rfl) nofun)
  · rw [State.abandon_of_idle fun e n hentry => h ⟨e, n, hentry⟩]; exact ok

/-! ### Operations that change use counts alone -/

theorem State.swapAtBoundary_directory (s : State) (h : HeadId) : SameDirectory s (s.swapAtBoundary h) := by
  unfold State.swapAtBoundary
  split
  · exact ((s.swap_directory h).trans (.of_only (State.modHead_only _ h _) (by decide))).trans
      (.of_only (State.raise_only _ _) (by decide))
  · exact .refl s

theorem State.swapCursor_directory (s : State) (h : HeadId) : SameDirectory s (s.swapCursor h) := by
  unfold State.swapCursor
  split
  · exact ((SameDirectory.of_only (State.modCursor_only _ _ _) (by decide)).trans (State.dropUseOf_directory _ _)).trans
      (.of_only (State.raise_only _ _) (by decide))
  all_goals exact .refl s

theorem State.boundary_directory (s : State) (h : HeadId) (t : Timing) (time : Time) :
    SameDirectory s (s.boundary h t time) :=
  (((((((SameDirectory.of_only (s.modHead_only h Head.counted) (by decide)).trans
    (.of_only (State.followBoundary_only _ h t time) (by decide))).trans
    (State.swapAtBoundary_directory _ h)).trans (.of_only (State.selectAll_only _ h) (by decide))).trans
    (State.swapCursor_directory _ h)).trans (.of_only (State.modCursor_only _ h _) (by decide))).trans
    (.of_only (State.ancBoundary_only _ h) (by decide))).trans (.of_only (State.modHead_only _ h _) (by decide))

theorem State.takeBoundary_directory (s : State) (h : HeadId) (time : Time) :
    SameDirectory s (s.takeBoundary h time) := by
  unfold State.takeBoundary
  split
  · exact s.boundary_directory h _ time
  · exact s.boundary_directory h _ time
  all_goals exact .refl s

theorem State.startJob_directory (s : State) : SameDirectory s s.startJob := by
  by_cases hunable : s.loader.queue = [] ∨ s.loader.job ≠ none
  · rw [State.startJob_of_unable hunable]; exact .refl s
  · obtain ⟨hqueue, hjob⟩ := not_or.mp hunable
    obtain ⟨⟨h, i⟩, queue, hcons⟩ := List.exists_cons_of_ne_nil hqueue
    rw [State.startJob_of_queued (h := h) (i := i) (queue := queue) (by rw [← hcons, ← not_not.mp hjob])]
    have honly := State.setLoader_only s ⟨queue, none⟩
    split
    · exact (SameDirectory.of_only honly (by decide)).trans (State.beginJob_directory _ _ _)
    · exact (SameDirectory.of_only honly (by decide)).trans (.of_only (State.raise_only _ _) (by decide))

/-! ### Every step -/

theorem BlockChange.libraryOk {s t : State} (h : BlockChange s t) (ok : LibraryOk s) : LibraryOk t := by
  cases h with
  | start p l w n time => exact libraryOk_of_only (s.takeStart_only _ _ _ _ _) (by decide) ok
  | fillEnd p px => exact libraryOk_of_only (s.takeFillEnd_only _ _) (by decide) ok
  | loseSignal p _ => exact libraryOk_of_only (s.loseSignal_only _) (by decide) ok
  | boundary h time => exact libraryOk_of_directory (s.takeBoundary_directory h time) ok
  | shortfall h l m => exact libraryOk_of_only (s.takeShortfall_only _ _ _) (by decide) ok
  | followLoss h => exact libraryOk_of_only (s.takeFollowLoss_only _) (by decide) ok
  | verified i rest hhead => exact verified_libraryOk ok hhead
  | abandon i => exact abandon_libraryOk ok
  | startJob => exact libraryOk_of_directory s.startJob_directory ok
  | finishJob => exact libraryOk_of_only s.finishJob_only (by decide) ok
  | captureOn p => exact libraryOk_of_only (s.captureOn_only _) (by decide) ok
  | captureOff p => exact libraryOk_of_only (s.captureOff_only _) (by decide) ok
  | depth p k _ _ =>
    exact libraryOk_of_only (((s.modPort_only _ _).weaken (m := [.pool, .ports]) (by decide)).trans
      ((State.evictSurplus_only _ _).weaken (by decide))) (by decide) ok
  | flush p => exact libraryOk_of_only (s.flush_only _) (by decide) ok
  | resetPort p => exact libraryOk_of_only (s.resetPort_only _) (by decide) ok
  | movePin i p j _ _ => exact libraryOk_of_only (s.movePin_only _ _) (by decide) ok
  | emptyPin i => exact libraryOk_of_only (s.emptyPin_only _) (by decide) ok
  | headOff h _ => exact libraryOk_of_directory (State.switchOff_directory s h) ok
  | follow h source w l _ _ => exact libraryOk_of_only (s.setFollow_only _ _ _ _) (by decide) ok
  | put h p r _ _ _ => exact libraryOk_of_directory (s.putPending_directory _ _ _) ok
  | remove h p _ => exact libraryOk_of_directory (s.putPending_directory _ _ _) ok
  | restart h b _ => exact libraryOk_of_directory (s.reloadPending_directory _ _) ok
  | presentOff h _ _ => exact libraryOk_of_directory (s.swapOff_directory _) ok
  | libOpen i e b hempty hlimit hfit hsize => exact libOpen_libraryOk ok hempty hlimit hfit hsize
  | libData i e n bs hentry _ =>
    have hwritten := State.writeBytes_only (entryAddress e) bs n s
    have hkeep := State.entry_of_only hwritten (by decide) i
    exact libraryOk_setEntry (libraryOk_of_only hwritten (by decide) ok) (.inl (by rw [hkeep, hentry]; rfl))
      (by rw [hkeep, hentry]; rfl) fun _ => by rw [hkeep, hentry]; rfl
  | libClose i e n hentry => exact libClose_libraryOk ok hentry
  | libDelete i h =>
    refine libraryOk_setEntry ok (.inr rfl) ?_ nofun
    rcases h with ⟨e, n, hentry⟩ | ⟨e, hentry⟩ <;> rw [hentry] <;> rfl
  | placeShape h i _ => exact libraryOk_of_only (s.placeShape_only _ _) (by decide) ok
  | clearPort p => exact libraryOk_of_only (s.modPort_only _ _) (by decide) ok
  | timing h | headOn h | mute h | background h | present h | cursor h | ancConfig h | ancPush h | ancFlush h
  | clearHead h => exact libraryOk_of_only (s.modHead_only _ _) (by decide) ok

/-- Settles O57: what every change of the blocks keeps, every step keeps. -/
theorem stepsKeepTheLibrary : Obligations.StepsKeepTheLibrary := fun _ _ ok hstep =>
  step_keeps (parts := [.library]) libraryOk_reset
    (fun hsame => libraryOk_of_directory ⟨fun i => congrArg (fun l : Library => l.entries[i].unused)
      (hsame .library (by decide)), congrArg Library.verifyQueue (hsame .library (by decide))⟩)
    (by decide) BlockChange.libraryOk hstep ok

end Sys2Proof.Machine
end

section
/-! The use counts and the shape loader through every step (R124, R130 to R134). -/

namespace Sys2Proof.Machine

/-! ### What the use counts and the shape loader speak of -/

/-- What of a head the use counts and the shape loader speak of: its two scenes and its cursor's buffers. -/
def Head.naming (hd : Head) : Scene × Scene × Option Shape × BackBuffer × Option LibId :=
  (hd.pendingScene, hd.activeScene, hd.cursor.front, hd.cursor.back, hd.cursor.waiting)

/-- The heads name the same entries. -/
def SameNaming (s t : State) : Prop := ∀ h, (t.head h).naming = (s.head h).naming

theorem SameNaming.trans {s t u : State} (h₁ : SameNaming s t) (h₂ : SameNaming t u) : SameNaming s u :=
  fun h => (h₂ h).trans (h₁ h)

theorem SameNaming.of_only {l : List Part} {s t : State} (ho : OnlyChanges l s t) (hl : Part.heads ∉ l) :
    SameNaming s t := fun h => by rw [State.head_of_only ho hl]

theorem SameNaming.of_head {s t : State} {h : HeadId} (hothers : OtherHeads h s t)
    (hsame : (t.head h).naming = (s.head h).naming) : SameNaming s t := fun g => by
  by_cases hg : g = h
  · subst hg; exact hsame
  · rw [hothers g hg]

theorem SameNaming.modHead {s : State} {h : HeadId} {f : Head → Head} (hf : (f (s.head h)).naming = (s.head h).naming) :
    SameNaming s (s.modHead h f) :=
  .of_head (s.modHead_others h f) (by rw [State.head_modHead_same]; exact hf)

theorem SameNaming.of_selection {s t : State} {h : HeadId} (hsel : OnlySelection h s t) : SameNaming s t :=
  .of_head hsel.others (by rw [hsel.same]; rfl)

theorem SameNaming.of_lossArises {s t : State} {p : PortId} {start : Option Time} {b : Bool}
    (h : ∀ g, t.head g = if b then followLossArises p start (s.head g) else s.head g) : SameNaming s t := fun g => by
  rw [h g]
  unfold followLossArises
  split
  · split <;> rfl
  · rfl

theorem Head.naming_eq_iff {a b : Head} : a.naming = b.naming ↔ a.pendingScene = b.pendingScene ∧
    a.activeScene = b.activeScene ∧ a.cursor.front = b.cursor.front ∧ a.cursor.back = b.cursor.back ∧
    a.cursor.waiting = b.cursor.waiting := by
  simp only [Head.naming, Prod.mk.injEq]

theorem Head.namesOf_of_naming {a b : Head} (h : a.naming = b.naming) (i : LibId) : a.namesOf i = b.namesOf i := by
  obtain ⟨hpending, hactive, hfront, hback, -⟩ := Head.naming_eq_iff.mp h
  rw [Head.namesOf_eq, Head.namesOf_eq, hpending, hactive, hfront, hback]

theorem usesOk_of_naming {s t : State} (hnaming : SameNaming s t)
    (huses : ∀ i, (t.entry i).useCount = (s.entry i).useCount) (ok : UsesOk s) : UsesOk t := by
  rw [usesOk_iff] at ok ⊢
  intro i
  rw [huses, Head.namesOf_of_naming (hnaming 0), Head.namesOf_of_naming (hnaming 1)]
  exact ok i

/-- The loader, and the buffers and requests by which the heads take part in it, are the same. -/
structure SameLoading (s t : State) : Prop where
  loader : t.loader = s.loader
  back : ∀ h i, (t.head h).cursor.back = .loading i ↔ (s.head h).cursor.back = .loading i
  waiting : ∀ h, (t.head h).cursor.waiting = (s.head h).cursor.waiting

theorem SameLoading.of_naming {s t : State} (hnaming : SameNaming s t) (hloader : t.loader = s.loader) :
    SameLoading s t := by
  have hcursor := fun h => (Head.naming_eq_iff.mp (hnaming h)).2.2.2
  exact ⟨hloader, fun h i => by rw [(hcursor h).1], fun h => (hcursor h).2⟩

theorem SameLoading.of_cursor {s t : State} {h : HeadId} (hothers : OtherHeads h s t) (hloader : t.loader = s.loader)
    (hback : ∀ i, (t.head h).cursor.back = .loading i ↔ (s.head h).cursor.back = .loading i)
    (hwaiting : (t.head h).cursor.waiting = (s.head h).cursor.waiting) : SameLoading s t := by
  refine ⟨hloader, fun g i => ?_, fun g => ?_⟩ <;> by_cases hg : g = h
  · subst hg; exact hback i
  · rw [hothers g hg]
  · subst hg; exact hwaiting
  · rw [hothers g hg]

theorem loaderOk_of_loading {s t : State} (h : SameLoading s t) (ok : LoaderOk s) : LoaderOk t := by
  obtain ⟨hnodup, hjob, hback, hwaiting⟩ := ok
  refine ⟨?_, ?_, fun g i => ?_, fun g hg => ?_⟩
  · rw [h.loader]; exact hnodup
  · rw [h.loader]; exact hjob
  · rw [h.loader, h.back]; exact hback g i
  · rw [h.loader]; rw [h.waiting] at hg; exact hwaiting g hg

/-- The two invariants together. -/
def CountedOk (s : State) : Prop := LoaderOk s ∧ UsesOk s

theorem countedOk_of_naming {l : List Part} {s t : State} (hnaming : SameNaming s t) (ho : OnlyChanges l s t)
    (hl : Part.library ∉ l ∧ Part.loader ∉ l) (ok : CountedOk s) : CountedOk t :=
  ⟨loaderOk_of_loading (.of_naming hnaming (ho .loader hl.2)) ok.1,
    usesOk_of_naming hnaming (fun i => by rw [State.entry_of_only ho hl.1]) ok.2⟩

theorem countedOk_of_only {l : List Part} {s t : State} (ho : OnlyChanges l s t)
    (hl : Part.library ∉ l ∧ Part.loader ∉ l) (hheads : Part.heads ∉ l) (ok : CountedOk s) : CountedOk t :=
  countedOk_of_naming (.of_only ho hheads) ho hl ok

theorem countedOk_modHead {s : State} {h : HeadId} {f : Head → Head} (hf : (f (s.head h)).naming = (s.head h).naming)
    (ok : CountedOk s) : CountedOk (s.modHead h f) :=
  countedOk_of_naming (.modHead hf) (s.modHead_only h f) (by decide) ok

/-! ### The scenes -/

theorem swapAtBoundary_usesOk {s : State} (h : HeadId) (ok : UsesOk s) : UsesOk (s.swapAtBoundary h) := by
  unfold State.swapAtBoundary
  split
  · exact usesOk_of_naming (s := s.swap h)
      (SameNaming.trans (.modHead rfl) (.of_only (State.raise_only _ _) (by decide))) (fun _ => rfl) (swap_usesOk h ok)
  · exact ok

theorem presentAtOff_usesOk {s : State} (h : HeadId) (ok : UsesOk s) : UsesOk (s.presentAtOff h) := by
  unfold State.presentAtOff
  split
  · exact usesOk_of_naming (s := s.swapOff h)
      (SameNaming.trans (.modHead rfl) (.of_only (State.raise_only _ _) (by decide))) (fun _ => rfl) (swapOff_usesOk h ok)
  · exact ok

/-- A change of one head's scenes, its cursor apart. -/
theorem loaderOk_of_scenes {s t : State} {h : HeadId} (hothers : OtherHeads h s t) (hloader : t.loader = s.loader)
    (hcursor : (t.head h).cursor = (s.head h).cursor) (ok : LoaderOk s) : LoaderOk t :=
  loaderOk_of_loading (.of_cursor hothers hloader (fun _ => by rw [hcursor]) (by rw [hcursor])) ok

theorem put_countedOk {s : State} (h : HeadId) (p : Position) {r : Option WindowRecord}
    (hvalid : ∀ i, namedAt r = some i → (s.entry i).isValid = true) (ok : CountedOk s) :
    CountedOk (s.putPending h p r) := by
  refine ⟨loaderOk_of_scenes (s.putPending_others h p r) (s.putPending_only h p r .loader (by decide)) ?_ ok.1,
    putPending_usesOk h p hvalid ok.2⟩
  rw [s.putPending_head]

theorem restart_countedOk {s : State} (h : HeadId) (b : Bool) (ok : CountedOk s) :
    CountedOk (s.reloadPending h (if b then .allAbsent else (s.head h).activeScene)) := by
  refine ⟨loaderOk_of_scenes (s.reloadPending_others h _) (s.reloadPending_only h _ .loader (by decide)) ?_ ok.1,
    reloadPending_usesOk h (fun i hi => ?_) ok.2⟩
  · rw [s.reloadPending_head]
  · cases b with
    | true => exact absurd hi (Scene.names_allAbsent i)
    | false => exact UsesOk.isValid ok.2 (Head.active_mem_uses hi)

theorem swapOff_countedOk {s : State} (h : HeadId) (ok : CountedOk s) : CountedOk (s.swapOff h) := by
  refine ⟨loaderOk_of_scenes (s.swapOff_others h) (s.swapOff_only h .loader (by decide)) ?_ ok.1,
    swapOff_usesOk h ok.2⟩
  rw [s.swapOff_head]

/-! ### The cursor at a boundary and at HEAD_OFF (R135, R136) -/

theorem State.swapCursor_others (s : State) (h : HeadId) : OtherHeads h s (s.swapCursor h) := by
  unfold State.swapCursor
  split
  · exact ((State.modHead_others s h _).trans (.of_only (State.dropUseOf_only _ _) (by decide))).trans
      (.of_only (State.raise_only _ _) (by decide))
  all_goals exact .refl h s

/-- The old front shape's use is dropped; the LOADED shape keeps its own. -/
theorem swapCursor_usesOk {s : State} (h : HeadId) (ok : UsesOk s) : UsesOk (s.swapCursor h) := by
  unfold State.swapCursor
  cases hback : (s.head h).cursor.back with
  | empty => exact ok
  | loading i => exact ok
  | loaded sh =>
    have hothers := s.swapCursor_others h
    unfold State.swapCursor at hothers
    rw [hback] at hothers
    refine usesOk_renamed ok hothers (fun _ => 0)
      (fun i => [(s.head h).cursor.front.map Shape.id].count (some i)) (fun i => ?_) fun i => ?_
    · dsimp only
      rw [State.entry_raise, State.useCount_dropUseOf]
      rfl
    · dsimp only
      rw [State.head_raise, State.head_dropUseOf, State.modCursor, State.head_modHead_same, Head.namesOf_eq,
        Head.namesOf_eq, hback]
      simp only [List.count_cons, List.count_nil, BackBuffer.uses, Option.map]
      simp
      omega

theorem boundary_usesOk {s : State} (h : HeadId) (t : Timing) (time : Time) (ok : UsesOk s) :
    UsesOk (s.boundary h t time) := by
  have hcounted : UsesOk (s.modHead h Head.counted) := usesOk_of_naming (.modHead rfl) (fun _ => rfl) ok
  have hfollow : UsesOk ((s.modHead h Head.counted).followBoundary h t time) := by
    refine usesOk_of_naming (.of_head (State.followBoundary_others _ h t time) ?_) (fun i => ?_) hcounted
    · rw [State.followBoundary_head]; rfl
    · rw [State.entry_of_only (State.followBoundary_only _ h t time) (by decide)]
  have hselected : UsesOk ((((s.modHead h Head.counted).followBoundary h t time).swapAtBoundary h).selectAll h) :=
    usesOk_of_naming (.of_selection (State.selectAll_selection _ h))
      (fun i => by rw [State.entry_of_only (State.selectAll_only _ h) (by decide)]) (swapAtBoundary_usesOk h hfollow)
  unfold State.boundary
  generalize (((s.modHead h Head.counted).followBoundary h t time).swapAtBoundary h).selectAll h = u at hselected ⊢
  have hcursor : UsesOk (u.cursorBoundary h) := by
    refine usesOk_of_naming (.modHead ?_) (fun _ => rfl) (swapCursor_usesOk h hselected)
    unfold Cursor.latch
    cases ((u.swapCursor h).head h).cursor.pendingPosition <;> rfl
  have hanc : UsesOk ((u.cursorBoundary h).ancBoundary h) := by
    refine usesOk_of_naming (.of_head (State.ancBoundary_others _ h) ?_) (fun i => ?_) hcursor
    · rw [State.ancBoundary_head]; rfl
    · rw [State.entry_of_only (State.ancBoundary_only _ h) (by decide)]
  exact usesOk_of_naming (.modHead rfl) (fun _ => rfl) hanc

theorem Cursor.shown_latch_loading (c : Cursor) : (∀ i, c.shown.latch.back = .loading i ↔ c.back = .loading i) ∧
    c.shown.latch.waiting = c.waiting := by
  have hlatch : ∀ d : Cursor, d.latch.back = d.back ∧ d.latch.waiting = d.waiting := fun d => by
    unfold Cursor.latch; split <;> exact ⟨rfl, rfl⟩
  rw [(hlatch _).1, (hlatch _).2]
  unfold Cursor.shown
  split
  · rename_i sh hback; simp [hback]
  · exact ⟨fun _ => Iff.rfl, rfl⟩
  · exact ⟨fun _ => Iff.rfl, rfl⟩

theorem boundary_countedOk {s : State} (h : HeadId) (t : Timing) (time : Time) (ok : CountedOk s) :
    CountedOk (s.boundary h t time) := by
  have hcursor : ((s.boundary h t time).head h).cursor = (s.head h).cursor.shown.latch := by
    rw [s.boundary_head h t time]
  refine ⟨loaderOk_of_loading (.of_cursor (s.boundary_others h t time) (s.boundary_only h t time .loader (by decide))
    (fun i => ?_) ?_) ok.1, boundary_usesOk h t time ok.2⟩
  · rw [hcursor]; exact (Cursor.shown_latch_loading _).1 i
  · rw [hcursor]; exact (Cursor.shown_latch_loading _).2

theorem takeBoundary_countedOk {s : State} (h : HeadId) (time : Time) (ok : CountedOk s) :
    CountedOk (s.takeBoundary h time) := by
  unfold State.takeBoundary
  split
  · exact boundary_countedOk h _ time ok
  · exact boundary_countedOk h _ time ok
  all_goals exact ok

/-- The use of the back buffer is dropped with the buffer. -/
theorem cancelShapes_usesOk {s : State} (h : HeadId) (ok : UsesOk s) : UsesOk (s.cancelShapes h) := by
  refine usesOk_renamed ok (s.cancelShapes_others h) (fun _ => 0)
    (fun i => [(s.head h).cursor.back.uses].count (some i)) (fun i => ?_) fun i => ?_
  · unfold State.cancelShapes
    rw [State.useCount_dropUseOf]
    rfl
  · rw [s.cancelShapes_head, Head.namesOf_eq, Head.namesOf_eq]
    simp only [List.count_cons, List.count_nil, BackBuffer.uses]
    simp
    omega

theorem switchOff_usesOk {s : State} (h : HeadId) (ok : UsesOk s) : UsesOk (s.switchOff h) := by
  have hreleased : UsesOk (s.releasedOff h) := by
    have hnaming : SameNaming s (s.clearSelections h) := .of_selection (s.clearSelections_selection h)
    have hentry := State.entry_of_only (s.releasedOff_only h) (by decide)
    refine usesOk_of_naming (t := s.releasedOff h) ?_ (fun i => by rw [hentry]) ok
    unfold State.releasedOff
    generalize s.clearSelections h = u at hnaming ⊢
    exact hnaming.trans (.modHead rfl)
  have hcancelled := cancelShapes_usesOk h (presentAtOff_usesOk h hreleased)
  rw [State.switchOff_eq]
  generalize ((s.releasedOff h).presentAtOff h).cancelShapes h = u at hcancelled ⊢
  have hanc : UsesOk (u.stopAnc h) :=
    usesOk_of_naming (.of_head (u.stopAnc_others h) (by rw [u.stopAnc_head]; rfl)) (fun _ => rfl) hcancelled
  exact usesOk_of_naming (.of_head (State.stopFollow_others _ h) (by rw [State.stopFollow_head]; rfl))
    (fun i => by rw [State.entry_of_only (State.stopFollow_only _ h) (by decide)]) hanc

theorem switchOff_loaderOk {s : State} (h : HeadId) (ok : LoaderOk s) : LoaderOk (s.switchOff h) := by
  obtain ⟨hnodup, hjob, hback, hwaiting⟩ := ok
  obtain ⟨hqueue', hjob'⟩ := State.switchOff_loader s h
  have hcursor : ((s.switchOff h).head h).cursor = { (s.head h).cursor with back := .empty, waiting := none } := by
    rw [s.switchOff_head h]
  refine ⟨?_, fun j hj => ?_, fun g i => ?_, fun g hg => ?_⟩
  · rw [hqueue']
    exact hnodup.sublist (List.filter_sublist.map Prod.fst)
  · rw [hjob', Option.mem_def, Option.filter_eq_some_iff] at hj
    rw [hqueue']
    exact fun hmem => hjob j hj.1 ((List.filter_sublist.map Prod.fst).subset hmem)
  · rw [hjob', Option.filter_eq_some_iff]
    by_cases hg : g = h
    · subst hg; rw [hcursor]; simp
    · rw [s.switchOff_others h g hg, ← hback g i]; simp [hg]
  · by_cases hgh : g = h
    · subst hgh; rw [hcursor] at hg; exact absurd rfl hg
    · rw [s.switchOff_others h g hgh] at hg
      obtain ⟨⟨k, i⟩, hjobs, hk⟩ := Option.map_eq_some_iff.mp (hwaiting g hg)
      obtain rfl : k = g := hk
      rw [hjob', hjobs]
      simp [Option.filter, hgh]

/-! ### The shape loader (R131 to R134) -/

theorem placeShape_loaderOk {s : State} (h : HeadId) (i : LibId) (ok : LoaderOk s) : LoaderOk (s.placeShape h i) := by
  obtain ⟨hnodup, hjob, hback, hwaiting⟩ := ok
  by_cases hrun : ∃ j, s.loader.job = some (h, j)
  · rw [State.placeShape_of_running hrun]
    obtain ⟨j, hj⟩ := hrun
    refine ⟨hnodup, hjob, fun g k => ?_, fun g hg => ?_⟩
    · refine (hback g k).trans ?_
      by_cases hgh : g = h
      · subst hgh; rw [State.modCursor, State.head_modHead_same]
      · rw [State.modCursor, State.head_modHead_other _ _ hgh]
    · by_cases hgh : g = h
      · subst hgh
        show s.loader.job.map Prod.fst = some g
        rw [hj]; rfl
      · rw [State.modCursor, State.head_modHead_other _ _ hgh] at hg
        exact hwaiting g hg
  · by_cases hqueued : ∃ j, (h, j) ∈ s.loader.queue
    · rw [State.placeShape_of_queued hrun hqueued]
      have hheads : (replaceQueued h i s.loader.queue).map Prod.fst = s.loader.queue.map Prod.fst := by
        unfold replaceQueued
        rw [List.map_map]
        refine List.map_congr_left fun e _ => ?_
        simp only [Function.comp]
        split
        · rename_i he; exact he.symm
        · rfl
      exact ⟨hheads ▸ hnodup, fun j hj => hheads ▸ hjob j hj, hback, hwaiting⟩
    · have hout : h ∉ s.loader.queue.map Prod.fst := fun hmem => by
        obtain ⟨⟨g, j⟩, hentry, rfl⟩ := List.mem_map.mp hmem
        exact hqueued ⟨j, hentry⟩
      rw [State.placeShape_of_unqueued hrun fun j hj => hqueued ⟨j, hj⟩]
      refine ⟨?_, fun j hj => ?_, hback, hwaiting⟩
      · show ((s.loader.queue ++ [(h, i)]).map Prod.fst).Nodup
        rw [List.map_append, List.map_singleton, ← List.concat_eq_append]
        exact hnodup.concat hout
      · show j.1 ∉ (s.loader.queue ++ [(h, i)]).map Prod.fst
        rw [List.map_append, List.map_singleton, List.mem_append, List.mem_singleton, not_or]
        exact ⟨hjob j hj, fun heq => hrun ⟨j.2, hj.trans (congrArg some (Prod.ext heq rfl))⟩⟩

theorem placeShape_naming (s : State) (h : HeadId) (i : LibId) (g : HeadId) (j : LibId) :
    ((s.placeShape h i).head g).namesOf j = (s.head g).namesOf j := by
  unfold State.placeShape
  split
  · rfl
  · rfl
  · by_cases hg : g = h
    · subst hg; rw [State.modCursor, State.head_modHead_same, Head.namesOf_eq, Head.namesOf_eq]
    · rw [State.modCursor, State.head_modHead_other _ _ hg]

theorem placeShape_countedOk {s : State} (h : HeadId) (i : LibId) (ok : CountedOk s) : CountedOk (s.placeShape h i) :=
  ⟨placeShape_loaderOk h i ok.1, usesOk_of_only (s.placeShape_only h i) (by decide) (placeShape_naming s h i) ok.2⟩

/-- With the loader idle no back buffer is LOADING and no request waits. -/
theorem LoaderOk.idle {s : State} (ok : LoaderOk s) (hjob : s.loader.job = none) (g : HeadId) :
    (∀ i, (s.head g).cursor.back ≠ .loading i) ∧ (s.head g).cursor.waiting = none := by
  obtain ⟨-, -, hback, hwaiting⟩ := ok
  refine ⟨fun i hi => ?_, by_contra fun hw => ?_⟩
  · have hsome := (hback g i).mpr hi
    rw [hjob] at hsome
    cases hsome
  · have hsome := hwaiting g hw
    rw [hjob] at hsome
    cases hsome

theorem startJob_countedOk {s : State} (ok : CountedOk s) : CountedOk s.startJob := by
  by_cases hunable : s.loader.queue = [] ∨ s.loader.job ≠ none
  · rw [State.startJob_of_unable hunable]; exact ok
  obtain ⟨hqueue, hbusy⟩ := not_or.mp hunable
  have hidle : s.loader.job = none := not_not.mp hbusy
  obtain ⟨⟨h, i⟩, queue, hcons⟩ := List.exists_cons_of_ne_nil hqueue
  rw [State.startJob_of_queued (h := h) (i := i) (queue := queue) (by rw [← hcons, ← hidle])]
  obtain ⟨⟨hnodup, hjob, hback, hwaiting⟩, huses⟩ := ok
  have hfree := LoaderOk.idle ⟨hnodup, hjob, hback, hwaiting⟩ hidle
  rw [hcons, List.map_cons, List.nodup_cons] at hnodup
  split
  · rename_i hvalid
    refine ⟨?_, beginJob_usesOk (s := { s with loader := ⟨queue, none⟩ })
      (Entry.isValid_of_validOf (Option.isSome_iff_ne_none.mp hvalid)) huses⟩
    have hloader := State.beginJob_loader { s with loader := ⟨queue, none⟩ } h i
    have hhead := congrArg Head.cursor (State.beginJob_head { s with loader := ⟨queue, none⟩ } h i)
    have hothers := State.beginJob_others { s with loader := ⟨queue, none⟩ } h i
    refine ⟨?_, ?_, fun g j => ?_, fun g hg => ?_⟩
    · rw [hloader]; exact hnodup.2
    · rw [hloader]; rintro j ⟨⟩; exact hnodup.1
    · rw [hloader]
      by_cases hgh : g = h
      · subst hgh; rw [hhead]; simp
      · rw [hothers g hgh]
        exact ⟨fun heq => absurd (congrArg Prod.fst (Option.some.inj heq)).symm hgh,
          fun hloading => absurd hloading ((hfree g).1 j)⟩
    · rw [hloader]
      by_cases hgh : g = h
      · rw [hgh]; rfl
      · rw [hothers g hgh] at hg; exact absurd (hfree g).2 hg
  · refine ⟨⟨hnodup.2, nofun, fun g j => ?_, fun g hg => absurd (hfree g).2 hg⟩, huses⟩
    exact ⟨nofun, fun hloading => absurd hloading ((hfree g).1 j)⟩

theorem finishJob_countedOk {s : State} (ok : CountedOk s) : CountedOk s.finishJob := by
  cases hrun : s.loader.job with
  | none => rw [State.finishJob_of_idle hrun]; exact ok
  | some job =>
  obtain ⟨h, i⟩ := job
  obtain ⟨⟨hnodup, hjob, hback, hwaiting⟩, huses⟩ := ok
  have hloading : (s.head h).cursor.back = .loading i := (hback h i).mp hrun
  have hvalid : (s.entry i).isValid = true := UsesOk.isValid huses (h := h) <| by
    unfold Head.uses
    rw [hloading]
    simp [BackBuffer.uses]
  obtain ⟨e, hinfo⟩ : ∃ e, (s.entry i).info? = some e := by
    cases hi : s.entry i with
    | valid e n => exact ⟨e, rfl⟩
    | empty => rw [hi] at hvalid; cases hvalid
    | receiving e n => rw [hi] at hvalid; cases hvalid
    | verifying e => rw [hi] at hvalid; cases hvalid
  have hfinish := State.finishJob_of_running hrun hinfo
  have honly := s.finishJob_only
  rw [hfinish] at honly ⊢
  have hothers := State.finishJob_others s h i e
  have hhead : ((s.loaded h i e).queueWaiting h).head h = { s.head h with
      cursor := { (s.head h).cursor with back := .loaded (s.copiedShape i e), waiting := none } } := by
    rw [State.queueWaiting_head, State.loaded_head]
  have hout : h ∉ s.loader.queue.map Prod.fst := hjob (h, i) hrun
  have hqueue : ((s.loaded h i e).queueWaiting h).loader.job = none ∧
      (((s.loaded h i e).queueWaiting h).loader.queue.map Prod.fst).Nodup := by
    cases hw : (s.head h).cursor.waiting with
    | none =>
      rw [State.queueWaiting_of_none (by rw [State.loaded_head]; exact hw)]
      exact ⟨rfl, hnodup⟩
    | some j =>
      rw [State.queueWaiting_of_some (j := j) (by rw [State.loaded_head]; exact hw)]
      refine ⟨rfl, ?_⟩
      show ((s.loader.queue ++ [(h, j)]).map Prod.fst).Nodup
      rw [List.map_append, List.map_singleton, ← List.concat_eq_append]
      exact hnodup.concat hout
  refine ⟨⟨hqueue.2, by rw [hqueue.1]; nofun, fun g j => ?_, fun g hg => ?_⟩,
    usesOk_of_only honly (by decide) (fun g j => ?_) huses⟩
  · rw [hqueue.1]
    refine ⟨nofun, fun hg => ?_⟩
    by_cases hgh : g = h
    · subst hgh; rw [hhead] at hg; cases hg
    · rw [hothers g hgh, ← hback g j, hrun] at hg
      exact absurd (congrArg Prod.fst (Option.some.inj hg)).symm hgh
  · by_cases hgh : g = h
    · subst hgh; rw [hhead] at hg; exact absurd rfl hg
    · rw [hothers g hgh] at hg
      have hjobs := hwaiting g hg
      rw [hrun] at hjobs
      exact absurd (Option.some.inj hjobs).symm hgh
  · by_cases hgh : g = h
    · subst hgh
      rw [hhead, Head.namesOf_eq, Head.namesOf_eq, hloading]
      rfl
    · rw [hothers g hgh]

/-! ### The library -/

/-- Entries that are not in use change, and come to be in no use. -/
theorem countedOk_setEntry {s : State} {i : LibId} {v : Entry} (hold : (s.entry i).useCount = 0)
    (hnew : v.useCount = 0) (ok : CountedOk s) : CountedOk (s.setEntry i v) := by
  refine ⟨loaderOk_of_loading ⟨rfl, fun _ _ => Iff.rfl, fun _ => rfl⟩ ok.1,
    usesOk_of_naming (s := s) (fun _ => rfl) (fun j => ?_) ok.2⟩
  by_cases hj : j = i
  · subst hj; rw [State.entry_setEntry_same, hnew, hold]
  · rw [State.entry_setEntry_other _ _ hj]

theorem countedOk_setVerifyQueue {s : State} (q : List LibId) (ok : CountedOk s) : CountedOk (s.setVerifyQueue q) :=
  ⟨loaderOk_of_loading ⟨rfl, fun _ _ => Iff.rfl, fun _ => rfl⟩ ok.1,
    usesOk_of_naming (fun _ => rfl) (fun _ => rfl) ok.2⟩

theorem countedOk_raise {s : State} (n : Notice) (ok : CountedOk s) : CountedOk (s.raise n) :=
  countedOk_of_only (s.raise_only n) (by decide) (by decide) ok

theorem verified_countedOk {s : State} (i : LibId) (rest : List LibId) (ok : CountedOk s) :
    CountedOk (s.verified i rest) := by
  cases hentry : s.entry i with
  | verifying e =>
    have hold : ((s.setVerifyQueue rest).entry i).useCount = 0 := by
      show (s.entry i).useCount = 0
      rw [hentry]; rfl
    rw [State.verified_of_verifying hentry]
    split
    · exact countedOk_raise _ (countedOk_setEntry hold rfl (countedOk_setVerifyQueue rest ok))
    · exact countedOk_raise _ (countedOk_setEntry hold rfl (countedOk_setVerifyQueue rest ok))
  | empty => unfold State.verified; rw [hentry]; exact ok
  | receiving e n => unfold State.verified; rw [hentry]; exact ok
  | valid e n => unfold State.verified; rw [hentry]; exact ok

theorem abandon_countedOk {s : State} (i : LibId) (ok : CountedOk s) : CountedOk (s.abandon i) := by
  by_cases h : ∃ e n, s.entry i = .receiving e n
  · obtain ⟨e, n, hentry⟩ := h
    rw [State.abandon_of_receiving hentry]
    exact countedOk_raise _ (countedOk_setEntry (by rw [hentry]; rfl) rfl ok)
  · rw [State.abandon_of_idle fun e n hentry => h ⟨e, n, hentry⟩]; exact ok

/-! ### Every step -/

theorem State.takeShortfall_naming (s : State) (h : HeadId) (l : Nat) (m : List MissedPixel) :
    SameNaming s (s.takeShortfall h l m) := by
  rcases s.takeShortfall_head h l m with e | ⟨t, d, _, _, _, _, _, e⟩
  · rw [e]; exact fun _ => rfl
  · rw [e]; exact SameNaming.trans (.modHead rfl) (.of_only (State.raise_only _ _) (by decide))

theorem State.takeFollowLoss_naming (s : State) (h : HeadId) : SameNaming s (s.takeFollowLoss h) :=
  .of_head (s.takeFollowLoss_others h) (by rw [s.takeFollowLoss_head]; split <;> rfl)

theorem BlockChange.countedOk {s t : State} (h : BlockChange s t) (ok : CountedOk s) : CountedOk t := by
  cases h with
  | start p l w n time =>
    exact countedOk_of_naming (.of_lossArises (s.takeStart_head p l w n time)) (s.takeStart_only _ _ _ _ _) (by decide) ok
  | loseSignal p _ =>
    exact countedOk_of_naming (.of_lossArises (s.loseSignal_head p)) (s.loseSignal_only p) (by decide) ok
  | resetPort p => exact countedOk_of_naming (.of_lossArises (s.resetPort_head p)) (s.resetPort_only p) (by decide) ok
  | fillEnd p px => exact countedOk_of_only (s.takeFillEnd_only _ _) (by decide) (by decide) ok
  | boundary h time => exact takeBoundary_countedOk h time ok
  | shortfall h l m => exact countedOk_of_naming (s.takeShortfall_naming h l m) (s.takeShortfall_only _ _ _) (by decide) ok
  | followLoss h => exact countedOk_of_naming (s.takeFollowLoss_naming h) (s.takeFollowLoss_only _) (by decide) ok
  | verified i rest _ => exact verified_countedOk i rest ok
  | abandon i => exact abandon_countedOk i ok
  | startJob => exact startJob_countedOk ok
  | finishJob => exact finishJob_countedOk ok
  | captureOn p => exact countedOk_of_only (s.captureOn_only _) (by decide) (by decide) ok
  | captureOff p => exact countedOk_of_only (s.captureOff_only _) (by decide) (by decide) ok
  | depth p k _ _ =>
    exact countedOk_of_only (((s.modPort_only _ _).weaken (m := [.pool, .ports]) (by decide)).trans
      ((State.evictSurplus_only _ _).weaken (by decide))) (by decide) (by decide) ok
  | flush p => exact countedOk_of_only (s.flush_only _) (by decide) (by decide) ok
  | movePin i p j _ _ => exact countedOk_of_only (s.movePin_only _ _) (by decide) (by decide) ok
  | emptyPin i => exact countedOk_of_only (s.emptyPin_only _) (by decide) (by decide) ok
  | headOff h _ => exact ⟨switchOff_loaderOk h ok.1, switchOff_usesOk h ok.2⟩
  | follow h source w l _ _ =>
    refine countedOk_of_naming (.of_head (s.setFollow_others h source w l) ?_) (s.setFollow_only _ _ _ _) (by decide) ok
    rw [s.setFollow_head]; rfl
  | put h p r _ hnames _ =>
    exact put_countedOk h p (fun i hi => Entry.isValid_of_validOf (State.namesImage_iff.mp hnames i hi)) ok
  | remove h p _ => exact put_countedOk h p nofun ok
  | restart h b _ => exact restart_countedOk h b ok
  | presentOff h _ _ => exact swapOff_countedOk h ok
  | libOpen i e b hempty _ _ _ => exact countedOk_setEntry (by rw [hempty]; rfl) rfl ok
  | libData i e n bs hentry _ =>
    have hwritten := State.writeBytes_only (entryAddress e) bs n s
    exact countedOk_setEntry (by rw [State.entry_of_only hwritten (by decide), hentry]; rfl) rfl
      (countedOk_of_only hwritten (by decide) (by decide) ok)
  | libClose i e n hentry =>
    exact countedOk_setVerifyQueue _ (countedOk_setEntry (by rw [hentry]; rfl) rfl ok)
  | libDelete i h =>
    refine countedOk_setEntry ?_ rfl ok
    rcases h with ⟨e, n, hentry⟩ | ⟨e, hentry⟩ <;> rw [hentry] <;> rfl
  | placeShape h i _ => exact placeShape_countedOk h i ok
  | cursor h f hkeep =>
    obtain ⟨hfront, hback, hwaiting⟩ := hkeep (s.head h).cursor
    exact countedOk_modHead (Head.naming_eq_iff.mpr ⟨rfl, rfl, hfront, hback, hwaiting⟩) ok
  | clearPort p => exact countedOk_of_only (s.modPort_only _ _) (by decide) (by decide) ok
  | timing h | headOn h | mute h | background h | present h | ancConfig h | ancPush h | ancFlush h
  | clearHead h => exact countedOk_modHead rfl ok

/-- Settles O58: what every change of the blocks keeps, every step keeps. -/
theorem stepsKeepUsesCounted : Obligations.StepsKeepUsesCounted := fun _ _ ok hstep =>
  step_keeps (Inv := CountedOk) (parts := [.heads, .library, .loader]) ⟨loaderOk_reset, usesOk_reset⟩
    (fun {s t} hsame ok => by
      have hnaming : SameNaming s t := fun h =>
        congrArg (fun v : Vector Head 2 => v[h].naming) (hsame .heads (by decide))
      exact ⟨loaderOk_of_loading (.of_naming hnaming (hsame .loader (by decide))) ok.1,
        usesOk_of_naming hnaming (fun i => congrArg (fun l : Library => l.entries[i].useCount)
          (hsame .library (by decide))) ok.2⟩)
    (by decide) BlockChange.countedOk hstep ok

end Sys2Proof.Machine
end

section
/-! The notice queue through the changes of the blocks, which do nothing to it but raise notices (R166 to R168). -/

namespace Sys2Proof.Machine

/-! ### Raising notices -/

/-- Of the notice queue, the operation has raised notices alone. -/
def Raises (s t : State) : Prop := ∃ l, t.notices = s.notices.raiseAll l

theorem Raises.refl (s : State) : Raises s s := ⟨[], rfl⟩

theorem Raises.trans {s t u : State} (h₁ : Raises s t) (h₂ : Raises t u) : Raises s u := by
  obtain ⟨l, hl⟩ := h₁
  obtain ⟨m, hm⟩ := h₂
  exact ⟨l ++ m, by rw [hm, hl, NoticeQueue.raiseAll_append]⟩

theorem Raises.of_only {l : List Part} {s t : State} (h : OnlyChanges l s t) (hl : Part.notices ∉ l) : Raises s t :=
  ⟨[], h .notices hl⟩

theorem Raises.raise (s : State) (n : Notice) : Raises s (s.raise n) := ⟨[n], rfl⟩

theorem Raises.then_raise {s t : State} (h : Raises s t) (n : Notice) : Raises s (t.raise n) := h.trans (.raise t n)

theorem Raises.then_only {l : List Part} {s t u : State} (h : Raises s t) (ho : OnlyChanges l t u)
    (hl : Part.notices ∉ l) : Raises s u := h.trans (.of_only ho hl)

/-! ### The ports -/

theorem State.grant_raises (s : State) (p : PortId) (g : Geometry) (n : FrameNumber) (i : SlotId) :
    Raises s (s.grant p g n i) := by
  have hslot : Raises s (s.setSlot i (.filling p g)) := .of_only (s.setSlot_only _ _) (by decide)
  unfold State.grant
  dsimp only
  split
  · exact (hslot.then_only (State.modPort_only _ _ _) (by decide)).then_raise _
  · exact hslot

theorem State.skip_raises (s : State) (p : PortId) (n : FrameNumber) : Raises s (s.skip p n) := by
  have hcount : Raises s (s.countPort p fun c => { c with skipped := c.skipped + 1 }) :=
    .of_only (s.countPort_only _ _) (by decide)
  unfold State.skip
  dsimp only
  split
  · exact hcount
  · exact (hcount.then_only (State.modPort_only _ _ _) (by decide)).then_raise _

theorem State.claim_raises (s : State) (p : PortId) (g : Geometry) (n : FrameNumber) : Raises s (s.claim p g n).2 := by
  unfold State.claim
  split
  · exact (Raises.of_only (s.setFreeList_only _) (by decide)).trans (State.grant_raises _ _ _ _ _)
  · split
    · exact (((Raises.of_only (s.countDrop_only _ _) (by decide)).then_only (State.countPort_only _ _ _)
        (by decide)).then_only (State.setReady_only _ _ _) (by decide)).trans (State.grant_raises _ _ _ _ _)
    · exact s.skip_raises p n

theorem State.claimFor_raises (s : State) (p : PortId) (m : Measurement) : Raises s (s.claimFor p m) := by
  have h := s.claim_raises p m.geometry (s.port p).frameNumber
  unfold State.claimFor
  split
  · rename_i e; rw [e] at h; exact h.then_only (State.modPort_only _ _ _) (by decide)
  · rename_i e; rw [e] at h; exact h

theorem State.offerToWriter_raises (s : State) (p : PortId) (m : Measurement) (b : Bool) :
    Raises s (s.offerToWriter p m b) := by
  unfold State.offerToWriter
  split
  · exact .refl s
  · split
    · exact s.claimFor_raises p m
    · exact .refl s
  · split
    · exact .of_only (s.restart_only _ _ _) (by decide)
    · split
      · exact .of_only (s.modPort_only _ _) (by decide)
      · exact .refl s

theorem State.lockedStart_raises (s : State) (p : PortId) (m : Measurement) (l : FieldLevel) (time : Time) :
    Raises s (s.lockedStart p m l time) := by
  unfold State.lockedStart
  split
  · exact (Raises.of_only (s.modPort_only _ _) (by decide)).trans (State.offerToWriter_raises _ _ _ _)
  · exact s.offerToWriter_raises _ _ _

theorem State.measuredPort_raises (s : State) (p : PortId) (l : FieldLevel) (m : Measurement) (time : Time) :
    Raises s (s.measuredPort p l m time) := by
  have hport : Raises s (s.modPort p fun q => q.afterMeasure l m time) := .of_only (s.modPort_only _ _) (by decide)
  unfold State.measuredPort
  split
  · exact hport
  · exact hport.then_raise _

theorem State.measuredStart_raises (s : State) (p : PortId) (l : FieldLevel) (m : Measurement) (time : Time) :
    Raises s (s.measuredStart p l m time) := by
  rw [State.measuredStart_eq]
  split
  · exact (s.measuredPort_raises p l m time).then_only (State.leaveLocked_only _ _ _) (by decide)
  · exact s.measuredPort_raises p l m time

theorem State.takeStart_raises (s : State) (p : PortId) (l : FieldLevel) (w : Option Nat) (n : Nat) (time : Time) :
    Raises s (s.takeStart p l w n time) := by
  rw [State.takeStart_eq]
  split
  · exact (Raises.of_only (s.modPort_only _ _) (by decide)).then_raise _
  · split
    · exact (s.measuredStart_raises _ _ _ _).trans (State.lockedStart_raises _ _ _ _ _)
    · exact s.measuredStart_raises _ _ _ _

theorem State.loseSignal_raises (s : State) (p : PortId) : Raises s (s.loseSignal p) := by
  have hraise : Raises s ((s.modPort p Port.loseSignal).raise (.inputState p .noSignal none)) :=
    (Raises.of_only (s.modPort_only _ _) (by decide)).then_raise _
  unfold State.loseSignal
  dsimp only
  split
  · exact hraise.then_only (State.leaveLocked_only _ _ _) (by decide)
  · exact hraise

theorem State.resetDetector_raises (s : State) (p : PortId) : Raises s (s.resetDetector p) := by
  unfold State.resetDetector
  dsimp only
  split
  · exact (s.loseSignal_raises p).then_only (State.modPort_only _ _ _) (by decide)
  · exact (Raises.of_only (s.modPort_only _ _) (by decide)).then_only (State.modPort_only _ _ _) (by decide)

theorem State.resetPort_raises (s : State) (p : PortId) : Raises s (s.resetPort p) :=
  (((Raises.of_only (s.captureOff_only p) (by decide)).then_only (State.flush_only _ _) (by decide)).trans
    (State.resetDetector_raises _ _)).then_only (State.modPort_only _ _ _) (by decide)

/-! ### The heads -/

theorem State.raiseFreeRun_raises (s : State) (h : HeadId) (f : FollowState) : Raises s (s.raiseFreeRun h f) := by
  unfold State.raiseFreeRun
  split
  · exact .refl s
  · exact .raise s _

theorem State.takeFollowLoss_raises (s : State) (h : HeadId) : Raises s (s.takeFollowLoss h) := by
  unfold State.takeFollowLoss
  split
  · exact .refl s
  · exact (Raises.of_only (s.modHead_only _ _) (by decide)).trans (State.raiseFreeRun_raises _ _ _)

theorem State.computeFollow_raises (s : State) (h : HeadId) (t : Timing) (time : Time) :
    Raises s (s.computeFollow h t time) := ⟨_, s.computeFollow_notices h t time⟩

theorem State.followBoundary_raises (s : State) (h : HeadId) (t : Timing) (time : Time) :
    Raises s (s.followBoundary h t time) := by
  refine Raises.trans ?_ (State.computeFollow_raises (s.lossBeforeBoundary h) h t time)
  unfold State.lossBeforeBoundary
  split
  · exact s.takeFollowLoss_raises h
  · exact .refl s

theorem State.swapAtBoundary_raises (s : State) (h : HeadId) : Raises s (s.swapAtBoundary h) := by
  unfold State.swapAtBoundary
  split
  · exact ((Raises.of_only (s.swap_only h) (by decide)).then_only (State.modHead_only _ _ _) (by decide)).then_raise _
  · exact .refl s

theorem State.swapCursor_raises (s : State) (h : HeadId) : Raises s (s.swapCursor h) := by
  unfold State.swapCursor
  split
  · exact ((Raises.of_only (s.modCursor_only _ _) (by decide)).then_only (State.dropUseOf_only _ _)
      (by decide)).then_raise _
  all_goals exact .refl s

theorem State.ancBoundary_raises (s : State) (h : HeadId) : Raises s (s.ancBoundary h) := by
  unfold State.ancBoundary
  dsimp only
  split
  · exact (Raises.of_only (s.modAnc_only _ _) (by decide)).then_raise _
  · exact .of_only (s.modAnc_only _ _) (by decide)

theorem State.boundary_raises (s : State) (h : HeadId) (t : Timing) (time : Time) : Raises s (s.boundary h t time) :=
  (((((((Raises.of_only (s.modHead_only h Head.counted) (by decide)).trans
    (State.followBoundary_raises _ h t time)).trans (State.swapAtBoundary_raises _ h)).then_only
    (State.selectAll_only _ h) (by decide)).trans (State.swapCursor_raises _ h)).then_only
    (State.modCursor_only _ h _) (by decide)).trans (State.ancBoundary_raises _ h)).then_only
    (State.modHead_only _ h _) (by decide)

theorem State.takeBoundary_raises (s : State) (h : HeadId) (time : Time) : Raises s (s.takeBoundary h time) := by
  unfold State.takeBoundary
  split
  · exact s.boundary_raises h _ time
  · exact s.boundary_raises h _ time
  all_goals exact .refl s

theorem State.presentAtOff_raises (s : State) (h : HeadId) : Raises s (s.presentAtOff h) := by
  unfold State.presentAtOff
  split
  · exact ((Raises.of_only (s.swapOff_only h) (by decide)).then_only (State.modHead_only _ _ _)
      (by decide)).then_raise _
  · exact .refl s

theorem State.stopFollow_raises (s : State) (h : HeadId) : Raises s (s.stopFollow h) :=
  (Raises.of_only (s.modHead_only _ _) (by decide)).trans (State.raiseFreeRun_raises _ _ _)

theorem State.switchOff_raises (s : State) (h : HeadId) : Raises s (s.switchOff h) := by
  rw [State.switchOff_eq]
  exact ((((Raises.of_only (s.releasedOff_only h) (by decide)).trans (State.presentAtOff_raises _ h)).then_only
    (State.cancelShapes_only _ h) (by decide)).then_only (State.stopAnc_only _ h) (by decide)).trans
    (State.stopFollow_raises _ h)

theorem State.setFollow_raises (s : State) (h : HeadId) (source : Option PortId) (w l : Nat) :
    Raises s (s.setFollow h source w l) := by
  unfold State.setFollow
  dsimp only
  split
  · exact .of_only (s.modHead_only _ _) (by decide)
  · exact (Raises.of_only (s.modHead_only _ _) (by decide)).trans (State.raiseFreeRun_raises _ _ _)

theorem State.takeShortfall_raises (s : State) (h : HeadId) (l : Nat) (m : List MissedPixel) :
    Raises s (s.takeShortfall h l m) := by
  rcases s.takeShortfall_head h l m with e | ⟨t, d, _, _, _, _, _, e⟩
  · rw [e]; exact .refl s
  · rw [e]; exact (Raises.of_only (s.modHead_only _ _) (by decide)).then_raise _

/-! ### The library and the shape loader -/

theorem State.abandon_raises (s : State) (i : LibId) : Raises s (s.abandon i) := by
  unfold State.abandon
  split
  · exact (Raises.of_only (s.setEntry_only _ _) (by decide)).then_raise _
  all_goals exact .refl s

theorem State.verified_raises (s : State) (i : LibId) (rest : List LibId) : Raises s (s.verified i rest) := by
  unfold State.verified
  split
  · dsimp only
    split
    all_goals exact ((Raises.of_only (s.setVerifyQueue_only _) (by decide)).then_only (State.setEntry_only _ _ _)
      (by decide)).then_raise _
  all_goals exact .refl s

theorem State.startJob_raises (s : State) : Raises s s.startJob := by
  unfold State.startJob
  split
  · dsimp only
    split
    · exact (Raises.of_only (s.setLoader_only _) (by decide)).then_only (State.beginJob_only _ _ _) (by decide)
    · exact (Raises.of_only (s.setLoader_only _) (by decide)).then_raise _
  all_goals exact .refl s

/-- Every change of the blocks raises notices and does nothing else to the queue. -/
theorem BlockChange.raises {s t : State} (h : BlockChange s t) : Raises s t := by
  cases h with
  | start p l w n time => exact s.takeStart_raises p l w n time
  | fillEnd p px => exact .of_only (s.takeFillEnd_only _ _) (by decide)
  | loseSignal p _ => exact s.loseSignal_raises p
  | boundary h time => exact s.takeBoundary_raises h time
  | shortfall h l m => exact s.takeShortfall_raises h l m
  | followLoss h => exact s.takeFollowLoss_raises h
  | verified i rest _ => exact s.verified_raises i rest
  | abandon i => exact s.abandon_raises i
  | startJob => exact s.startJob_raises
  | finishJob => exact .of_only s.finishJob_only (by decide)
  | captureOn p => exact .of_only (s.captureOn_only _) (by decide)
  | captureOff p => exact .of_only (s.captureOff_only _) (by decide)
  | depth p k _ _ =>
    exact (Raises.of_only (s.modPort_only _ _) (by decide)).then_only (State.evictSurplus_only _ _) (by decide)
  | flush p => exact .of_only (s.flush_only _) (by decide)
  | resetPort p => exact s.resetPort_raises p
  | movePin i p j _ _ => exact .of_only (s.movePin_only _ _) (by decide)
  | emptyPin i => exact .of_only (s.emptyPin_only _) (by decide)
  | headOff h _ => exact s.switchOff_raises h
  | follow h source w l _ _ => exact s.setFollow_raises h source w l
  | put h p r _ _ _ => exact .of_only (s.putPending_only _ _ _) (by decide)
  | remove h p _ => exact .of_only (s.putPending_only _ _ _) (by decide)
  | restart h b _ => exact .of_only (s.reloadPending_only _ _) (by decide)
  | presentOff h _ _ => exact .of_only (s.swapOff_only _) (by decide)
  | libOpen i e b _ _ _ _ => exact .of_only (s.setEntry_only _ _) (by decide)
  | libData i e n bs _ _ =>
    exact (Raises.of_only (State.writeBytes_only (entryAddress e) bs n s) (by decide)).then_only
      (State.setEntry_only _ _ _) (by decide)
  | libClose i e n _ =>
    exact (Raises.of_only (s.setEntry_only _ _) (by decide)).then_only (State.setVerifyQueue_only _ _) (by decide)
  | libDelete i _ => exact .of_only (s.setEntry_only _ _) (by decide)
  | placeShape h i _ => exact .of_only (s.placeShape_only _ _) (by decide)
  | clearPort p => exact .of_only (s.modPort_only _ _) (by decide)
  | timing h | headOn h | mute h | background h | present h | cursor h | ancConfig h | ancPush h | ancFlush h
  | clearHead h => exact .of_only (s.modHead_only _ _) (by decide)

/-! ### The invariant of the notice queue -/

/-- What `NoticesOk` says, of a queue and of the notice whose copy is on the line. -/
structure QueueOk (q : NoticeQueue) (line : Option (BitVec 16)) : Prop where
  length : q.entries.length ≤ 16
  sequences : q.entries.map NoticeEntry.sequence =
    (List.range q.entries.length).map fun k => q.next - BitVec.ofNat 16 (q.entries.length - k)
  ranks : (q.entries.map fun e => e.stage.rank).Pairwise (· ≤ ·)
  sending : (q.entries.filter fun e => decide (e.stage = .firstSend)).length ≤ 1
  onLine : ∀ e ∈ q.entries, e.stage = .firstSend → line = some e.sequence
  entry : ∀ e ∈ q.entries, (e.resendDue = true → e.stage = .sent) ∧ e.lost ≤ 255
  lost : q.lost ≤ 255
  timer : q.resendTimer = q.entries.any NoticeEntry.isSent
  merged : ((q.entries.filter fun e => decide (e.stage = .new) && e.notice.coalescable).map fun e =>
    (e.notice.code, e.notice.object)).Nodup

theorem noticesOk_iff {s : State} : NoticesOk s ↔ QueueOk s.notices s.link.noticeOnLine :=
  ⟨fun ⟨h₁, h₂, h₃, h₄, h₅, h₆, h₇, h₈, h₉⟩ => ⟨h₁, h₂, h₃, h₄, h₅, h₆, h₇, h₈, h₉⟩,
    fun ⟨h₁, h₂, h₃, h₄, h₅, h₆, h₇, h₈, h₉⟩ => ⟨h₁, h₂, h₃, h₄, h₅, h₆, h₇, h₈, h₉⟩⟩

theorem Notice.coalescable_of_code {m n : Notice} (h : m.code = n.code) : m.coalescable = n.coalescable := by
  rw [Bool.eq_iff_iff, Notice.coalescable_iff, Notice.coalescable_iff, h]

theorem filter_map_same {α : Type} {g : α → α} {P : α → Bool} {l : List α} (h : ∀ x ∈ l, P (g x) = P x) :
    (l.map g).filter P = (l.filter P).map g := by
  rw [List.filter_map]
  exact congrArg _ (List.filter_congr h)

theorem any_map_same {α : Type} {g : α → α} {P : α → Bool} {l : List α} (h : ∀ x ∈ l, P (g x) = P x) :
    (l.map g).any P = l.any P := by
  rw [Bool.eq_iff_iff, List.any_eq_true, List.any_eq_true]
  constructor
  · rintro ⟨y, hy, hP⟩
    obtain ⟨x, hx, rfl⟩ := List.mem_map.mp hy
    exact ⟨x, hx, h x hx ▸ hP⟩
  · rintro ⟨x, hx, hP⟩
    exact ⟨g x, List.mem_map_of_mem hx, (h x hx).trans hP⟩

/-- What the invariant does not speak of when entries are changed in place, the stages and the flags apart. -/
structure SameEntry (e x : NoticeEntry) : Prop where
  sequence : x.sequence = e.sequence
  lost : x.lost = e.lost
  code : x.notice.code = e.notice.code
  object : x.notice.object = e.notice.object

/-- The entries are changed in place, their stages not at all, and only a SENT entry comes to be due. -/
theorem QueueOk.map {q : NoticeQueue} {line : Option (BitVec 16)} (ok : QueueOk q line) {g : NoticeEntry → NoticeEntry}
    (hsame : ∀ e ∈ q.entries, SameEntry e (g e)) (hstage : ∀ e ∈ q.entries, (g e).stage = e.stage)
    (hdue : ∀ e ∈ q.entries, (g e).resendDue = true → e.stage = .sent) :
    QueueOk { q with entries := q.entries.map g } line where
  length := by rw [List.length_map]; exact ok.length
  sequences := by
    rw [List.map_map, List.length_map, ← ok.sequences]
    exact List.map_congr_left fun e he => (hsame e he).sequence
  ranks := by
    have hranks : (q.entries.map g).map (fun e => e.stage.rank) = q.entries.map fun e => e.stage.rank := by
      rw [List.map_map]
      exact List.map_congr_left fun e he => congrArg Stage.rank (hstage e he)
    rw [hranks]
    exact ok.ranks
  sending := by
    rw [filter_map_same fun e he => by rw [hstage e he], List.length_map]
    exact ok.sending
  onLine e he := by
    obtain ⟨x, hx, rfl⟩ := List.mem_map.mp he
    rw [hstage x hx, (hsame x hx).sequence]
    exact ok.onLine x hx
  entry e he := by
    obtain ⟨x, hx, rfl⟩ := List.mem_map.mp he
    rw [hstage x hx, (hsame x hx).lost]
    exact ⟨hdue x hx, (ok.entry x hx).2⟩
  lost := ok.lost
  timer := by
    rw [any_map_same fun e he => by unfold NoticeEntry.isSent; rw [hstage e he]]
    exact ok.timer
  merged := by
    rw [filter_map_same fun e he => by rw [hstage e he, Notice.coalescable_of_code (hsame e he).code], List.map_map,
      List.map_congr_left fun e he => ?_]
    · exact ok.merged
    · have hsame := hsame e (List.mem_of_mem_filter he)
      exact Prod.ext hsame.code hsame.object

/-- R168: an entry joins the tail. -/
theorem QueueOk.append {q : NoticeQueue} {line : Option (BitVec 16)} (ok : QueueOk q line) {n : Notice}
    (hroom : q.entries.length < 16)
    (hm : n.coalescable = true → ∀ e ∈ q.entries, e.stage = .new → ¬(e.notice.code = n.code ∧ e.notice.object = n.object)) :
    QueueOk { q with entries := q.entries ++ [⟨q.next, n, q.lost, .new, false⟩], next := q.next + 1, lost := 0 } line where
  length := by rw [List.length_append]; exact hroom
  sequences := by
    dsimp only
    rw [List.map_append, ok.sequences, List.length_append, List.length_singleton, List.range_succ, List.map_append]
    congr 1
    · refine List.map_congr_left fun k hk => ?_
      have hsplit : q.entries.length + 1 - k = q.entries.length - k + 1 := by
        have := List.mem_range.mp hk
        omega
      rw [hsplit, BitVec.ofNat_add]
      exact (add_sub_add_right_eq_sub q.next _ _).symm
    · simp
  ranks := by
    rw [List.map_append, List.pairwise_append]
    refine ⟨ok.ranks, List.pairwise_singleton _ _, fun x hx y hy => ?_⟩
    rw [List.map_singleton, List.mem_singleton] at hy
    obtain ⟨e, he, rfl⟩ := List.mem_map.mp hx
    subst hy
    show e.stage.rank ≤ 2
    cases e.stage <;> decide
  sending := by
    rw [List.filter_append, List.length_append]
    exact ok.sending
  onLine e he hstage := by
    rcases List.mem_append.mp he with he | he
    · exact ok.onLine e he hstage
    · obtain rfl := List.mem_singleton.mp he
      cases hstage
  entry e he := by
    rcases List.mem_append.mp he with he | he
    · exact ok.entry e he
    · obtain rfl := List.mem_singleton.mp he
      exact ⟨nofun, ok.lost⟩
  lost := Nat.zero_le _
  timer := by
    rw [List.any_append]
    exact ok.timer.trans (Bool.or_false _).symm
  merged := by
    rw [List.filter_append, List.map_append]
    cases hn : n.coalescable with
    | false => simpa [List.filter_singleton, hn] using ok.merged
    | true =>
      have hone : ([⟨q.next, n, q.lost, .new, false⟩] : List NoticeEntry).filter
          (fun e => decide (e.stage = .new) && e.notice.coalescable) = [⟨q.next, n, q.lost, .new, false⟩] := by
        simp [hn]
      rw [hone, List.map_singleton, ← List.concat_eq_append]
      refine ok.merged.concat fun hmem => ?_
      obtain ⟨e, he, heq⟩ := List.mem_map.mp hmem
      rw [List.mem_filter, Bool.and_eq_true, decide_eq_true_eq] at he
      obtain ⟨hcode, hobject⟩ := Prod.mk.inj heq
      exact hm hn e he.1 he.2.1 ⟨hcode, hobject⟩

theorem QueueOk.raise {q : NoticeQueue} {line : Option (BitVec 16)} (ok : QueueOk q line) (n : Notice) :
    QueueOk (q.raise n) line := by
  unfold NoticeQueue.raise
  split
  · refine ok.map (fun e he => ?_) (fun e he => ?_) fun e he => ?_
    · split
      · rename_i hm
        obtain ⟨-, hcode, hobject⟩ := NoticeEntry.mergesWith_iff.mp hm
        exact ⟨rfl, rfl, hcode.symm, hobject.symm⟩
      · exact ⟨rfl, rfl, rfl, rfl⟩
    · split <;> rfl
    · have hdue := (ok.entry e he).1
      split <;> exact hdue
  · rename_i hnot
    unfold NoticeQueue.append
    split
    · rename_i hroom
      refine ok.append hroom fun hn e he hnew hsame => hnot ?_
      rw [hn, Bool.true_and, List.any_eq_true]
      exact ⟨e, he, NoticeEntry.mergesWith_iff.mpr ⟨hnew, hsame⟩⟩
    · have hlost := ok.lost
      exact ⟨ok.length, ok.sequences, ok.ranks, ok.sending, ok.onLine, ok.entry,
        by dsimp only; split <;> omega, ok.timer, ok.merged⟩

theorem QueueOk.raiseAll {line : Option (BitVec 16)} (l : List Notice) {q : NoticeQueue} (ok : QueueOk q line) :
    QueueOk (q.raiseAll l) line := by
  induction l generalizing q with
  | nil => exact ok
  | cons n l ih => exact ih (ok.raise n)

/-- Entries leave the front of the queue, and the resend timer is set by what is left. -/
theorem QueueOk.suffix {q : NoticeQueue} {line : Option (BitVec 16)} (ok : QueueOk q line) {out keep : List NoticeEntry}
    (h : q.entries = out ++ keep) :
    QueueOk { q with entries := keep, resendTimer := keep.any NoticeEntry.isSent } line := by
  obtain ⟨hlength, hsequences, hranks, hsending, honLine, hentry, hlost, -, hmerged⟩ := ok
  have hsub : keep.Sublist q.entries := h ▸ List.sublist_append_right out keep
  have hmem : ∀ e ∈ keep, e ∈ q.entries := fun e he => hsub.subset he
  refine ⟨hsub.length_le.trans hlength, ?_, hranks.sublist (hsub.map _), (hsub.filter _).length_le.trans hsending,
    fun e he => honLine e (hmem e he), fun e he => hentry e (hmem e he), hlost, rfl,
    hmerged.sublist ((hsub.filter _).map _)⟩
  dsimp only
  rw [h, List.map_append, List.length_append, List.range_add, List.map_append, List.map_map] at hsequences
  have hright := (List.append_inj hsequences (by simp)).2
  rw [hright]
  refine List.map_congr_left fun k hk => ?_
  have hsplit : out.length + keep.length - (out.length + k) = keep.length - k := by omega
  simp only [Function.comp, hsplit]

end Sys2Proof.Machine
end

section
/-! The notice queue and the link through every step (R157, R158, R160, R166 to R172). -/

namespace Sys2Proof.Machine

/-! ### The notice queue and the transmitter (R169 to R172) -/

theorem dropThrough_suffix (n : BitVec 16) (l : List NoticeEntry) : ∃ out, l = out ++ dropThrough n l := by
  induction l with
  | nil => exact ⟨[], rfl⟩
  | cons e l ih =>
    obtain ⟨out, hout⟩ := ih
    by_cases he : e.sequence = n
    · exact ⟨[e], by rw [dropThrough, if_pos he]; rfl⟩
    · refine ⟨e :: out, ?_⟩
      rw [dropThrough, if_neg he, List.cons_append, ← hout]

theorem QueueOk.retire {q : NoticeQueue} {line : Option (BitVec 16)} (ok : QueueOk q line) (n : BitVec 16) :
    QueueOk (q.retire n) line := by
  obtain ⟨out, hout⟩ := dropThrough_suffix n q.entries
  exact ok.suffix hout

/-- With no copy of a notice on the line no entry is FIRST_SEND. -/
theorem QueueOk.not_sending {q : NoticeQueue} (ok : QueueOk q none) {e : NoticeEntry} (he : e ∈ q.entries) :
    e.stage ≠ .firstSend := fun hstage => by cases ok.onLine e he hstage


/-- Among the entries before and behind a NEW one there is no FIRST_SEND entry when its copy is begun, and those
behind it are NEW. -/
theorem QueueOk.begin_new {q : NoticeQueue} (ok : QueueOk q none) {l₁ l₂ : List NoticeEntry} {e : NoticeEntry}
    (hq : q.entries = l₁ ++ e :: l₂) (hnew : e.stage = .new) (hfirst : ∀ x ∈ l₁, x.stage ≠ .new) :
    QueueOk { q with entries := l₁ ++ { e with stage := .firstSend } :: l₂ } (some e.sequence) := by
  have hmem : ∀ x ∈ l₁ ++ l₂, x ∈ q.entries := fun x hx => by
    rw [hq]
    rcases List.mem_append.mp hx with hx | hx
    · exact List.mem_append_left _ hx
    · exact List.mem_append_right _ (List.mem_cons_of_mem _ hx)
  have hnone : ∀ x ∈ l₁ ++ l₂, x.stage ≠ .firstSend := fun x hx => ok.not_sending (hmem x hx)
  have hsplit : ∀ x ∈ l₁ ++ { e with stage := .firstSend } :: l₂, x ∈ l₁ ++ l₂ ∨ x = { e with stage := .firstSend } :=
    fun x hx => by
      rcases List.mem_append.mp hx with hx | hx
      · exact .inl (List.mem_append_left _ hx)
      · rcases List.mem_cons.mp hx with hx | hx
        · exact .inr hx
        · exact .inl (List.mem_append_right _ hx)
  have he : e ∈ q.entries := by rw [hq]; simp
  have hdue : e.resendDue ≠ true := fun h => by
    have hsent := (ok.entry e he).1 h
    rw [hnew] at hsent
    cases hsent
  have hlength := ok.length
  have hranks := ok.ranks
  have hsequences := ok.sequences
  have htimer := ok.timer
  have hmerged := ok.merged
  rw [hq] at hlength hranks hsequences htimer hmerged
  refine ⟨?_, ?_, ?_, ?_, fun x hx hstage => ?_, fun x hx => ?_, ok.lost, ?_, ?_⟩
  · simpa using hlength
  · simpa using hsequences
  · rw [List.map_append, List.map_cons, List.pairwise_append, List.pairwise_cons] at hranks ⊢
    obtain ⟨hbefore, ⟨hbehind, hrest⟩, hcross⟩ := hranks
    refine ⟨hbefore, ⟨fun r hr => ?_, hrest⟩, fun r hr r' hr' => ?_⟩
    · have hr₂ := hbehind r hr
      rw [hnew] at hr₂
      exact Nat.le_trans (show 1 ≤ 2 by decide) hr₂
    · obtain ⟨x, hx, rfl⟩ := List.mem_map.mp hr
      have hsent : x.stage = .sent := by
        have h₁ := hfirst x hx
        have h₂ := hnone x (List.mem_append_left _ hx)
        cases hs : x.stage with
        | sent => rfl
        | new => exact absurd hs h₁
        | firstSend => exact absurd hs h₂
      rw [hsent]; exact Nat.zero_le _
  · have hempty : ∀ l : List NoticeEntry, (∀ x ∈ l, x ∈ l₁ ++ l₂) → l.filter (fun x => decide (x.stage = .firstSend)) = [] := fun l hl =>
      List.filter_eq_nil_iff.mpr fun x hx => by simpa using hnone x (hl x hx)
    rw [List.filter_append, hempty l₁ fun x hx => List.mem_append_left _ hx,
      List.filter_cons_of_pos (by simp), hempty l₂ fun x hx => List.mem_append_right _ hx]
    exact le_refl 1
  · rcases hsplit x hx with hx | rfl
    · exact absurd hstage (hnone x hx)
    · rfl
  · rcases hsplit x hx with hx | rfl
    · exact ok.entry x (hmem x hx)
    · exact ⟨fun h => absurd h hdue, (ok.entry e he).2⟩
  · rw [htimer]; simp [NoticeEntry.isSent, hnew]
  · refine hmerged.sublist (List.Sublist.map _ ?_)
    rw [List.filter_append, List.filter_append, List.filter_cons, if_neg (by simp)]
    exact (List.Sublist.refl _).append ((List.sublist_cons_self e l₂).filter _)

/-- With no entry FIRST_SEND, what is on the line does not matter. -/
theorem QueueOk.any_line {q : NoticeQueue} {line : Option (BitVec 16)} (ok : QueueOk q line)
    (hnone : ∀ e ∈ q.entries, e.stage ≠ .firstSend) (line' : Option (BitVec 16)) : QueueOk q line' :=
  { ok with onLine := fun e he hstage => absurd hstage (hnone e he) }

theorem QueueOk.nodup {q : NoticeQueue} {line : Option (BitVec 16)} (ok : QueueOk q line) :
    (q.entries.map NoticeEntry.sequence).Nodup := NoticeQueue.nodup_of_consecutive ok.length ok.sequences

/-- A copy of a SENT entry is begun again. -/
theorem QueueOk.begin_sent {q : NoticeQueue} (ok : QueueOk q none) {e : NoticeEntry} (he : e ∈ q.entries)
    (hsent : e.stage = .sent) : QueueOk (q.modEntry e.sequence NoticeEntry.begun) (some e.sequence) := by
  have honly : ∀ x ∈ q.entries, x.sequence = e.sequence → x.begun = { x with resendDue := false } := fun x hx hseq => by
    obtain rfl := List.inj_on_of_nodup_map ok.nodup hx he hseq
    rw [NoticeEntry.begun_of_sent hsent, hsent]
    rfl
  have hstage : ∀ x ∈ q.entries, (if x.sequence = e.sequence then x.begun else x).stage = x.stage := fun x hx => by
    split
    · rename_i hseq; rw [honly x hx hseq]
    · rfl
  refine QueueOk.any_line (line := none) (ok.map (fun x hx => ?_) hstage fun x hx => ?_) (fun x hx => ?_) _
  · split
    · rename_i hseq; rw [honly x hx hseq]; exact ⟨rfl, rfl, rfl, rfl⟩
    · exact ⟨rfl, rfl, rfl, rfl⟩
  · split
    · rename_i hseq; rw [honly x hx hseq]; nofun
    · exact (ok.entry x hx).1
  · obtain ⟨y, hy, rfl⟩ := List.mem_map.mp hx
    rw [hstage y hy]
    exact ok.not_sending hy

/-- The copy of the notice that the queue offers is begun. -/
theorem QueueOk.begin {q : NoticeQueue} (ok : QueueOk q none) {e : NoticeEntry} (h : q.offered = some e) :
    QueueOk (q.modEntry e.sequence NoticeEntry.begun) (some e.sequence) := by
  unfold NoticeQueue.offered at h
  split at h
  · rename_i x hx
    obtain rfl := Option.some.inj h
    have hsent := List.find?_some hx
    rw [Bool.and_eq_true] at hsent
    exact ok.begin_sent (List.mem_of_find?_eq_some hx) (of_decide_eq_true hsent.1)
  · obtain ⟨hnew, l₁, l₂, hq, hfirst⟩ := List.find?_eq_some_iff_append.mp h
    have hnew' : e.stage = .new := of_decide_eq_true hnew
    have hbegun : e.begun = { e with stage := .firstSend } := by
      unfold NoticeEntry.begun; rw [hnew']
    rw [NoticeQueue.modEntry_split hq (sequence_ne_of_nodup (hq ▸ ok.nodup)), hbegun]
    exact ok.begin_new hq hnew' fun x hx => by simpa using hfirst x hx

/-- An entry once its copy has ended. -/
def NoticeEntry.ended (n : BitVec 16) (e : NoticeEntry) : NoticeEntry :=
  if e.sequence = n then (if e.stage = .firstSend then { e with stage := .sent } else e) else e

theorem NoticeEntry.ended_same (n : BitVec 16) (e : NoticeEntry) : SameEntry e (e.ended n) := by
  unfold NoticeEntry.ended
  split
  · split <;> exact ⟨rfl, rfl, rfl, rfl⟩
  · exact ⟨rfl, rfl, rfl, rfl⟩

/-- When only the entry whose copy is on the line can be FIRST_SEND. -/
theorem NoticeEntry.ended_stage {n : BitVec 16} {e : NoticeEntry} (h : e.stage = .firstSend → e.sequence = n) :
    (e.ended n).stage = if e.stage = .firstSend then .sent else e.stage := by
  unfold NoticeEntry.ended
  by_cases hs : e.stage = .firstSend
  · rw [if_pos (h hs), if_pos hs, if_pos hs]
  · rw [if_neg hs, if_neg hs, ite_self]

theorem NoticeEntry.ended_due (n : BitVec 16) (e : NoticeEntry) : (e.ended n).resendDue = e.resendDue := by
  unfold NoticeEntry.ended
  split
  · split <;> rfl
  · rfl

/-- The copy of a notice ends. -/
theorem QueueOk.end {q : NoticeQueue} {n : BitVec 16} (ok : QueueOk q (some n)) : QueueOk (q.copySent n) none := by
  have hsending : ∀ e ∈ q.entries, e.stage = .firstSend → e.sequence = n := fun e he hs =>
    (Option.some.inj (ok.onLine e he hs)).symm
  have hstage : ∀ e ∈ q.entries, (e.ended n).stage = if e.stage = .firstSend then .sent else e.stage := fun e he =>
    NoticeEntry.ended_stage (hsending e he)
  have hnew : ∀ e ∈ q.entries, ((e.ended n).stage = .new ↔ e.stage = .new) := fun e he => by
    rw [hstage e he]; cases e.stage <;> decide
  unfold NoticeQueue.copySent
  split
  · rename_i hheld
    show QueueOk { q with entries := q.entries.map (NoticeEntry.ended n), resendTimer := true } none
    refine ⟨?_, ?_, ?_, ?_, fun x hx => ?_, fun x hx => ?_, ok.lost, ?_, ?_⟩
    · rw [List.length_map]; exact ok.length
    · rw [List.map_map, List.length_map, ← ok.sequences]
      exact List.map_congr_left fun e _ => (e.ended_same n).sequence
    · have hrank : ∀ e ∈ q.entries, (e.ended n).stage.rank = if e.stage.rank = 1 then 0 else e.stage.rank :=
        fun e he => by rw [hstage e he]; cases e.stage <;> rfl
      rw [List.map_map, List.map_congr_left (g := (fun r => if r = 1 then 0 else r) ∘ fun e => e.stage.rank) hrank,
        ← List.map_map]
      refine ok.ranks.map _ fun a b hab => ?_
      split <;> split <;> omega
    · have hempty : (q.entries.map (NoticeEntry.ended n)).filter (fun e => decide (e.stage = .firstSend)) = [] := by
        refine List.filter_eq_nil_iff.mpr fun x hx => ?_
        obtain ⟨e, he, rfl⟩ := List.mem_map.mp hx
        rw [hstage e he]; cases e.stage <;> decide
      rw [hempty]; exact Nat.zero_le _
    · obtain ⟨e, he, rfl⟩ := List.mem_map.mp hx
      rw [hstage e he]
      intro hs
      cases hes : e.stage <;> rw [hes] at hs <;> cases hs
    · obtain ⟨e, he, rfl⟩ := List.mem_map.mp hx
      rw [NoticeEntry.ended_due, (e.ended_same n).lost, hstage e he]
      obtain ⟨hdue, hlost⟩ := ok.entry e he
      exact ⟨fun h => by rw [hdue h]; rfl, hlost⟩
    · obtain ⟨e, he, hwhich⟩ := List.any_eq_true.mp hheld
      rw [Bool.and_eq_true, decide_eq_true_eq, decide_eq_true_eq] at hwhich
      refine (List.any_eq_true.mpr ⟨e.ended n, List.mem_map_of_mem he, decide_eq_true ?_⟩).symm
      rw [hstage e he]
      cases hes : e.stage
      · exact absurd hes hwhich.2
      · rfl
      · rfl
    · rw [filter_map_same fun e he => by
          rw [decide_eq_decide.mpr (hnew e he), Notice.coalescable_of_code (e.ended_same n).code], List.map_map,
        List.map_congr_left (g := fun e => (e.notice.code, e.notice.object)) fun e _ =>
          Prod.ext (e.ended_same n).code (e.ended_same n).object]
      exact ok.merged
  · rename_i hnot
    refine ok.any_line (fun e he hs => hnot (List.any_eq_true.mpr ⟨e, he, ?_⟩)) none
    rw [hsending e he hs, hs]
    simp

/-- The resend timer expires: SENT entries become due. -/
theorem QueueOk.expire {q : NoticeQueue} {line : Option (BitVec 16)} (ok : QueueOk q line)
    (away : NoticeEntry → Prop) [∀ e, Decidable (e.isSent ∧ away e)] :
    QueueOk { q with entries := q.entries.map fun e =>
      if e.isSent ∧ away e then { e with resendDue := true } else e } line := by
  refine ok.map (fun e he => ?_) (fun e he => ?_) fun e he => ?_
  · split <;> exact ⟨rfl, rfl, rfl, rfl⟩
  · split <;> rfl
  · split
    · rename_i hsent; exact fun _ => of_decide_eq_true hsent.1
    · exact (ok.entry e he).1

/-! ### The link (R157, R158, R160) -/

/-- What `LinkOk` says of the link. -/
structure LinkFits (l : Link) : Prop where
  outstanding : l.outstanding.length ≤ 4
  tags : l.outstanding.Nodup
  pending : l.pendingAnswers ≤ 4
  memory : l.memory.length ≤ 8
  memoryTags : (l.memory.map MemoryEntry.tag).Nodup

theorem linkOk_iff {s : State} : LinkOk s ↔ LinkFits s.link :=
  ⟨fun ⟨h₁, h₂, h₃, h₄, h₅⟩ => ⟨h₁, h₂, h₃, h₄, h₅⟩, fun ⟨h₁, h₂, h₃, h₄, h₅⟩ => ⟨h₁, h₂, h₃, h₄, h₅⟩⟩

/-- Two links with the same requests, replies, reply memory and notice on the line. -/
structure Link.Alike (l m : Link) : Prop where
  outstanding : m.outstanding = l.outstanding
  pending : m.pendingAnswers = l.pendingAnswers
  memory : m.memory = l.memory
  line : m.noticeOnLine = l.noticeOnLine

theorem Link.Alike.fits {l m : Link} (h : l.Alike m) (ok : LinkFits l) : LinkFits m :=
  ⟨h.outstanding ▸ ok.outstanding, h.outstanding ▸ ok.tags, h.pending ▸ ok.pending, h.memory ▸ ok.memory,
    h.memory ▸ ok.memoryTags⟩

/-- The invariants of the notice queue and of the link. -/
def QueuesOk (s : State) : Prop := QueueOk s.notices s.link.noticeOnLine ∧ LinkFits s.link

theorem queuesOk_iff {s : State} : NoticesOk s ∧ LinkOk s ↔ QueuesOk s := and_congr noticesOk_iff linkOk_iff

theorem queuesOk_of_raises {s t : State} (hraises : Raises s t) (halike : s.link.Alike t.link) (ok : QueuesOk s) :
    QueuesOk t := by
  obtain ⟨l, hl⟩ := hraises
  refine ⟨?_, halike.fits ok.2⟩
  rw [hl, halike.line]
  exact ok.1.raiseAll l

/-- The link changes in nothing but its rate, receiver, counters and stop flag. -/
theorem queuesOk_of_link {s t : State} (hnotices : t.notices = s.notices) (halike : s.link.Alike t.link)
    (ok : QueuesOk s) : QueuesOk t := queuesOk_of_raises ⟨[], hnotices⟩ halike ok

theorem Link.unsentReplies_append (l : Link) (e : ReplyEntry) :
    ({ l with replyLine := l.replyLine ++ [e] } : Link).unsentReplies = l.unsentReplies ++ [e] := by
  unfold Link.unsentReplies
  rcases l.transmitter with _ | ⟨_ | _, _⟩ <;> rfl

/-! ### The processor (R161) -/

/-- A request leaves the queue and its reply joins the reply line: it stays outstanding. -/
theorem Link.alike_post {l m : Link} {r : Request} {rest : List Request} {e : ReplyEntry}
    (hl : l.requestQueue = r :: rest) (he : e.isPosted = true) (htag : e.tag = r.tag)
    (hqueue : m.requestQueue = rest) (hline : m.replyLine = l.replyLine ++ [e]) (hmemory : m.memory = l.memory)
    (htransmitter : m.transmitter = l.transmitter) : l.Alike m := by
  have hunsent : m.unsentReplies = l.unsentReplies ++ [e] := by
    rw [← Link.unsentReplies_append]
    unfold Link.unsentReplies
    rw [hline, htransmitter]
  refine ⟨?_, ?_, hmemory, ?_⟩
  · unfold Link.outstanding
    rw [hunsent, hqueue, hl, List.filter_append, List.filter_cons_of_pos he, List.map_append, List.append_assoc,
      List.map_cons, List.map_cons, htag]
    rfl
  · unfold Link.pendingAnswers
    rw [hunsent, List.filter_append, List.filter_cons_of_neg (by simp [he])]
    simp
  · unfold Link.noticeOnLine; rw [htransmitter]

/-- What a body can do that the processor runs: stop the processor, or a change that `BodyEffect` lists. -/
theorem State.takeRequest_queuesOk {s : State} {mine : Request → Bool} {body : Body}
    (hb : ∀ bs u, BodyEffect u (body bs u).2 ∨ (body bs u).2 = u.modLink fun l => { l with stopped := true })
    (ok : QueuesOk s) : QueuesOk (s.takeRequest mine body) := by
  rcases s.takeRequest_cases mine body with h | ⟨r, rest, hqueue, -, -, h⟩
  · rw [h]; exact ok
  rw [h]
  have hbody : Raises (s.withRequests rest) ((s.withRequests rest).execute r body).2 ∧
      ∃ c b, ((s.withRequests rest).execute r body).2.link =
        { (s.withRequests rest).link with counters := c, stopped := b } := by
    rcases State.execute_cases (s.withRequests rest) r body with ⟨st, e⟩ | e
    · rw [e]; exact ⟨.refl _, _, _, rfl⟩
    · rw [e]
      rcases hb r.payload (s.withRequests rest) with (⟨f, hlink⟩ | hchange) | hstop
      · rw [hlink]; exact ⟨.of_only (State.countLink_only _ f) (by decide), _, _, rfl⟩
      · exact ⟨hchange.raises, _, _, hchange.only .link (by decide)⟩
      · rw [hstop]; exact ⟨.of_only (State.modLink_only _ _) (by decide), _, _, rfl⟩
  obtain ⟨hraises, c, b, hlink⟩ := hbody
  generalize ((s.withRequests rest).execute r body).2 = v at hraises hlink ⊢
  generalize ((s.withRequests rest).execute r body).1 = rep
  have hstart : Raises s (s.withRequests rest) := .of_only (s.withRequests_only rest) (by decide)
  refine queuesOk_of_raises ((hstart.trans hraises).then_only (State.post_only v r rep) (by decide)) ?_ ok
  refine Link.alike_post (e := ⟨if v.link.stopped then .reset else .posted r.crc, r.tag, r.code, rep⟩) hqueue ?_ rfl
    ?_ ?_ ?_ ?_
  · unfold ReplyEntry.isPosted
    cases v.link.stopped <;> rfl
  · show v.link.requestQueue = rest
    rw [hlink]; rfl
  · show v.link.replyLine ++ _ = _
    rw [hlink]; rfl
  · show v.link.memory = _
    rw [hlink]; rfl
  · show v.link.transmitter = _
    rw [hlink]; rfl

/-- Every request's body. -/
theorem bodyOf_effect {c : Instr} {code : Byte} (hc : requestCode c = some code) (bs : List Byte) (s : State) :
    BodyEffect s (bodyOf c bs s).2 ∨ (bodyOf c bs s).2 = s.modLink fun l => { l with stopped := true } := by
  cases c with
  | reset => exact .inr rfl
  | info => exact .inl (.refl s)
  | statsRead => exact .inl (by rw [show (bodyOf .statsRead bs s).2 = s from statsReadBody_keeps bs s]; exact .refl s)
  | statsClear => exact .inl (statsClearBody_effect bs s)
  | echo => exact .inl (.refl s)
  | captureOn => exact .inl (captureBody_effect bs s)
  | captureOff => exact .inl (captureBody_effect bs s)
  | portDepth => exact .inl (portDepthBody_effect bs s)
  | portFlush => exact .inl (portFlushBody_effect bs s)
  | portReset => exact .inl (portResetBody_effect bs s)
  | portStatus => exact .inl (portStatusBody_effect bs s)
  | pinTake => exact .inl (pinTakeBody_effect bs s)
  | pinRelease => exact .inl (pinReleaseBody_effect bs s)
  | storeStatus => exact .inl (storeStatusBody_effect bs s)
  | headTiming => exact .inl (headTimingBody_effect bs s)
  | headOn => exact .inl (headOnBody_effect bs s)
  | headOff => exact .inl (headOffBody_effect bs s)
  | headMute => exact .inl (headMuteBody_effect bs s)
  | headBackground => exact .inl (headBackgroundBody_effect bs s)
  | headFollow => exact .inl (headFollowBody_effect bs s)
  | headStatus => exact .inl (headStatusBody_effect bs s)
  | scenePut => exact .inl (scenePutBody_effect bs s)
  | sceneRemove => exact .inl (sceneRemoveBody_effect bs s)
  | sceneRestart => exact .inl (sceneRestartBody_effect bs s)
  | sceneRead => exact .inl (sceneReadBody_effect bs s)
  | scenePresent => exact .inl (scenePresentBody_effect bs s)
  | libOpen => exact .inl (libOpenBody_effect bs s)
  | libData => exact .inl (libDataBody_effect bs s)
  | libClose => exact .inl (libCloseBody_effect bs s)
  | libDelete => exact .inl (libDeleteBody_effect bs s)
  | libList => exact .inl (libListBody_effect bs s)
  | libSpace => exact .inl (libSpaceBody_effect bs s)
  | cursorShape => exact .inl (cursorShapeBody_effect bs s)
  | cursorMove => exact .inl (cursorMoveBody_effect bs s)
  | cursorShow => exact .inl (cursorShowBody_effect bs s)
  | cursorPalette => exact .inl (cursorPaletteBody_effect bs s)
  | ancConfig => exact .inl (ancConfigBody_effect bs s)
  | ancPush => exact .inl (ancPushBody_effect bs s)
  | ancFlush => exact .inl (ancFlushBody_effect bs s)
  | ancStatus => exact .inl (ancStatusBody_effect bs s)
  | _ => cases hc

/-! ### The receiver (R154 to R158, R172) -/

/-- A frame, an answer or a byte at the receiver leaves the link with the same requests and replies. -/
theorem queuesOk_setReceiver {s : State} (r : Receiver) (ok : QueuesOk s) : QueuesOk (s.setReceiver r) :=
  queuesOk_of_link (s := s) rfl ⟨rfl, rfl, rfl, rfl⟩ ok

theorem queuesOk_countLink {s : State} (f : LinkCounters → LinkCounters) (ok : QueuesOk s) : QueuesOk (s.countLink f) :=
  queuesOk_of_link (s := s) rfl ⟨rfl, rfl, rfl, rfl⟩ ok

theorem answerNow_queuesOk {s : State} {e : ReplyEntry} (he : e.isPosted = false) (f : LinkCounters → LinkCounters)
    (ok : QueuesOk s) : QueuesOk (s.answerNow e f) := by
  unfold State.answerNow
  split
  · rename_i hroom
    refine queuesOk_countLink f ⟨ok.1, ?_⟩
    have hfits := ok.2
    have hunsent := s.link.unsentReplies_append e
    have hsame : ({ s.link with replyLine := s.link.replyLine ++ [e] } : Link).outstanding = s.link.outstanding := by
      unfold Link.outstanding
      rw [hunsent, List.filter_append, List.filter_cons_of_neg (by simp [he])]
      simp
    refine ⟨hsame ▸ hfits.outstanding, hsame ▸ hfits.tags, ?_, hfits.memory, hfits.memoryTags⟩
    show ({ s.link with replyLine := s.link.replyLine ++ [e] } : Link).pendingAnswers ≤ 4
    unfold Link.pendingAnswers at hroom ⊢
    rw [hunsent, List.filter_append, List.length_append, List.filter_cons_of_pos (by simp [he])]
    exact hroom
  · exact queuesOk_countLink _ ok

theorem admission_queuesOk {s : State} (f : Frame) (ok : QueuesOk s) : QueuesOk (s.admission f) := by
  unfold State.admission
  split
  · exact answerNow_queuesOk rfl _ ok
  split
  · exact answerNow_queuesOk rfl _ ok
  split
  · exact answerNow_queuesOk rfl _ ok
  rename_i hfresh
  split
  · exact answerNow_queuesOk rfl _ ok
  split
  · exact answerNow_queuesOk rfl _ ok
  rename_i hroom
  have hfits := ok.2
  have hjoins : ∀ x : Request, ({ s.link with requestQueue := s.link.requestQueue ++ [x] } : Link).outstanding =
      s.link.outstanding ++ [x.tag] := fun x => by
    unfold Link.outstanding
    rw [List.map_append, ← List.append_assoc]
    rfl
  refine ⟨ok.1, ?_, ?_, hfits.pending, hfits.memory, hfits.memoryTags⟩
  · show ({ s.link with requestQueue := s.link.requestQueue ++ [_] } : Link).outstanding.length ≤ 4
    rw [hjoins, List.length_append]
    exact Nat.lt_of_not_le hroom
  · show ({ s.link with requestQueue := s.link.requestQueue ++ [_] } : Link).outstanding.Nodup
    rw [hjoins, ← List.concat_eq_append]
    exact hfits.tags.concat hfresh

theorem acknowledge_queuesOk {s : State} (f : Frame) (ok : QueuesOk s) : QueuesOk (s.acknowledge f) := by
  unfold State.acknowledge
  split
  · split
    · exact ⟨ok.1.retire _, ok.2⟩
    · exact queuesOk_countLink _ ok
  · exact queuesOk_countLink _ ok

theorem takeFrame_queuesOk {s : State} (f : Frame) (ok : QueuesOk s) : QueuesOk (s.takeFrame f) := by
  unfold State.takeFrame
  split
  · exact admission_queuesOk f (queuesOk_countLink _ ok)
  · split
    · exact acknowledge_queuesOk f (queuesOk_countLink _ ok)
    · exact queuesOk_countLink _ ok

theorem examineAgain_queuesOk (bs : List Byte) : ∀ (k : Nat) {s : State}, QueuesOk s →
    QueuesOk (State.examineAgain k bs s) := by
  induction bs with
  | nil => intro k s ok; cases k <;> exact ok
  | cons b bs ih =>
    intro k s ok
    cases k with
    | succ k => exact ih k ok
    | zero =>
      by_cases hb : b = 0xA5
      · subst hb
        rcases parseFrame_cases bs with h | h | h | ⟨f, h⟩
        · rw [State.examineAgain_of_incomplete h]; exact queuesOk_setReceiver _ ok
        · rw [State.examineAgain_of_lengthError h]; exact ih 0 (queuesOk_countLink _ ok)
        · rw [State.examineAgain_of_crcError h]; exact ih 0 (queuesOk_countLink _ ok)
        · rw [State.examineAgain_of_good h, ← State.examineAgain_skip]; exact ih _ (takeFrame_queuesOk f ok)
      · rw [State.examineAgain_of_other hb]; exact ih 0 ok

theorem onByte_queuesOk {s : State} {b : Byte} {f : ByteEvent → State} (hf : ∀ e, QueuesOk (f e)) (ok : QueuesOk s) :
    QueuesOk (s.onByte b f) := by
  unfold State.onByte
  split
  · exact ok
  · exact hf _

theorem onGoodFrame_queuesOk {s : State} (b : Byte) (mine : Byte → Bool) (ok : QueuesOk s) :
    QueuesOk (s.onGoodFrame b mine) :=
  onByte_queuesOk (fun e => by
    split
    · split
      · exact takeFrame_queuesOk _ (queuesOk_setReceiver _ ok)
      · exact ok
    all_goals exact ok) ok

/-! ### The transmitter (R160, R162, R169 to R171) -/

theorem Link.noticeOnLine_of_idle {l : Link} (h : l.transmitter = none) : l.noticeOnLine = none := by
  unfold Link.noticeOnLine; rw [h]

theorem transmitNext_queuesOk {s : State} (ok : QueuesOk s) : QueuesOk s.transmitNext := by
  by_cases hbusy : s.link.transmitter = none
  · have hidle := Link.noticeOnLine_of_idle hbusy
    have hqueue := ok.1
    rw [hidle] at hqueue
    cases hline : s.link.replyLine with
    | cons e l =>
      rw [State.transmitNext_of_reply hbusy hline]
      have hunsent : ({ s.link with replyLine := l, transmitter := some ⟨.reply e, e.frame⟩ } : Link).unsentReplies =
          s.link.unsentReplies := by
        unfold Link.unsentReplies; rw [hbusy, hline]
      refine queuesOk_of_link (s := s) rfl ⟨?_, ?_, rfl, hidle.symm⟩ ok
      · exact congrArg (fun u : List ReplyEntry => (u.filter ReplyEntry.isPosted).map ReplyEntry.tag ++
          s.link.requestQueue.map Request.tag) hunsent
      · exact congrArg (fun u : List ReplyEntry => (u.filter fun e => !e.isPosted).length) hunsent
    | nil =>
      cases hoffer : s.notices.offered with
      | none => rw [State.transmitNext_of_nothing hbusy hline hoffer]; exact ok
      | some e =>
        rw [State.transmitNext_of_notice hbusy hline hoffer]
        have hunsent : ({ s.link with transmitter := some ⟨.notice e.sequence, e.frame⟩ } : Link).unsentReplies =
            s.link.unsentReplies := by
          unfold Link.unsentReplies; rw [hbusy]
        refine ⟨hqueue.begin hoffer, ?_, ?_, ?_, ok.2.memory, ok.2.memoryTags⟩
        · have h := ok.2.outstanding
          unfold Link.outstanding at h ⊢
          rw [← hunsent] at h
          exact h
        · have h := ok.2.tags
          unfold Link.outstanding at h ⊢
          rw [← hunsent] at h
          exact h
        · have h := ok.2.pending
          unfold Link.pendingAnswers at h ⊢
          rw [← hunsent] at h
          exact h
  · rw [State.transmitNext_of_busy hbusy]; exact ok

/-- R160: the reply memory after a reply has been stored. -/
theorem Link.store_fits {l : Link} (m : MemoryEntry) (hlen : l.memory.length ≤ 8)
    (htags : (l.memory.map MemoryEntry.tag).Nodup) :
    (l.store m).length ≤ 8 ∧ ((l.store m).map MemoryEntry.tag).Nodup := by
  have hjoin : ∀ kept : List MemoryEntry, kept.Sublist l.memory → (∀ x ∈ kept, x.tag ≠ m.tag) →
      ((kept ++ [m]).map MemoryEntry.tag).Nodup := fun kept hsub hne => by
    rw [List.map_append, List.map_singleton, ← List.concat_eq_append]
    refine (htags.sublist (hsub.map _)).concat fun hmem => ?_
    obtain ⟨x, hx, htag⟩ := List.mem_map.mp hmem
    exact hne x hx htag
  unfold Link.store
  split
  · rename_i hany
    obtain ⟨x, hx, htag⟩ := List.any_eq_true.mp hany
    refine ⟨?_, hjoin _ List.filter_sublist fun y hy => ?_⟩
    · have hless : (l.memory.filter fun e => !decide (e.tag = m.tag)).length < l.memory.length :=
        List.length_filter_lt_length_iff_exists.mpr ⟨x, hx, by simp [of_decide_eq_true htag]⟩
      rw [List.length_append, List.length_singleton]
      omega
    · simpa using (List.mem_filter.mp hy).2
  · rename_i hnone
    have hne : ∀ x ∈ l.memory, x.tag ≠ m.tag := fun x hx htag =>
      hnone (List.any_eq_true.mpr ⟨x, hx, decide_eq_true htag⟩)
    have hmax : Config.maxReplies = 8 := rfl
    split
    · refine ⟨?_, hjoin _ (List.drop_sublist _ _) fun x hx => hne x (List.mem_of_mem_drop hx)⟩
      rw [List.length_append, List.length_drop, List.length_singleton]
      omega
    · refine ⟨?_, hjoin _ (List.Sublist.refl _) hne⟩
      rw [List.length_append, List.length_singleton]
      omega

theorem deviceReset_queuesOk (s : State) (phase : Phase) (cause : ResetCause) (straps : Straps) :
    QueuesOk (s.deviceReset phase cause straps) :=
  queuesOk_iff.mp ⟨noticesOk_reset, linkOk_reset⟩

/-- A reply has been sent in full. -/
theorem replySent_fits {l : Link} {e : ReplyEntry} {bytes : List Byte} (h : l.transmitter = some ⟨.reply e, bytes⟩)
    (ok : LinkFits l) : LinkFits { l with transmitter := none } := by
  have hunsent : l.unsentReplies = e :: ({ l with transmitter := none } : Link).unsentReplies := by
    unfold Link.unsentReplies; rw [h]
  have hsub : ({ l with transmitter := none } : Link).unsentReplies.Sublist l.unsentReplies :=
    hunsent ▸ List.sublist_cons_self _ _
  have hout : ({ l with transmitter := none } : Link).outstanding.Sublist l.outstanding :=
    List.Sublist.append ((hsub.filter _).map _) (List.Sublist.refl _)
  exact ⟨hout.length_le.trans ok.outstanding, ok.tags.sublist hout, (hsub.filter _).length_le.trans ok.pending,
    ok.memory, ok.memoryTags⟩

theorem transmitComplete_queuesOk {s t : State} {straps : Straps} (h : exec (.transmitComplete straps) s = .next t)
    (ok : QueuesOk s) : QueuesOk t := by
  cases ht : s.link.transmitter with
  | none =>
    rw [exec_transmitComplete_of_idle straps ht] at h
    obtain rfl := Host.Outcome.next.inj h
    exact ok
  | some sending =>
    obtain ⟨e | n, bytes⟩ := sending
    · have hline : s.link.noticeOnLine = none := by unfold Link.noticeOnLine; rw [ht]
      have hqueue := ok.1
      rw [hline] at hqueue
      have hfits := replySent_fits ht ok.2
      cases ho : e.origin with
      | posted crc =>
        rw [exec_transmitComplete_posted straps ht ho] at h
        obtain rfl := Host.Outcome.next.inj h
        obtain ⟨hlen, htags⟩ := Link.store_fits ⟨e.tag, e.code, crc, e.reply⟩ ok.2.memory ok.2.memoryTags
        exact ⟨hqueue, hfits.outstanding, hfits.tags, hfits.pending, hlen, htags⟩
      | immediate =>
        rw [exec_transmitComplete_answer straps ht (.inl ho)] at h
        obtain rfl := Host.Outcome.next.inj h
        exact ⟨hqueue, hfits⟩
      | replayed =>
        rw [exec_transmitComplete_answer straps ht (.inr ho)] at h
        obtain rfl := Host.Outcome.next.inj h
        exact ⟨hqueue, hfits⟩
      | reset =>
        have hreset : exec (.transmitComplete straps) s = .next (s.deviceReset .starting .request straps) := by
          show execTransmitComplete straps s = _
          unfold execTransmitComplete; rw [ht]; dsimp only; rw [ho]
        rw [hreset] at h
        obtain rfl := Host.Outcome.next.inj h
        exact deviceReset_queuesOk ..
    · have hline : s.link.noticeOnLine = some n := by unfold Link.noticeOnLine; rw [ht]
      have hqueue := ok.1
      rw [hline] at hqueue
      rw [exec_transmitComplete_notice straps ht] at h
      obtain rfl := Host.Outcome.next.inj h
      have hunsent : ({ s.link with transmitter := none } : Link).unsentReplies = s.link.unsentReplies := by
        unfold Link.unsentReplies; rw [ht]
      have halike : LinkFits { s.link with transmitter := none } := by
        obtain ⟨h₁, h₂, h₃, h₄, h₅⟩ := ok.2
        unfold Link.outstanding at h₁ h₂
        unfold Link.pendingAnswers at h₃
        rw [← hunsent] at h₁ h₂ h₃
        exact ⟨h₁, h₂, h₃, h₄, h₅⟩
      exact ⟨hqueue.end, halike⟩

/-! ### Every step -/

theorem whenReady_queuesOk {s : State} {f : State → State} (hf : Raises s (f s) ∧ (f s).link = s.link)
    (ok : QueuesOk s) : QueuesOk (whenReady s f) := by
  unfold whenReady
  split
  · exact queuesOk_of_raises hf.1 (by rw [hf.2]; exact ⟨rfl, rfl, rfl, rfl⟩) ok
  · exact ok

theorem BlockChange.raisesAlone {s t : State} (h : BlockChange s t) : Raises s t ∧ t.link = s.link :=
  ⟨h.raises, h.only .link (by decide)⟩

theorem exec_queuesOk {c : Instr} {s t : State} (h : exec c s = .next t) (ok : QueuesOk s) : QueuesOk t := by
  cases hc : requestCode c with
  | some code =>
    obtain ⟨mine, hexec, -⟩ := exec_request hc
    rw [hexec s] at h
    obtain rfl := Host.Outcome.next.inj h
    exact State.takeRequest_queuesOk (bodyOf_effect hc) ok
  | none =>
    cases c with
    | transmitComplete straps => exact transmitComplete_queuesOk h ok
    | resetPin straps => obtain rfl := Host.Outcome.next.inj h; exact deviceReset_queuesOk ..
    | resetPinRelease straps =>
      obtain rfl := Host.Outcome.next.inj h
      split
      · exact deviceReset_queuesOk ..
      · exact ok
    | startUpEnd failing =>
      obtain rfl := Host.Outcome.next.inj h
      split
      · exact queuesOk_of_raises (.raise s (.ready (resultOfTest failing) s.device.cause)) ⟨rfl, rfl, rfl, rfl⟩ ok
      · exact ok
    | start p l w n time =>
      obtain rfl := Host.Outcome.next.inj h
      exact whenReady_queuesOk (BlockChange.start p l w n time).raisesAlone ok
    | fillEnd p px =>
      obtain rfl := Host.Outcome.next.inj h
      exact whenReady_queuesOk (BlockChange.fillEnd p px).raisesAlone ok
    | lossTimerExpiry p =>
      obtain rfl := Host.Outcome.next.inj h
      refine whenReady_queuesOk (f := fun s => if (s.port p).lossTimerRunning then s.loseSignal p else s) ?_ ok
      split
      · rename_i hruns; exact (BlockChange.loseSignal p hruns).raisesAlone
      · exact ⟨.refl s, rfl⟩
    | frameBoundary g time =>
      obtain rfl := Host.Outcome.next.inj h
      exact whenReady_queuesOk (BlockChange.boundary g time).raisesAlone ok
    | fetchShortfall g l m =>
      obtain rfl := Host.Outcome.next.inj h
      exact whenReady_queuesOk (BlockChange.shortfall g l m).raisesAlone ok
    | followLoss g =>
      obtain rfl := Host.Outcome.next.inj h
      exact whenReady_queuesOk (BlockChange.followLoss g).raisesAlone ok
    | verifyResult =>
      obtain rfl := Host.Outcome.next.inj h
      refine whenReady_queuesOk ?_ ok
      split
      · exact ⟨.refl s, rfl⟩
      · rename_i i rest hhead
        exact (BlockChange.verified i rest hhead).raisesAlone
    | inactivityTimerExpiry i =>
      obtain rfl := Host.Outcome.next.inj h
      exact whenReady_queuesOk (BlockChange.abandon i).raisesAlone ok
    | jobStart =>
      obtain rfl := Host.Outcome.next.inj h
      exact whenReady_queuesOk BlockChange.startJob.raisesAlone ok
    | shapeLoadCompletion =>
      obtain rfl := Host.Outcome.next.inj h
      exact whenReady_queuesOk BlockChange.finishJob.raisesAlone ok
    | unknownCommand =>
      obtain rfl := Host.Outcome.next.inj h
      exact State.takeRequest_queuesOk (fun _ u => .inl (.refl u)) ok
    | request b => obtain rfl := Host.Outcome.next.inj h; exact onGoodFrame_queuesOk b _ ok
    | noticeAck b => obtain rfl := Host.Outcome.next.inj h; exact onGoodFrame_queuesOk b _ ok
    | unknownKindFrame b => obtain rfl := Host.Outcome.next.inj h; exact onGoodFrame_queuesOk b _ ok
    | lengthError b =>
      obtain rfl := Host.Outcome.next.inj h
      refine onByte_queuesOk (fun e => ?_) ok
      split
      · exact examineAgain_queuesOk _ 0 (queuesOk_countLink _ (queuesOk_setReceiver _ ok))
      all_goals exact ok
    | crcError b =>
      obtain rfl := Host.Outcome.next.inj h
      refine onByte_queuesOk (fun e => ?_) ok
      split
      · exact examineAgain_queuesOk _ 0 (queuesOk_countLink _ (queuesOk_setReceiver _ ok))
      all_goals exact ok
    | receivedByte b =>
      obtain rfl := Host.Outcome.next.inj h
      refine onByte_queuesOk (fun e => ?_) ok
      split
      · exact queuesOk_setReceiver _ ok
      all_goals exact ok
    | gapError =>
      obtain rfl := Host.Outcome.next.inj h
      split
      · exact ok
      · split
        · exact queuesOk_countLink _ (queuesOk_setReceiver _ ok)
        · exact ok
    | transmitBegin =>
      obtain rfl := Host.Outcome.next.inj h
      split
      · exact ok
      · exact transmitNext_queuesOk ok
    | resendTimerExpiry =>
      obtain rfl := Host.Outcome.next.inj h
      split
      · exact ⟨ok.1.expire _, ok.2⟩
      · exact ok
    | _ => cases hc

/-- Settles O59: every command keeps the invariants of the notice queue and of the link. -/
theorem stepsKeepTheQueues : Obligations.StepsKeepTheQueues := by
  intro s t ok hstep
  rw [queuesOk_iff] at ok ⊢
  unfold step at hstep
  split at hstep
  · obtain rfl := Host.Outcome.next.inj hstep; exact ok
  · exact exec_queuesOk hstep ok

end Sys2Proof.Machine
end

section
/-! What the operations of the capture ports do to the store (chapters 1 and 2): the pool and the writers move
together, and a fill is always under the port's own frame number. -/

namespace Sys2Proof.Machine

/-! ### The writers -/

/-- Every port's writer is as it was. -/
def SameWriters (s t : State) : Prop := ∀ p, (t.port p).writer = (s.port p).writer

theorem SameWriters.refl (s : State) : SameWriters s s := fun _ => rfl

theorem SameWriters.trans {s t u : State} (h₁ : SameWriters s t) (h₂ : SameWriters t u) : SameWriters s u :=
  fun p => (h₂ p).trans (h₁ p)

theorem SameWriters.of_only {l : List Part} {s t : State} (h : OnlyChanges l s t) (hl : Part.ports ∉ l) :
    SameWriters s t := fun p => congrArg Port.writer (State.port_of_only h hl p)

theorem SameWriters.modPort (s : State) (p : PortId) (f : Port → Port)
    (hf : ∀ q, (f q).writer = q.writer := by exact fun _ => rfl) : SameWriters s (s.modPort p f) := by
  intro q
  by_cases hq : q = p
  · subst hq; rw [State.port_modPort_same]; exact hf _
  · rw [State.port_modPort_other _ _ hq]

theorem SameWriters.writers {s t : State} (h : SameWriters s t) : t.writers = s.writers :=
  funext fun p => congrArg Writer.slot (h p)

theorem State.writers_modPort (s : State) (p : PortId) (f : Port → Port) :
    (s.modPort p f).writers = writerOf s.writers p (f (s.port p)).writer.slot := by
  funext q
  by_cases hq : q = p
  · subst hq; rw [writerOf_same]; exact congrArg (fun r => r.writer.slot) (s.port_modPort_same q f)
  · rw [writerOf_other _ _ hq]; exact congrArg (fun r => r.writer.slot) (s.port_modPort_other f hq)

theorem writerOf_self {w : PortId → Option SlotId} {p : PortId} {x : Option SlotId} (h : w p = x) :
    writerOf w p x = w := by
  rw [← h]; exact Function.update_eq_self p w

theorem State.countDrop_sameWriters (s : State) (p : PortId) (i : SlotId) : SameWriters s (s.countDrop p i) := by
  unfold State.countDrop
  split
  · split
    · exact .refl s
    · exact .modPort s p _
  · exact .refl s

theorem State.evictOldest_sameWriters (s : State) (p : PortId) : SameWriters s (s.evictOldest p) := by
  unfold State.evictOldest
  split
  · exact .refl s
  · exact ((s.countDrop_sameWriters p _).trans (.of_only (State.setReady_only _ _ _) (by decide))).trans
      (.of_only (State.retireSlot_only _ _) (by decide))

theorem State.evict_sameWriters (n : Nat) (p : PortId) : ∀ s, SameWriters s (State.evict n p s) := by
  induction n with
  | zero => exact fun s => .refl s
  | succ n ih => exact fun s => (s.evictOldest_sameWriters p).trans (ih _)

theorem State.grant_sameWriters (s : State) (p : PortId) (g : Geometry) (n : FrameNumber) (i : SlotId) :
    SameWriters s (s.grant p g n i) := by
  have hslot : SameWriters s (s.setSlot i (.filling p g)) := .of_only (s.setSlot_only _ _) (by decide)
  unfold State.grant
  dsimp only
  split
  · exact (hslot.trans (.modPort _ p _)).trans (.of_only (State.raise_only _ _) (by decide))
  · exact hslot

theorem State.skip_sameWriters (s : State) (p : PortId) (n : FrameNumber) : SameWriters s (s.skip p n) := by
  have hcount : SameWriters s (s.countPort p fun c => { c with skipped := c.skipped + 1 }) :=
    .modPort s p _
  unfold State.skip
  dsimp only
  split
  · exact hcount
  · exact (hcount.trans (.modPort _ p _)).trans (.of_only (State.raise_only _ _) (by decide))

theorem State.claim_sameWriters (s : State) (p : PortId) (g : Geometry) (n : FrameNumber) :
    SameWriters s (s.claim p g n).2 := by
  unfold State.claim
  split
  · exact (SameWriters.of_only (s.setFreeList_only _) (by decide)).trans (State.grant_sameWriters _ _ _ _ _)
  · split
    · exact (((s.countDrop_sameWriters p _).trans (.modPort _ p _)).trans
        (.of_only (State.setReady_only _ _ _) (by decide))).trans (State.grant_sameWriters _ _ _ _ _)
    · exact s.skip_sameWriters p n

/-! ### Moves of the store that change no holder -/

/-- One operation on the store that no pin and no window takes part in: from writers `w` to writers `w'`. -/
structure Moves (s t : State) (w w' : PortId → Option SlotId) : Prop where
  shift : ∀ c, Shift s t w w' c c
  pins : t.pool.pins = s.pool.pins

theorem Moves.of_pool {s t : State} {w : PortId → Option SlotId} (e : t.pool = s.pool) : Moves s t w w :=
  ⟨fun _ => .of_pool e, congrArg Pool.pins e⟩

theorem Moves.trans {s t u : State} {w w' w'' : PortId → Option SlotId} (h₁ : Moves s t w w') (h₂ : Moves t u w' w'') :
    Moves s u w w'' :=
  ⟨fun c => (h₁.shift c).trans (h₂.shift c) fun _ => le_refl _, h₂.pins.trans h₁.pins⟩

theorem Moves.then_pool {s t u : State} {w w' : PortId → Option SlotId} (h : Moves s t w w') (e : u.pool = t.pool) :
    Moves s u w w' := h.trans (.of_pool e)

theorem State.pins_flush (s : State) (p : PortId) : (s.flush p).pool.pins = s.pool.pins := by
  have hfold : ∀ (l : List SlotId) (u : State), (l.foldl State.retireSlot u).pool.pins = u.pool.pins := fun l => by
    induction l with
    | nil => exact fun _ => rfl
    | cons i l ih => exact fun u => (ih _).trans (u.pins_retireSlot i)
  exact hfold _ _

theorem State.pins_evict (n : Nat) (p : PortId) : ∀ s, (State.evict n p s).pool.pins = s.pool.pins := by
  induction n with
  | zero => exact fun _ => rfl
  | succ n ih =>
    intro s
    refine (ih _).trans ?_
    unfold State.evictOldest
    split
    · rfl
    · rw [State.pins_retireSlot, State.setReady_pool_pins, State.pool_countDrop]

theorem Moves.flush (s : State) (p : PortId) (w : PortId → Option SlotId) : Moves s (s.flush p) w w :=
  ⟨fun c => .flush s p w c, s.pins_flush p⟩

theorem Moves.evict (n : Nat) (s : State) (p : PortId) (w : PortId → Option SlotId) : Moves s (State.evict n p s) w w :=
  ⟨fun c => .evict n s p w c, s.pins_evict n p⟩

/-- R14: an abort frees the slot that the port fills. -/
theorem Moves.abortFill (s : State) (p : PortId) {after : Writer} (hafter : after.slot = none) :
    Moves s (s.abortFill p after) s.writers (s.abortFill p after).writers := by
  unfold State.abortFill
  split
  · rename_i stage i n hwriter
    have hslot : s.writers p = some i := by unfold State.writers; rw [hwriter]; rfl
    have hfree : Moves s (s.freeSlot i) s.writers (writerOf s.writers p none) :=
      ⟨fun _ => .freeFilling s hslot, rfl⟩
    have hcounted : SameWriters s ((s.freeSlot i).countPort p fun c => { c with aborted := c.aborted + 1 }) :=
      SameWriters.modPort (s.freeSlot i) p _
    dsimp only
    rw [State.writers_modPort, hafter, hcounted.writers]
    exact hfree.then_pool rfl
  · exact .of_pool rfl
  · exact .of_pool rfl

/-- R9, R10, R12: a claim fills the slot that it grants. -/
theorem Moves.claim (s : State) {p : PortId} (g : Geometry) (n : FrameNumber) {w : PortId → Option SlotId}
    (hw : w p = none) : Moves s (s.claim p g n).2 w (writerOf w p (s.claim p g n).1) := by
  have hgrant : ∀ (u : State) (i : SlotId), (u.grant p g n i).pool = (u.setSlot i (.filling p g)).pool :=
    fun u i => u.grant_pool p g n i
  unfold State.claim
  split
  · rename_i i rest hfree
    have hfill : Moves s ((s.setFreeList rest).setSlot i (.filling p g)) w (writerOf w p (some i)) :=
      ⟨fun _ => .fillFree s g hfree hw, rfl⟩
    exact hfill.then_pool (hgrant _ i)
  · split
    · rename_i i hfind
      have hmem := List.mem_of_find?_eq_some hfind
      have hrefs := List.find?_some hfind
      rw [decide_eq_true_eq] at hrefs
      have hcounted : ((s.countDrop p i).countPort p fun c => { c with reclaimed := c.reclaimed + 1 }).pool = s.pool :=
        s.pool_countDrop p i
      dsimp only
      generalize (s.countDrop p i).countPort p (fun c => { c with reclaimed := c.reclaimed + 1 }) = u at hcounted ⊢
      have hlist : u.readyList p = s.readyList p := congrArg (fun v : Pool => v.ready[p]) hcounted
      have hslot : u.slot i = s.slot i := congrArg (fun v : Pool => v.slots[i]) hcounted
      have hfill : Moves u ((u.setReady p ((u.readyList p).erase i)).setSlot i (.filling p g)) w
          (writerOf w p (some i)) :=
        ⟨fun _ => .reclaim u g (hlist ▸ hmem) (hslot ▸ hrefs) hw, rfl⟩
      rw [hlist] at hfill
      refine ((Moves.of_pool hcounted).trans hfill).then_pool ?_
      rw [← hlist]
      exact hgrant _ i
    · rw [writerOf_self hw]
      refine .of_pool ?_
      unfold State.skip
      dsimp only
      split <;> rfl

/-- R39, R40: a claim by an ARMED writer. -/
theorem Moves.claimFor (s : State) {p : PortId} (m : Measurement) (harmed : (s.port p).writer = .armed) :
    Moves s (s.claimFor p m) s.writers (s.claimFor p m).writers := by
  have hslot : s.writers p = none := by unfold State.writers; rw [harmed]; rfl
  have hmoves := Moves.claim s m.geometry (s.port p).frameNumber hslot
  have hwriters := (s.claim_sameWriters p m.geometry (s.port p).frameNumber).writers
  unfold State.claimFor
  split
  · rename_i e
    rw [e] at hmoves hwriters
    rw [State.writers_modPort, hwriters]
    exact hmoves.then_pool rfl
  · rename_i e
    rw [e] at hmoves hwriters
    rw [hwriters]
    rw [writerOf_self hslot] at hmoves
    exact hmoves

/-- R15: a restart sets the geometry of the slot that the port fills. -/
theorem Moves.restart (s : State) {p : PortId} {i : SlotId} (m : Measurement) (hslot : s.writers p = some i) :
    Moves s (s.restart p m i) s.writers (s.restart p m i).writers := by
  have hfill : Moves s (s.setSlot i (.filling p m.geometry)) s.writers s.writers :=
    ⟨fun _ => .refill s m.geometry hslot, rfl⟩
  have hcounted : SameWriters s
      ((s.setSlot i (.filling p m.geometry)).countPort p fun c => { c with aborted := c.aborted + 1 }) :=
    SameWriters.modPort (s.setSlot i (.filling p m.geometry)) p _
  have hwriters : (s.restart p m i).writers = s.writers := by
    unfold State.restart
    rw [State.writers_modPort, hcounted.writers]
    exact writerOf_self hslot
  rw [hwriters]
  exact hfill.then_pool rfl

/-! ### The frame numbers of the ports -/

/-- The frame number of a port has not gone back, and a fill is still under the number it was under, or under the
port's own. -/
def Port.Advances (q r : Port) : Prop :=
  (r.frameNumber = q.frameNumber ∧ (r.writer.number = none ∨ r.writer.number = q.writer.number)) ∨
  (q.frameNumber.toNat < r.frameNumber.toNat ∧ (r.writer.number = none ∨ r.writer.number = some r.frameNumber))

theorem Port.Advances.of_same {q r : Port} (hn : r.frameNumber = q.frameNumber) (hw : r.writer = q.writer) :
    q.Advances r := .inl ⟨hn, .inr (congrArg Writer.number hw)⟩

theorem Port.Advances.trans {q r v : Port} (h₁ : q.Advances r) (h₂ : r.Advances v) : q.Advances v := by
  rcases h₁ with ⟨hn₁, hw₁⟩ | ⟨hn₁, hw₁⟩ <;> rcases h₂ with ⟨hn₂, hw₂⟩ | ⟨hn₂, hw₂⟩
  · refine .inl ⟨hn₂.trans hn₁, hw₂.elim .inl fun e => ?_⟩
    rw [e]; exact hw₁
  · exact .inr ⟨hn₁ ▸ hn₂, hw₂⟩
  · refine .inr ⟨hn₂ ▸ hn₁, hw₂.elim .inl fun e => ?_⟩
    rw [e, hn₂]; exact hw₁
  · exact .inr ⟨hn₁.trans hn₂, hw₂⟩

/-- The pool, the writers and the frame numbers move together; the numbers under the proviso `f`. -/
structure Moved (f : Prop) (s t : State) : Prop where
  moves : Moves s t s.writers t.writers
  depth : ∀ p, (t.port p).depth = (s.port p).depth
  numbers : f → ∀ p, (s.port p).Advances (t.port p)

theorem Moved.trans {f : Prop} {s t u : State} (h₁ : Moved f s t) (h₂ : Moved f t u) : Moved f s u :=
  ⟨h₁.moves.trans h₂.moves, fun p => (h₂.depth p).trans (h₁.depth p),
    fun hf p => (h₁.numbers hf p).trans (h₂.numbers hf p)⟩

theorem Moved.refl (f : Prop) (s : State) : Moved f s s :=
  ⟨.of_pool rfl, fun _ => rfl, fun _ _ => .of_same rfl rfl⟩

/-- The pool moves and the writers stay. -/
theorem Moved.of_moves {f : Prop} {s t : State} (h : ∀ w, Moves s t w w) (honly : OnlyWriter s t)
    (hwriters : SameWriters s t) : Moved f s t :=
  ⟨hwriters.writers.symm ▸ h s.writers, fun p => by rw [honly p],
    fun _ p => .of_same (by rw [honly p]) (hwriters p)⟩

theorem Moved.of_only {f : Prop} {l : List Part} {s t : State} (h : OnlyChanges l s t)
    (hl : Part.pool ∉ l ∧ Part.ports ∉ l) : Moved f s t :=
  .of_moves (fun _ => .of_pool (h .pool hl.1)) (.of_only h hl.2) (.of_only h hl.2)

/-- Of the store nothing changes but one port's record, whose writer fills what it filled. -/
theorem Moved.modPort (f : Prop) (s : State) (p : PortId) {g : Port → Port} (hdepth : (g (s.port p)).depth = (s.port p).depth)
    (hslot : (g (s.port p)).writer.slot = (s.port p).writer.slot)
    (hnumbers : f → (s.port p).Advances (g (s.port p))) : Moved f s (s.modPort p g) := by
  refine ⟨?_, fun q => ?_, fun hf q => ?_⟩
  · rw [State.writers_modPort, writerOf_self hslot.symm]
    exact .of_pool rfl
  · by_cases hq : q = p
    · subst hq; rw [State.port_modPort_same]; exact hdepth
    · rw [State.port_modPort_other _ _ hq]
  · by_cases hq : q = p
    · subst hq; rw [State.port_modPort_same]; exact hnumbers hf
    · rw [State.port_modPort_other _ _ hq]; exact .of_same rfl rfl

/-- A port's record changes in nothing that the store depends on. -/
theorem Moved.modPort_same (f : Prop) (s : State) (p : PortId) (g : Port → Port)
    (hdepth : ∀ q, (g q).depth = q.depth := by exact fun _ => rfl)
    (hwriter : ∀ q, (g q).writer = q.writer := by exact fun _ => rfl)
    (hnumber : ∀ q, (g q).frameNumber = q.frameNumber := by exact fun _ => rfl) : Moved f s (s.modPort p g) :=
  .modPort f s p (hdepth _) (congrArg Writer.slot (hwriter _)) fun _ => .of_same (hnumber _) (hwriter _)

/-- An operation of port `p` on its writer. -/
theorem Moved.of_writer {f : Prop} {s t : State} {p : PortId} (hmoves : Moves s t s.writers t.writers)
    (honly : OnlyWriter s t) (hothers : OtherPorts p s t)
    (hnumber : (t.port p).writer.number = none ∨ (t.port p).writer.number = (s.port p).writer.number) :
    Moved f s t := by
  refine ⟨hmoves, fun q => by rw [honly q], fun _ q => ?_⟩
  by_cases hq : q = p
  · subst hq; exact .inl ⟨by rw [honly q], hnumber⟩
  · rw [hothers q hq]; exact .of_same rfl rfl

theorem State.flush_moved (f : Prop) (s : State) (p : PortId) : Moved f s (s.flush p) :=
  .of_moves (.flush s p) (s.flush_writer p) (.of_only (s.flush_only p) (by decide))

theorem State.abortFill_moved (f : Prop) (s : State) (p : PortId) {after : Writer} (hslot : after.slot = none)
    (hnumber : after.number = none) : Moved f s (s.abortFill p after) := by
  refine .of_writer (.abortFill s p hslot) (s.abortFill_writer p after) (s.abortFill_others p after) ?_
  unfold State.abortFill
  split
  · rw [State.port_modPort_same]; exact .inl hnumber
  · exact .inr rfl
  · exact .inr rfl

theorem State.leaveLocked_moved (f : Prop) (s : State) (p : PortId) (start : Option Time) :
    Moved f s (s.leaveLocked p start) :=
  ((s.abortFill_moved f p rfl rfl).trans (.of_only (State.modHead_only _ _ _) (by decide))).trans
    (.of_only (State.modHead_only _ _ _) (by decide))

theorem State.captureOff_moved (f : Prop) (s : State) (p : PortId) : Moved f s (s.captureOff p) := by
  unfold State.captureOff
  split
  · exact .refl f s
  · rename_i harmed
    exact .modPort f s p rfl (by rw [harmed]; rfl) fun _ => .inl ⟨rfl, .inl rfl⟩
  · exact s.abortFill_moved f p rfl rfl

theorem State.captureOn_moved (f : Prop) (s : State) (p : PortId) : Moved f s (s.captureOn p) := by
  unfold State.captureOn
  split
  · rename_i hoff
    exact .modPort f s p rfl (by rw [hoff]; rfl) fun _ => .inl ⟨rfl, .inl rfl⟩
  · exact .refl f s
  · exact .refl f s

theorem State.loseSignal_moved (f : Prop) (s : State) (p : PortId) : Moved f s (s.loseSignal p) := by
  have hraise : Moved f s ((s.modPort p Port.loseSignal).raise (.inputState p .noSignal none)) :=
    (Moved.modPort_same f s p _).trans
      (.of_only (State.raise_only _ _) (by decide))
  unfold State.loseSignal
  dsimp only
  split
  · exact hraise.trans (State.leaveLocked_moved _ _ _ _)
  · exact hraise

theorem State.resetDetector_moved (f : Prop) (s : State) (p : PortId) : Moved f s (s.resetDetector p) := by
  unfold State.resetDetector
  dsimp only
  split
  · exact (s.loseSignal_moved f p).trans (.modPort_same _ _ p _)
  · exact (Moved.modPort_same f s p _).trans
      (.modPort_same _ _ p _)

/-! ### START (R37) -/

theorem State.firstStart_moved (f : Prop) (s : State) (p : PortId) (l : FieldLevel) (time : Time) :
    Moved f s (s.firstStart p l time) :=
  (Moved.modPort_same f s p _).trans
    (.of_only (State.raise_only _ _) (by decide))

theorem State.measuredPort_moved (f : Prop) (s : State) (p : PortId) (l : FieldLevel) (m : Measurement) (time : Time) :
    Moved f s (s.measuredPort p l m time) := by
  have hport : Moved f s (s.modPort p fun q => q.afterMeasure l m time) :=
    .modPort_same f s p _
  unfold State.measuredPort
  split
  · exact hport
  · exact hport.trans (.of_only (State.raise_only _ _) (by decide))

theorem State.measuredStart_moved (f : Prop) (s : State) (p : PortId) (l : FieldLevel) (m : Measurement) (time : Time) :
    Moved f s (s.measuredStart p l m time) := by
  rw [State.measuredStart_eq]
  split
  · exact (s.measuredPort_moved f p l m time).trans (State.leaveLocked_moved _ _ _ _)
  · exact s.measuredPort_moved f p l m time

theorem State.claimFor_number (s : State) {p : PortId} (m : Measurement) (harmed : (s.port p).writer = .armed) :
    ((s.claimFor p m).port p).writer.number = none ∨
      ((s.claimFor p m).port p).writer.number = some (s.port p).frameNumber := by
  have hport := s.claim_writer p m.geometry (s.port p).frameNumber p
  have hwriter := s.claim_sameWriters p m.geometry (s.port p).frameNumber p
  unfold State.claimFor
  split
  · rename_i e
    rw [e] at hport
    rw [State.port_modPort_same, hport]
    exact .inr rfl
  · rename_i e
    rw [e] at hwriter
    rw [hwriter, harmed]
    exact .inl rfl

/-- A numbered start offered to the writer: whatever it fills then is under the port's new number. -/
theorem State.offerToWriter_numbered (s : State) (p : PortId) (m : Measurement) :
    Moves s (s.offerToWriter p m true) s.writers (s.offerToWriter p m true).writers ∧
    (((s.offerToWriter p m true).port p).writer.number = none ∨
      ((s.offerToWriter p m true).port p).writer.number = some (s.port p).frameNumber) := by
  unfold State.offerToWriter
  split
  · rename_i hoff
    exact ⟨.of_pool rfl, .inl (by rw [hoff]; rfl)⟩
  · rename_i harmed
    rw [if_pos rfl]
    exact ⟨.claimFor s m harmed, s.claimFor_number m harmed⟩
  · rename_i stage i n hwriter
    rw [if_pos rfl]
    refine ⟨.restart s m (by unfold State.writers; rw [hwriter]; rfl), .inr ?_⟩
    rw [State.restart_port]
    rfl

theorem FrameNumber.lt_next {n : FrameNumber} (h : n ≠ BitVec.allOnes 64) : n.toNat < (nextFrameNumber n).toNat := by
  have hlast : n.toNat ≠ 2 ^ 64 - 1 := fun e => h (BitVec.eq_of_toNat_eq (by rw [e]; rfl))
  rw [nextFrameNumber_of_ne h]
  bv_omega

theorem State.lockedStart_moved (s : State) (p : PortId) (m : Measurement) (l : FieldLevel) (time : Time) :
    Moved ((s.port p).frameNumber ≠ BitVec.allOnes 64) s (s.lockedStart p m l time) := by
  unfold State.lockedStart
  split
  · obtain ⟨hmoves, hnumber⟩ := (s.modPort p fun q => q.numbered time).offerToWriter_numbered p m
    have honly := (s.modPort p fun q => q.numbered time).offerToWriter_writer p m true
    have hothers := (s.modPort p fun q => q.numbered time).offerToWriter_others p m true
    have hport := s.port_modPort_same p fun q => q.numbered time
    have hwriters : (s.modPort p fun q => q.numbered time).writers = s.writers :=
      (SameWriters.modPort s p _).writers
    generalize (s.modPort p fun q => q.numbered time).offerToWriter p m true = t at *
    have hnumbered : Moves s (s.modPort p fun q => q.numbered time) s.writers s.writers := .of_pool rfl
    rw [hwriters] at hmoves
    refine ⟨hnumbered.trans hmoves, fun q => ?_, fun hremain q => ?_⟩
    · rw [honly q]
      by_cases hq : q = p
      · subst hq; rw [hport]; rfl
      · rw [State.port_modPort_other _ _ hq]
    · by_cases hq : q = p
      · subst hq
        have hnext : (t.port q).frameNumber = nextFrameNumber (s.port q).frameNumber := by
          rw [honly q, hport]; rfl
        refine .inr ⟨hnext ▸ FrameNumber.lt_next hremain, hnumber.elim .inl fun e => .inr ?_⟩
        rw [e, hport, hnext]
        rfl
      · rw [hothers q hq, State.port_modPort_other _ _ hq]; exact .of_same rfl rfl
  · unfold State.offerToWriter
    split
    · exact .refl _ s
    · exact .refl _ s
    · rename_i stage i n hwriter
      rw [if_neg Bool.false_ne_true]
      split
      · exact .modPort _ s p rfl (by rw [hwriter]; rfl) fun _ => .inl ⟨rfl, .inr (by rw [hwriter]; rfl)⟩
      · exact .refl _ s

theorem State.measuredStart_frameNumber (s : State) (p : PortId) (l : FieldLevel) (m : Measurement) (time : Time) :
    ((s.measuredStart p l m time).port p).frameNumber = (s.port p).frameNumber := by
  rw [s.measuredStart_port p l m time p, State.measuredPort_port]
  rfl

theorem State.takeStart_moved (s : State) (p : PortId) (l : FieldLevel) (w : Option Nat) (n : Nat) (time : Time) :
    Moved (NumbersRemain s) s (s.takeStart p l w n time) := by
  rw [State.takeStart_eq]
  split
  · exact s.firstStart_moved _ p l time
  · split
    · rename_i m _
      have hlocked := (s.measuredStart p l ((s.port p).measure l w n time) time).lockedStart_moved p m l time
      rw [State.measuredStart_frameNumber] at hlocked
      exact (s.measuredStart_moved _ p l _ time).trans
        ⟨hlocked.moves, hlocked.depth, fun hremain => hlocked.numbers (hremain p)⟩
    · exact s.measuredStart_moved _ p l _ time

end Sys2Proof.Machine
end

section
/-! Holders and references (R16 to R18): what taking and releasing a reference does to the store, and how the number
of holders of each slot changes when one pin or one window comes to hold another slot. -/

namespace Sys2Proof.Machine

/-! ### Counting holders -/

/-- The windows of both heads. -/
def windowIds : List (HeadId × Position) := headIds.flatMap fun h => positions.map fun p => (h, p)

theorem State.holds_eq (s : State) :
    s.holds = windowIds.map (fun x => (s.selectionAt x.1 x.2).slot) ++ pinIds.map s.pinSlot := rfl

theorem windowIds_nodup : windowIds.Nodup := by decide

theorem mem_windowIds (h : HeadId) (p : Position) : (h, p) ∈ windowIds := by revert h p; decide

theorem mem_pinIds (k : PinId) : k ∈ pinIds := by revert k; decide

/-- One element of a list is mapped to another value: the counts differ by that value alone. -/
theorem count_map_replace {α β : Type} [BEq β] {l : List α} {a : α} {f g : α → β} (hnodup : l.Nodup)
    (ha : a ∈ l) (hsame : ∀ b, b ≠ a → g b = f b) (x : β) :
    (l.map g).count x + [f a].count x = (l.map f).count x + [g a].count x := by
  induction l with
  | nil => cases ha
  | cons b l ih =>
    obtain ⟨hb, hnodup'⟩ := List.nodup_cons.1 hnodup
    have hcons : ∀ k : α → β, ((b :: l).map k).count x = [k b].count x + (l.map k).count x :=
      fun k => List.count_append (l₁ := [k b])
    rw [hcons, hcons]
    by_cases e : b = a
    · subst e
      have hrest : l.map g = l.map f := List.map_congr_left fun c hc => hsame c fun e => hb (e ▸ hc)
      rw [hrest]
      omega
    · have hrest := ih hnodup' ((List.mem_cons.1 ha).resolve_left fun e' => e e'.symm)
      rw [hsame b e]
      omega

theorem State.holdCount_of_same {s t : State} (hpins : ∀ k, t.pinSlot k = s.pinSlot k)
    (hwindows : ∀ h p, (t.selectionAt h p).slot = (s.selectionAt h p).slot) : t.holdCount = s.holdCount := by
  have hholds : t.holds = s.holds := by
    rw [State.holds_eq, State.holds_eq]
    exact congrArg₂ _ (List.map_congr_left fun x _ => hwindows x.1 x.2) (List.map_congr_left fun k _ => hpins k)
  unfold State.holdCount
  rw [hholds]

theorem State.holdCount_window {s t : State} {h : HeadId} {p : Position} (hpins : ∀ k, t.pinSlot k = s.pinSlot k)
    (hothers : ∀ g q, (g, q) ≠ (h, p) → (t.selectionAt g q).slot = (s.selectionAt g q).slot) (j : SlotId) :
    t.holdCount j + [(s.selectionAt h p).slot].count (some j) =
      s.holdCount j + [(t.selectionAt h p).slot].count (some j) := by
  have hwindows := count_map_replace (f := fun x : HeadId × Position => (s.selectionAt x.1 x.2).slot)
    (g := fun x => (t.selectionAt x.1 x.2).slot) windowIds_nodup (mem_windowIds h p) (fun x hx => hothers x.1 x.2 hx)
    (some j)
  have hsame : pinIds.map t.pinSlot = pinIds.map s.pinSlot := List.map_congr_left fun k _ => hpins k
  unfold State.holdCount
  rw [State.holds_eq, State.holds_eq, List.count_append, List.count_append, hsame]
  dsimp only at hwindows
  omega

theorem State.holdCount_pin {s t : State} {i : PinId} (hothers : ∀ k, k ≠ i → t.pinSlot k = s.pinSlot k)
    (hwindows : ∀ h p, (t.selectionAt h p).slot = (s.selectionAt h p).slot) (j : SlotId) :
    t.holdCount j + [s.pinSlot i].count (some j) = s.holdCount j + [t.pinSlot i].count (some j) := by
  have hpins := count_map_replace (f := s.pinSlot) (g := t.pinSlot) (l := pinIds) (by decide) (mem_pinIds i) hothers
    (some j)
  have hsame : windowIds.map (fun x => (t.selectionAt x.1 x.2).slot) =
      windowIds.map fun x => (s.selectionAt x.1 x.2).slot := List.map_congr_left fun x _ => hwindows x.1 x.2
  unfold State.holdCount
  rw [State.holds_eq, State.holds_eq, List.count_append, List.count_append, hsame]
  omega

theorem State.holdCount_of_window {s : State} {h : HeadId} {p : Position} {i : SlotId}
    (hold : (s.selectionAt h p).slot = some i) : 1 ≤ s.holdCount i := by
  unfold State.holdCount
  rw [State.holds_eq, List.count_append]
  have hmem : some i ∈ windowIds.map fun x => (s.selectionAt x.1 x.2).slot :=
    List.mem_map.2 ⟨(h, p), mem_windowIds h p, hold⟩
  have := List.count_pos_iff.2 hmem
  omega

theorem State.holdCount_of_pin {s : State} {k : PinId} {i : SlotId} (hold : s.pinSlot k = some i) :
    1 ≤ s.holdCount i := by
  unfold State.holdCount
  rw [State.holds_eq, List.count_append]
  have hmem : some i ∈ pinIds.map s.pinSlot := List.mem_map.2 ⟨k, mem_pinIds k, hold⟩
  have := List.count_pos_iff.2 hmem
  omega

/-! ### Taking and releasing a reference -/

/-- The slot that a reference on slot `i` is taken on: `i` itself, when it holds a frame. -/
def State.heldAt (s : State) (i : SlotId) : Option SlotId := (s.currentFrameOf i).map CurrentFrame.slot

theorem State.heldAt_of_frame {s : State} {i : SlotId} {f : StoredFrame} (h : (s.slot i).frame? = some f) :
    s.heldAt i = some i := by
  unfold State.heldAt State.currentFrameOf; rw [h]; rfl

theorem State.heldAt_of_none {s : State} {i : SlotId} (h : (s.slot i).frame? = none) : s.heldAt i = none := by
  unfold State.heldAt State.currentFrameOf; rw [h]; rfl

theorem count_single_same (j : SlotId) : [some j].count (some j) = 1 := List.count_singleton_self

theorem count_single_other {i j : SlotId} (h : j ≠ i) : [some i].count (some j) = 0 := by
  rw [List.count_singleton, if_neg (by simpa using Ne.symm h)]

theorem Slot.refs_of_no_frame {v : Slot} (h : v.frame? = none) : v.refs = 0 := by unfold Slot.refs; rw [h]; rfl

/-- R17: a reference is taken on a slot that holds a frame, and on no other. -/
theorem Shift.takeRef (s : State) (i : SlotId) {w : PortId → Option SlotId} {c c' : SlotId → Nat}
    (hc : ∀ j, c' j = c j + [s.heldAt i].count (some j)) : Shift s (s.takeRef i) w w c c' := by
  have hnothing : (s.slot i).frame? = none → Shift s s w w c c' := fun h => by
    have hsame : c' = c := funext fun j => by rw [hc, s.heldAt_of_none h]; rfl
    rw [hsame]
    exact .of_pool rfl
  have hframe : ∀ f, (s.slot i).frame? = some f → (∀ j, j ≠ i → c' j = c j) ∧ c' i = c i + 1 := fun f h => by
    refine ⟨fun j hj => ?_, ?_⟩
    · rw [hc, s.heldAt_of_frame h, count_single_other hj]; rfl
    · rw [hc, s.heldAt_of_frame h, count_single_same]
  unfold State.takeRef
  split
  · rename_i f hslot
    obtain ⟨hothers, hsame⟩ := hframe f (by rw [hslot]; rfl)
    refine .replace s i _ (fun _ => ?_) hothers (fun _ refs => ?_) nofun fun _ => ?_
    · rw [hslot]; exact ⟨⟨nofun, nofun⟩, rfl, rfl⟩
    · rw [hsame, ← refs.count i, hslot]; rfl
    · unfold State.identityIn; rw [hslot]; rfl
  · rename_i f hslot
    obtain ⟨hothers, hsame⟩ := hframe f (by rw [hslot]; rfl)
    refine .replace s i _ (fun _ => ?_) hothers (fun _ refs => ?_) (fun _ g hg => ?_) fun _ => ?_
    · rw [hslot]; exact ⟨⟨nofun, nofun⟩, rfl, rfl⟩
    · rw [hsame, ← refs.count i, hslot]; rfl
    · obtain rfl := Slot.held.inj hg; exact Nat.le_add_left 1 _
    · unfold State.identityIn; rw [hslot]; rfl
  · rename_i hslot; exact hnothing (by rw [hslot]; rfl)
  · rename_i hslot; exact hnothing (by rw [hslot]; rfl)

/-- R18: the last reference of a HELD slot is released. -/
theorem Shift.freeHeld (s : State) {i : SlotId} {f : StoredFrame} (hslot : s.slot i = .held f)
    {w : PortId → Option SlotId} {c c' : SlotId → Nat} (hothers : ∀ j, j ≠ i → c' j = c j)
    (hlast : RefsFit s c → c' i = 0) : Shift s (s.freeSlot i) w w c c' := by
  have hother : ∀ j, j ≠ i → (s.freeSlot i).slot j = s.slot j := fun j hj => by simp [State.freeSlot, hj]
  have hfreed : (s.freeSlot i).slot i = .free := by simp [State.freeSlot]
  have hlist : (s.freeSlot i).pool.freeList = s.pool.freeList ++ [i] := rfl
  have hnotready : Fits s w → ∀ q, i ∉ s.readyList q := fun fits q hmem => by
    have := (fits.ready q i).1 hmem
    rw [hslot] at this
    cases this
  refine ⟨fun fits => ?_, fun fits refs => ?_, fun fits refs => ?_, fun q => List.Sublist.refl _⟩
  · have hnot : i ∉ s.pool.freeList := fun hi => by
      have := (fits.free i).1 hi
      rw [hslot] at this
      cases this
    refine fits.setOne i hother ?_ fits.listNodup (fun j e => ⟨?_, fun q => Iff.rfl, fun q => Iff.rfl⟩) ?_
      (fun q => ?_) fun q => ?_
    · rw [hlist, ← List.concat_eq_append]; exact fits.nodup.concat hnot
    · rw [hlist, List.mem_append, List.mem_singleton]; simp [e]
    · rw [hfreed, hlist]; simp
    · rw [hfreed]; exact ⟨fun hmem => absurd hmem (hnotready fits q), nofun⟩
    · rw [hfreed, fits.filling q i, hslot]; exact Iff.rfl
  · refine refs.setOne i hother hothers ?_ fun g hg => ?_
    · rw [hfreed, hlast refs]; rfl
    · rw [hfreed] at hg; cases hg
  · refine .setOne i hother fun hkeep => ?_
    rcases hkeep with ⟨q, hq⟩ | hcount
    · exact absurd hq (hnotready fits q)
    · rw [hlast refs] at hcount; cases hcount

/-- R18: the release of a reference that the ledger counts. -/
theorem Shift.releaseRef (s : State) (i : SlotId) {w : PortId → Option SlotId} {c c' : SlotId → Nat}
    (hc : ∀ j, c' j + [some i].count (some j) = c j) : Shift s (s.releaseRef i) w w c c' := by
  have hothers : ∀ j, j ≠ i → c' j = c j := fun j hj => by
    rw [← hc j, count_single_other hj]; rfl
  have hsame : c' i + 1 = c i := by rw [← hc i, count_single_same]
  have hnothing : (s.slot i).frame? = none → Shift s s w w c c' := fun h => by
    have hfalse : RefsFit s c → False := fun refs => by
      have := refs.count i
      rw [Slot.refs_of_no_frame h] at this
      omega
    exact ⟨id, fun _ refs => (hfalse refs).elim, fun _ refs => (hfalse refs).elim, fun _ => List.Sublist.refl _⟩
  have hcount : ∀ {f : StoredFrame}, (s.slot i).refs = f.refs → RefsFit s c → f.refs - 1 = c' i := fun hrefs refs => by
    have := refs.count i
    omega
  unfold State.releaseRef
  split
  · rename_i f hslot
    refine .replace s i _ (fun _ => ?_) hothers (fun _ refs => ?_) nofun fun _ => ?_
    · rw [hslot]; exact ⟨⟨nofun, nofun⟩, rfl, rfl⟩
    · exact hcount (by rw [hslot]; rfl) refs
    · unfold State.identityIn; rw [hslot]; rfl
  · rename_i f hslot
    split
    · rename_i hle
      refine .freeHeld s hslot hothers fun refs => ?_
      have := hcount (f := f) (by rw [hslot]; rfl) refs
      omega
    · rename_i hmore
      refine .replace s i _ (fun _ => ?_) hothers (fun _ refs => ?_) (fun _ g hg => ?_) fun _ => ?_
      · rw [hslot]; exact ⟨⟨nofun, nofun⟩, rfl, rfl⟩
      · exact hcount (by rw [hslot]; rfl) refs
      · obtain rfl := Slot.held.inj hg
        show 1 ≤ f.refs - 1
        omega
      · unfold State.identityIn; rw [hslot]; rfl
  · rename_i hslot; exact hnothing (by rw [hslot]; rfl)
  · rename_i hslot; exact hnothing (by rw [hslot]; rfl)

theorem Shift.releaseOpt (s : State) (x : Option SlotId) {w : PortId → Option SlotId} {c c' : SlotId → Nat}
    (hc : ∀ j, c' j + [x].count (some j) = c j) : Shift s (s.releaseOpt x) w w c c' := by
  cases x with
  | none =>
    have hsame : c' = c := funext fun j => hc j
    rw [hsame]
    exact .of_pool rfl
  | some i => exact .releaseRef s i hc

/-! ### One holder comes to hold another slot -/

/-- A reference is taken, or none; a holder is set; and the reference it had is released. -/
theorem Shift.exchange {s u v t : State} {w : PortId → Option SlotId} {c c' : SlotId → Nat} {new old : Option SlotId}
    (htake : Shift s u w w c fun j => c j + [new].count (some j)) (hset : v.pool.slots = u.pool.slots ∧
      v.pool.freeList = u.pool.freeList ∧ v.pool.ready = u.pool.ready) (ht : t = v.releaseOpt old)
    (hc : ∀ j, c' j + [old].count (some j) = c j + [new].count (some j)) : Shift s t w w c c' := by
  obtain ⟨hslots, hfree, hready⟩ := hset
  have hslot : ∀ j, v.slot j = u.slot j := fun j => congrArg (fun x : Vector Slot 24 => x[j]) hslots
  have hlist : ∀ q, v.readyList q = u.readyList q := fun q => congrArg (fun x : Vector (List SlotId) 4 => x[q]) hready
  have hrecord : ∀ d, Shift u v w w d d := fun d => by
    refine ⟨fun h => ?_, fun _ h => ?_, fun _ _ => .of_slots hslot, fun p => by rw [hlist]⟩
    · exact ⟨hfree ▸ h.nodup, fun i => by rw [hfree, hslot]; exact h.free i, fun p => by rw [hlist]; exact h.listNodup p,
        fun p i => by rw [hlist, hslot]; exact h.ready p i, fun p i => by rw [hslot]; exact h.filling p i⟩
    · exact ⟨fun i => by rw [hslot]; exact h.count i, fun i f hf => h.held i f (by rw [← hslot]; exact hf)⟩
  rw [ht]
  refine (htake.trans (hrecord _) fun _ => le_refl _).trans (.releaseOpt v old hc) fun j => ?_
  have := hc j
  omega

end Sys2Proof.Machine
end

section
/-! How an operation carries the invariants of the store over: the pool, the ledger of references and the frame
numbers (R16). -/

namespace Sys2Proof.Machine

/-! ### The invariant of the frame numbers -/

/-- R5, R6: ready lists rise in frame number up to the port's own, which a fill is under and which is above them. -/
structure OrderOk (s : State) : Prop where
  rises : ∀ p, (s.readyList p).Pairwise fun i j => s.numberIn i < s.numberIn j
  below : ∀ p, ∀ i ∈ s.readyList p, s.numberIn i ≤ (s.port p).frameNumber.toNat
  filling : ∀ p, (s.port p).writer.number = none ∨ ((s.port p).writer.number = some (s.port p).frameNumber ∧
    ∀ i ∈ s.readyList p, s.numberIn i < (s.port p).frameNumber.toNat)

/-- R21, Table 5-1: what the pins and the windows of `t` record of their frames is so of the slots of `s`. -/
structure Named (s t : State) : Prop where
  pins : ∀ k e, t.pin k = some e → s.identityIn e.slot = some (e.source, e.number)
  windows : ∀ h p c, (t.selectionAt h p).current = some c →
    s.identityIn c.slot = some (c.source, c.number) ∧ (t.selectionAt h p).lastShown = some c.number

theorem numbersOk_iff {s : State} : NumbersOk s ↔ OrderOk s ∧ Named s s :=
  ⟨fun ⟨h₁, h₂, h₃, h₄, h₅⟩ => ⟨⟨h₁, h₂, h₃⟩, ⟨fun k e he => h₄ k e he, fun h p c hc => h₅ h p c hc⟩⟩,
    fun ⟨⟨h₁, h₂, h₃⟩, ⟨h₄, h₅⟩⟩ => ⟨h₁, h₂, h₃, fun k e he => h₄ k e he, fun h p c hc => h₅ h p c hc⟩⟩

theorem State.numberIn_of_identity {s t : State} {i : SlotId} (h : t.identityIn i = s.identityIn i) :
    t.numberIn i = s.numberIn i := by
  have heq : ∀ u : State, u.numberIn i = ((u.identityIn i).map fun x => x.2.toNat).getD 0 := fun u => by
    unfold State.numberIn State.identityIn
    rw [Option.map_map]
    rfl
  rw [heq, heq, h]

theorem OrderOk.of_lists {s t : State} (ok : OrderOk s) (hlists : ∀ p, (t.readyList p).Sublist (s.readyList p))
    (hkeeps : ∀ p, ∀ i ∈ t.readyList p, t.identityIn i = s.identityIn i)
    (hports : ∀ p, (s.port p).Advances (t.port p)) : OrderOk t := by
  have hnumber : ∀ p, ∀ i ∈ t.readyList p, t.numberIn i = s.numberIn i := fun p i hi =>
    State.numberIn_of_identity (hkeeps p i hi)
  have hbelow : ∀ p, ∀ i ∈ t.readyList p, t.numberIn i ≤ (s.port p).frameNumber.toNat := fun p i hi => by
    rw [hnumber p i hi]; exact ok.below p i ((hlists p).subset hi)
  refine ⟨fun p => ?_, fun p i hi => ?_, fun p => ?_⟩
  · refine ((ok.rises p).sublist (hlists p)).imp_of_mem fun {i j} hi hj hlt => ?_
    rw [hnumber p i hi, hnumber p j hj]
    exact hlt
  · rcases hports p with ⟨hn, -⟩ | ⟨hn, -⟩
    · rw [hn]; exact hbelow p i hi
    · exact (hbelow p i hi).trans hn.le
  · rcases hports p with ⟨hn, hw | hw⟩ | ⟨hn, hw | hw⟩
    · exact .inl hw
    · rw [hw, hn]
      refine (ok.filling p).imp_right fun ⟨hw', hlt⟩ => ⟨hw', fun i hi => ?_⟩
      rw [hnumber p i hi]
      exact hlt i ((hlists p).subset hi)
    · exact .inl hw
    · exact .inr ⟨hw, fun i hi => (hbelow p i hi).trans_lt hn⟩

theorem Named.of_keeps {s t : State} (h : Named s t) (hkeeps : KeepsFrames s t t.holdCount) : Named t t := by
  refine ⟨fun k e he => ?_, fun g p c hc => ?_⟩
  · rw [hkeeps e.slot (.inr (State.holdCount_of_pin (k := k) (by unfold State.pinSlot; rw [he]; rfl)))]
    exact h.pins k e he
  · rw [hkeeps c.slot (.inr (State.holdCount_of_window (h := g) (p := p) (by unfold Selection.slot; rw [hc]; rfl)))]
    exact h.windows g p c hc

/-! ### Carrying the invariants over -/

/-- An operation keeps the invariants of the store; that of the frame numbers under the proviso `f`. -/
structure Carries (f : Prop) (s t : State) : Prop where
  pool : PoolOk s → PoolOk t
  refs : PoolOk s → ReferencesOk s → ReferencesOk t
  numbers : f → PoolOk s → ReferencesOk s → NumbersOk s → NumbersOk t

theorem Carries.refl (f : Prop) (s : State) : Carries f s s := ⟨id, fun _ => id, fun _ _ _ => id⟩

theorem Carries.trans {f : Prop} {s t u : State} (h₁ : Carries f s t) (h₂ : Carries f t u) : Carries f s u :=
  ⟨fun ok => h₂.pool (h₁.pool ok), fun ok hr => h₂.refs (h₁.pool ok) (h₁.refs ok hr),
    fun hf ok hr hn => h₂.numbers hf (h₁.pool ok) (h₁.refs ok hr) (h₁.numbers hf ok hr hn)⟩

/-- An operation may be looked at in a state whose pool is in order. -/
theorem Carries.of_poolOk {f : Prop} {s t : State} (h : PoolOk s → Carries f s t) : Carries f s t :=
  ⟨fun ok => (h ok).pool ok, fun ok => (h ok).refs ok, fun hf ok => (h ok).numbers hf ok⟩

theorem depthsOk_of_lists {s t : State} (hlists : ∀ p, (t.readyList p).Sublist (s.readyList p))
    (hdepth : ∀ p, (t.port p).depth = (s.port p).depth) (ok : DepthsOk s) : DepthsOk t := fun p => by
  rw [hdepth p]
  exact ⟨(hlists p).length_le.trans (ok p).1, (ok p).2⟩

theorem Carries.of_shift {f : Prop} {s t : State}
    (hshift : Shift s t s.writers t.writers s.holdCount t.holdCount) (hdepths : DepthsOk s → DepthsOk t)
    (hcleared : ClearedOk s → ClearedOk t) (hports : f → ∀ p, (s.port p).Advances (t.port p))
    (hnamed : Named s s → Named s t) : Carries f s t := by
  refine ⟨fun ok => ?_, fun ok hr => ?_, fun hf ok hr hn => ?_⟩
  · rw [poolOk_iff] at ok ⊢
    exact ⟨hshift.fits ok.1, hdepths ok.2⟩
  · rw [referencesOk_iff] at hr ⊢
    exact ⟨hshift.refs (poolOk_iff.1 ok).1 hr.1, hcleared hr.2⟩
  · rw [numbersOk_iff] at hn ⊢
    have hkeeps := hshift.keeps (poolOk_iff.1 ok).1 (referencesOk_iff.1 hr).1
    exact ⟨hn.1.of_lists hshift.lists (fun p i hi => hkeeps i (.inl ⟨p, hi⟩)) (hports hf),
      (hnamed hn.2).of_keeps hkeeps⟩

/-! ### Operations that change no holder -/

/-- The selection states and active scenes are as they were, and no head has gone OFF. -/
def SameWindows (s t : State) : Prop := ∀ h, (t.head h).selection = (s.head h).selection ∧
  (t.head h).activeScene = (s.head h).activeScene ∧ ((t.head h).state = .off → (s.head h).state = .off)

theorem SameWindows.refl (s : State) : SameWindows s s := fun _ => ⟨rfl, rfl, id⟩

theorem SameWindows.trans {s t u : State} (h₁ : SameWindows s t) (h₂ : SameWindows t u) : SameWindows s u := fun h =>
  ⟨(h₂ h).1.trans (h₁ h).1, (h₂ h).2.1.trans (h₁ h).2.1, fun e => (h₁ h).2.2 ((h₂ h).2.2 e)⟩

theorem SameWindows.of_heads {s t : State} (h : ∀ g, t.head g = s.head g) : SameWindows s t := fun g => by
  rw [h g]; exact ⟨rfl, rfl, id⟩

theorem SameWindows.of_only {l : List Part} {s t : State} (h : OnlyChanges l s t) (hl : Part.heads ∉ l) :
    SameWindows s t := .of_heads (State.head_of_only h hl)

theorem SameWindows.of_head {s t : State} {h : HeadId} (hothers : OtherHeads h s t)
    (hsame : (t.head h).selection = (s.head h).selection ∧ (t.head h).activeScene = (s.head h).activeScene ∧
      ((t.head h).state = .off → (s.head h).state = .off)) : SameWindows s t := fun g => by
  by_cases hg : g = h
  · subst hg; exact hsame
  · rw [hothers g hg]; exact ⟨rfl, rfl, id⟩

theorem SameWindows.modHead {s : State} {h : HeadId} (f : Head → Head)
    (hsame : (f (s.head h)).selection = (s.head h).selection ∧ (f (s.head h)).activeScene = (s.head h).activeScene ∧
      ((f (s.head h)).state = .off → (s.head h).state = .off) := by exact ⟨rfl, rfl, id⟩) :
    SameWindows s (s.modHead h f) :=
  .of_head (s.modHead_others h f) (by rw [State.head_modHead_same]; exact hsame)

theorem SameWindows.of_lossArises {s t : State} {p : PortId} {start : Option Time} {b : Bool}
    (h : ∀ g, t.head g = if b then followLossArises p start (s.head g) else s.head g) : SameWindows s t := by
  intro g
  rw [h g]
  unfold followLossArises
  split
  · split <;> exact ⟨rfl, rfl, id⟩
  · exact ⟨rfl, rfl, id⟩

theorem SameWindows.selectionAt {s t : State} (h : SameWindows s t) (g : HeadId) (p : Position) :
    t.selectionAt g p = s.selectionAt g p := by
  unfold State.selectionAt; rw [(h g).1]

theorem SameWindows.clearedOk {s t : State} (h : SameWindows s t) (ok : ClearedOk s) : ClearedOk t := fun g p hgp => by
  rw [h.selectionAt]
  rw [(h g).2.1] at hgp
  exact ok g p (hgp.imp_left (h g).2.2)

/-- The pool, the writers and the heads move, and no pin or window comes to hold another slot. -/
theorem Carries.of_holders {f : Prop} {s t : State} (h : Moves s t s.writers t.writers)
    (hdepths : DepthsOk s → DepthsOk t) (hports : f → ∀ p, (s.port p).Advances (t.port p))
    (hwindows : ∀ g p, t.selectionAt g p = s.selectionAt g p) (hcleared : ClearedOk s → ClearedOk t) :
    Carries f s t := by
  have hpin : ∀ k, t.pin k = s.pin k := State.pin_of_pins h.pins
  have hcount : t.holdCount = s.holdCount := State.holdCount_of_same
    (fun k => congrArg (Option.map PinEntry.slot) (hpin k)) fun g p => congrArg Selection.slot (hwindows g p)
  refine .of_shift ?_ hdepths hcleared hports fun hn => ⟨fun k e he => ?_, fun g p c hc => ?_⟩
  · rw [hcount]; exact h.shift _
  · rw [hpin] at he; exact hn.pins k e he
  · rw [hwindows] at hc ⊢; exact hn.windows g p c hc

theorem Carries.of_moved {f : Prop} {s t : State} (h : Moved f s t) (hwindows : SameWindows s t) : Carries f s t :=
  .of_holders h.moves (depthsOk_of_lists (h.moves.shift fun _ => 0).lists h.depth) h.numbers hwindows.selectionAt
    hwindows.clearedOk

/-- Only heads and other blocks change, in nothing that the store depends on. -/
theorem Carries.of_windows {f : Prop} {l : List Part} {s t : State} (h : OnlyChanges l s t)
    (hl : Part.pool ∉ l ∧ Part.ports ∉ l) (hwindows : SameWindows s t) : Carries f s t :=
  .of_moved (.of_only h hl) hwindows

theorem Carries.of_only {f : Prop} {l : List Part} {s t : State} (h : OnlyChanges l s t)
    (hl : Part.pool ∉ l ∧ Part.ports ∉ l ∧ Part.heads ∉ l) : Carries f s t :=
  .of_windows h ⟨hl.1, hl.2.1⟩ (.of_only h hl.2.2)

/-! ### One window comes to hold another slot -/

/-- Nothing of the heads changes but the selection state at position `p` of head `h`. -/
structure Reselects (h : HeadId) (p : Position) (s t : State) : Prop where
  only : OnlySelection h s t
  rest : ∀ q, q ≠ p → t.selectionAt h q = s.selectionAt h q

theorem Reselects.other {h : HeadId} {p : Position} {s t : State} (hr : Reselects h p s t) {g : HeadId} {q : Position}
    (hgq : (g, q) ≠ (h, p)) : t.selectionAt g q = s.selectionAt g q := by
  by_cases hg : g = h
  · subst hg; exact hr.rest q fun hq => hgq (hq ▸ rfl)
  · exact State.selectionAt_of_head (hr.only.others g hg) q

theorem Reselects.clearedOk {h : HeadId} {p : Position} {s t : State} (hr : Reselects h p s t)
    (hp : (s.head h).state = .off ∨ (s.head h).activeScene[p] = none → s.selectionAt h p = .cleared →
      t.selectionAt h p = .cleared) (ok : ClearedOk s) : ClearedOk t := fun g q hgq => by
  have hhead : (t.head g).state = (s.head g).state ∧ (t.head g).activeScene = (s.head g).activeScene := by
    by_cases hg : g = h
    · subst hg; rw [hr.only.same]; exact ⟨rfl, rfl⟩
    · rw [hr.only.others g hg]; exact ⟨rfl, rfl⟩
  rw [hhead.1, hhead.2] at hgq
  by_cases e : (g, q) = (h, p)
  · obtain ⟨rfl, rfl⟩ := Prod.mk.inj e
    exact hp hgq (ok g q hgq)
  · rw [hr.other e]; exact ok g q hgq

theorem Reselects.set (s : State) (h : HeadId) (p : Position) (v : Selection) :
    Reselects h p s (s.setSelection h p v) :=
  ⟨s.setSelection_selection h p v, fun _ hq => s.selectionAt_setSelection_other h v hq⟩

/-- A window's selection state is set after any taking of a reference, and the reference it had is released. -/
theorem Reselects.of_exchange {h : HeadId} {p : Position} {s u : State} (v : Selection) (x : Option SlotId)
    (hu : OnlyChanges [.pool] s u) : Reselects h p s ((u.setSelection h p v).releaseOpt x) ∧
    ((u.setSelection h p v).releaseOpt x).selectionAt h p = v := by
  have hsel : ∀ q, u.selectionAt h q = s.selectionAt h q := fun q =>
    State.selectionAt_of_head (State.head_of_only hu (by decide) h) q
  refine ⟨⟨((OnlySelection.of_only hu (by decide)).trans (u.setSelection_selection h p v)).trans
    (State.releaseOpt_selection _ h x), fun q hq => ?_⟩, ?_⟩
  · rw [State.selectionAt_releaseOpt, State.selectionAt_setSelection_other _ _ _ hq, hsel]
  · rw [State.selectionAt_releaseOpt, State.selectionAt_setSelection_same]

theorem State.releaseOpt_pins (s : State) (x : Option SlotId) : (s.releaseOpt x).pool.pins = s.pool.pins := by
  cases x with
  | none => rfl
  | some i => exact (s.releaseRef_pool i).2.1

theorem State.takeRef_pins (s : State) (i : SlotId) : (s.takeRef i).pool.pins = s.pool.pins := by
  unfold State.takeRef
  split <;> rfl

theorem Carries.reselect {f : Prop} {h : HeadId} {p : Position} {s u : State} {v : Selection}
    (hu : OnlyChanges [.pool] s u) (hpins : u.pool.pins = s.pool.pins)
    (htake : ∀ w, Shift s u w w s.holdCount fun j => s.holdCount j + [v.slot].count (some j))
    (hcleared : (s.head h).state = .off ∨ (s.head h).activeScene[p] = none → s.selectionAt h p = .cleared → v = .cleared)
    (hnamed : ∀ c, v.current = some c → s.identityIn c.slot = some (c.source, c.number) ∧ v.lastShown = some c.number) :
    Carries f s ((u.setSelection h p v).releaseOpt (s.selectionAt h p).slot) := by
  obtain ⟨hr, hv⟩ := Reselects.of_exchange (h := h) (p := p) v (s.selectionAt h p).slot hu
  have hport : OnlyChanges [.pool, .heads] s ((u.setSelection h p v).releaseOpt (s.selectionAt h p).slot) :=
    ((hu.weaken (by decide)).trans ((State.modHead_only u h _).weaken (by decide))).trans
      ((State.releaseOpt_only _ _).weaken (by decide))
  have hpin : ((u.setSelection h p v).releaseOpt (s.selectionAt h p).slot).pool.pins = s.pool.pins :=
    (State.releaseOpt_pins _ _).trans hpins
  generalize ht : (u.setSelection h p v).releaseOpt (s.selectionAt h p).slot = t at hr hv hport hpin ⊢
  have hsame : ∀ q, t.port q = s.port q := State.port_of_only hport (by decide)
  have hwriters : t.writers = s.writers := (SameWriters.of_only hport (by decide)).writers
  have hshift : Shift s t s.writers t.writers s.holdCount t.holdCount := by
    rw [hwriters]
    refine .exchange (v := u.setSelection h p v) (htake _) ⟨rfl, rfl, rfl⟩ ht.symm fun j => ?_
    rw [← hv]
    exact State.holdCount_window (fun k => congrArg (Option.map PinEntry.slot) (State.pin_of_pins hpin k))
      (fun g q hgq => congrArg Selection.slot (hr.other hgq)) j
  refine .of_shift hshift (depthsOk_of_lists hshift.lists fun q => by rw [hsame]) (hr.clearedOk fun ho hc => ?_)
    (fun _ q => by rw [hsame]; exact .of_same rfl rfl) fun hn => ⟨fun k e he => ?_, fun g q c hc => ?_⟩
  · rw [hv]; exact hcleared ho hc
  · rw [State.pin_of_pins hpin] at he; exact hn.pins k e he
  · by_cases hgq : (g, q) = (h, p)
    · obtain ⟨rfl, rfl⟩ := Prod.mk.inj hgq
      rw [hv] at hc ⊢
      exact hnamed c hc
    · rw [hr.other hgq] at hc ⊢
      exact hn.windows g q c hc

/-- A window gives up the slot that it holds, and takes no other. -/
theorem Carries.drop {f : Prop} {h : HeadId} {p : Position} {s : State} {v : Selection} (hnone : v.current = none)
    (hcleared : s.selectionAt h p = .cleared → v = .cleared) :
    Carries f s ((s.setSelection h p v).releaseOpt (s.selectionAt h p).slot) := by
  have hslot : v.slot = none := by unfold Selection.slot; rw [hnone]; rfl
  refine .reselect (.refl _ s) rfl (fun w => ?_) (fun _ => hcleared) fun c hc => by rw [hnone] at hc; cases hc
  rw [hslot]
  exact .of_pool rfl

theorem State.giveUpFrame_carries (f : Prop) (s : State) (h : HeadId) (p : Position) :
    Carries f s (s.giveUpFrame h p) := .drop rfl fun hc => by rw [hc]; rfl

theorem State.clearPosition_carries (f : Prop) (h : HeadId) (s : State) (p : Position) :
    Carries f s (State.clearPosition h s p) := .drop rfl fun _ => rfl

theorem State.swapPosition_carries (f : Prop) (h : HeadId) (s : State) (p : Position) :
    Carries f s (State.swapPosition h s p) := by
  unfold State.swapPosition
  split
  · exact .refl f s
  · exact .drop rfl fun _ => rfl

theorem State.currentFrameOf_eq_some {s : State} {i : SlotId} {c : CurrentFrame} (h : s.currentFrameOf i = some c) :
    c.slot = i ∧ s.identityIn i = some (c.source, c.number) ∧ s.frameNumberOf i = some c.number := by
  unfold State.currentFrameOf at h
  obtain ⟨f, hf, rfl⟩ := Option.map_eq_some_iff.1 h
  unfold State.identityIn State.frameNumberOf
  rw [hf]
  exact ⟨rfl, rfl, rfl⟩

theorem State.adoptFrame_carries (f : Prop) {s : State} {h : HeadId} {p : Position} (i : SlotId)
    (hon : (s.head h).state ≠ .off) (hactive : (s.head h).activeScene[p] ≠ none) :
    Carries f s (s.adoptFrame h p i) := by
  refine .reselect (s.takeRef_only i) (s.takeRef_pins i) (fun w => .takeRef s i fun _ => rfl)
    (fun ho => (ho.elim hon hactive).elim) fun c hc => ?_
  obtain ⟨rfl, hidentity, hnumber⟩ := State.currentFrameOf_eq_some hc
  exact ⟨hidentity, hnumber⟩

theorem State.repeatFrame_carries (f : Prop) {s : State} {h : HeadId} {p : Position}
    (hon : (s.head h).state ≠ .off) (hactive : (s.head h).activeScene[p] ≠ none) :
    Carries f s (s.repeatFrame h p) := by
  have hr := Reselects.set s h p { s.selectionAt h p with repeats := (s.selectionAt h p).repeats + 1 }
  have hv := s.selectionAt_setSelection_same h p { s.selectionAt h p with repeats := (s.selectionAt h p).repeats + 1 }
  have hsame : ∀ g q, ((s.repeatFrame h p).selectionAt g q).slot = (s.selectionAt g q).slot ∧
      ((s.repeatFrame h p).selectionAt g q).current = (s.selectionAt g q).current ∧
      ((s.repeatFrame h p).selectionAt g q).lastShown = (s.selectionAt g q).lastShown := fun g q => by
    unfold State.repeatFrame
    by_cases hgq : (g, q) = (h, p)
    · obtain ⟨rfl, rfl⟩ := Prod.mk.inj hgq
      rw [hv]; exact ⟨rfl, rfl, rfl⟩
    · rw [hr.other hgq]; exact ⟨rfl, rfl, rfl⟩
  have hcount : (s.repeatFrame h p).holdCount = s.holdCount :=
    State.holdCount_of_same (fun _ => rfl) fun g q => (hsame g q).1
  refine .of_shift (by rw [hcount]; exact .of_pool rfl) id (hr.clearedOk fun ho => (ho.elim hon hactive).elim)
    (fun _ _ => .of_same rfl rfl) fun hn => ⟨hn.pins, fun g q c hc => ?_⟩
  rw [(hsame g q).2.1] at hc
  rw [(hsame g q).2.2]
  exact hn.windows g q c hc

/-! ### One pin comes to hold another slot -/

theorem Carries.repin {f : Prop} {i : PinId} {s u : State} {e : Option PinEntry} (hu : OnlyChanges [.pool] s u)
    (hpins : u.pool.pins = s.pool.pins)
    (htake : ∀ w, Shift s u w w s.holdCount fun j => s.holdCount j + [e.map PinEntry.slot].count (some j))
    (hnamed : ∀ x, e = some x → s.identityIn x.slot = some (x.source, x.number)) :
    Carries f s ((u.setPin i e).releaseOpt (s.pinSlot i)) := by
  have honly : OnlyChanges [.pool] s ((u.setPin i e).releaseOpt (s.pinSlot i)) :=
    (hu.trans (State.setPin_only u i e)).trans (State.releaseOpt_only _ _)
  have hpin : ((u.setPin i e).releaseOpt (s.pinSlot i)).pool.pins = (u.setPin i e).pool.pins :=
    State.releaseOpt_pins _ _
  generalize ht : (u.setPin i e).releaseOpt (s.pinSlot i) = t at honly hpin ⊢
  have hsame : ∀ q, t.port q = s.port q := State.port_of_only honly (by decide)
  have hwriters : t.writers = s.writers := (SameWriters.of_only honly (by decide)).writers
  have hwindows : SameWindows s t := .of_only honly (by decide)
  have hset : t.pin i = e := by
    rw [State.pin_of_pins hpin]; exact State.pin_setPin_same ..
  have hother : ∀ k, k ≠ i → t.pin k = s.pin k := fun k hk => by
    rw [State.pin_of_pins hpin, State.pin_setPin_other _ _ hk, State.pin_of_pins hpins]
  have hshift : Shift s t s.writers t.writers s.holdCount t.holdCount := by
    rw [hwriters]
    refine .exchange (v := u.setPin i e) (htake _) ⟨rfl, rfl, rfl⟩ ht.symm fun j => ?_
    rw [← hset]
    exact State.holdCount_pin (fun k hk => congrArg (Option.map PinEntry.slot) (hother k hk))
      (fun g q => congrArg Selection.slot (hwindows.selectionAt g q)) j
  refine .of_shift hshift (depthsOk_of_lists hshift.lists fun q => by rw [hsame]) hwindows.clearedOk
    (fun _ q => by rw [hsame]; exact .of_same rfl rfl) fun hn => ⟨fun k x hx => ?_, fun g q c hc => ?_⟩
  · by_cases hk : k = i
    · subst hk; exact hnamed x (hset ▸ hx)
    · rw [hother k hk] at hx; exact hn.pins k x hx
  · rw [hwindows.selectionAt] at hc ⊢
    exact hn.windows g q c hc

theorem State.emptyPin_carries (f : Prop) (s : State) (i : PinId) : Carries f s (s.emptyPin i) :=
  .repin (.refl _ s) rfl (fun _ => .of_pool rfl) nofun

/-- R22: the frame that PIN_TAKE takes is the newest of a ready list. -/
theorem State.movePin_carries (f : Prop) {s : State} (i : PinId) {p : PortId} {j : SlotId}
    (hlast : (s.readyList p).getLast? = some j) : Carries f s (s.movePin i (s.pinEntryOf p j)) :=
  .of_poolOk fun ok => by
    obtain ⟨g, hg, -⟩ := (poolOk_iff.1 ok).1.ready_frame (List.mem_of_getLast? hlast)
    have hentry : s.pinEntryOf p j = ⟨j, g.source, g.number⟩ := by
      unfold State.pinEntryOf; rw [hg]; rfl
    have hheld : s.heldAt j = some j := s.heldAt_of_frame (f := g) (by rw [hg]; rfl)
    rw [hentry]
    refine .repin (s.takeRef_only j) (s.takeRef_pins j) (fun w => .takeRef s j fun k => ?_) fun x hx => ?_
    · rw [hheld]; rfl
    · obtain rfl := Option.some.inj hx
      unfold State.identityIn
      rw [hg]
      rfl

end Sys2Proof.Machine
end

section
/-! The invariants of the store through fills, swaps, selection and the switching of heads (R6, R11, R46, R86, R96). -/

namespace Sys2Proof.Machine

/-! ### Completion of a fill (R6, R41) -/

section
variable {s : State} {p : PortId} {i : SlotId} {g : Geometry}

theorem State.completed_slot_same (s : State) (p : PortId) (i : SlotId) (n : FrameNumber) (g : Geometry) :
    (s.completed p i n g).slot i = .ready ⟨p, n, g, 0, false⟩ := s.slot_setSlot_same i _

theorem State.completed_slot_other (s : State) (p : PortId) {i j : SlotId} (n : FrameNumber) (g : Geometry)
    (hj : j ≠ i) : (s.completed p i n g).slot j = s.slot j := s.slot_setSlot_other _ hj

theorem State.completed_list_other (s : State) {p q : PortId} (i : SlotId) (n : FrameNumber) (g : Geometry)
    (hq : q ≠ p) : (s.completed p i n g).readyList q = s.readyList q :=
  (s.setSlot i _).readyList_setReady_other _ hq

theorem Fits.not_listed {w : PortId → Option SlotId} (fits : Fits s w) (hslot : s.slot i = .filling p g) (q : PortId) :
    i ∉ s.readyList q := fun hmem => by
  have := (fits.ready q i).1 hmem
  rw [hslot] at this
  cases this

theorem Fits.completed {w : PortId → Option SlotId} (fits : Fits s w) (hslot : s.slot i = .filling p g)
    (hw : w p = some i) (n : FrameNumber) : Fits (s.completed p i n g) (writerOf w p none) := by
  have hother : ∀ j, j ≠ i → (s.completed p i n g).slot j = s.slot j := fun _ hj => s.completed_slot_other p n g hj
  have hsame := s.completed_slot_same p i n g
  have hlist := s.completed_readyList p i n g
  have hlist_other : ∀ q, q ≠ p → (s.completed p i n g).readyList q = s.readyList q :=
    fun _ hq => s.completed_list_other i n g hq
  refine fits.setOne i hother fits.nodup (fun q => ?_) (fun j hj => ⟨Iff.rfl, fun q => ?_, ?_⟩) ?_ (fun q => ?_) fun q => ?_
  · by_cases hq : q = p
    · subst hq
      rw [hlist, ← List.concat_eq_append]
      exact (fits.listNodup q).concat (fits.not_listed hslot q)
    · rw [hlist_other q hq]; exact fits.listNodup q
  · by_cases hq : q = p
    · subst hq; rw [hlist, List.mem_append, List.mem_singleton]; simp [hj]
    · rw [hlist_other q hq]
  · exact writerOf_iff hw (by simpa using Ne.symm hj) nofun
  · rw [hsame]
    refine ⟨fun hi => ?_, nofun⟩
    have := (fits.free i).1 hi
    rw [hslot] at this
    cases this
  · rw [hsame]
    by_cases hq : q = p
    · subst hq; rw [hlist]; simp [Slot.readySource]
    · rw [hlist_other q hq]
      refine ⟨fun hi => absurd hi (fits.not_listed hslot q), fun e => absurd (Option.some.inj e).symm hq⟩
  · rw [hsame]
    exact ⟨fun e => absurd e (writerOf_none fits hw q), nofun⟩

theorem RefsFit.completed {c : SlotId → Nat} (refs : RefsFit s c) (hslot : s.slot i = .filling p g) (n : FrameNumber) :
    RefsFit (s.completed p i n g) c := by
  refine refs.setOne i (fun _ hj => s.completed_slot_other p n g hj) (fun _ _ => rfl) ?_ fun f hf => ?_
  · rw [s.completed_slot_same p i n g, ← refs.count i, hslot]; rfl
  · rw [s.completed_slot_same p i n g] at hf; cases hf

theorem State.completed_identity (s : State) (p : PortId) {i j : SlotId} (n : FrameNumber) (g : Geometry) (hj : j ≠ i) :
    (s.completed p i n g).identityIn j = s.identityIn j := by
  unfold State.identityIn; rw [s.completed_slot_other p n g hj]

/-- R6: the frame that a fill completes is the newest of its list. -/
theorem OrderOk.completed (ok : OrderOk s) (hnot : ∀ q, i ∉ s.readyList q) {stage : FillStage} {n : FrameNumber}
    (hwriter : (s.port p).writer = .filling stage i n) :
    (∀ q, ((s.completed p i n g).readyList q).Pairwise fun a b =>
      (s.completed p i n g).numberIn a < (s.completed p i n g).numberIn b) ∧
    (∀ q, ∀ a ∈ (s.completed p i n g).readyList q,
      (s.completed p i n g).numberIn a ≤ (s.port q).frameNumber.toNat) := by
  have hfill : n = (s.port p).frameNumber ∧ ∀ a ∈ s.readyList p, s.numberIn a < (s.port p).frameNumber.toNat := by
    rcases ok.filling p with h | ⟨h, hlt⟩
    · rw [hwriter] at h; cases h
    · rw [hwriter] at h; exact ⟨Option.some.inj h, hlt⟩
  have hnew : (s.completed p i n g).numberIn i = (s.port p).frameNumber.toNat := by
    unfold State.numberIn; rw [s.completed_slot_same p i n g, ← hfill.1]; rfl
  have hold : ∀ q, ∀ a ∈ s.readyList q, (s.completed p i n g).numberIn a = s.numberIn a := fun q a ha =>
    State.numberIn_of_identity (s.completed_identity p n g fun e => hnot q (e ▸ ha))
  have holdRises : ∀ q, (s.readyList q).Pairwise fun a b =>
      (s.completed p i n g).numberIn a < (s.completed p i n g).numberIn b := fun q =>
    (ok.rises q).imp_of_mem fun {a b} ha hb hlt => by rw [hold q a ha, hold q b hb]; exact hlt
  refine ⟨fun q => ?_, fun q a ha => ?_⟩
  · by_cases hq : q = p
    · subst hq
      rw [State.completed_readyList, List.pairwise_append]
      refine ⟨holdRises q, List.pairwise_singleton _ _, fun a ha b hb => ?_⟩
      rw [List.mem_singleton.1 hb, hnew, hold q a ha]
      exact hfill.2 a ha
    · rw [s.completed_list_other i n g hq]; exact holdRises q
  · by_cases hq : q = p
    · subst hq
      rw [State.completed_readyList] at ha
      rcases List.mem_append.1 ha with ha | ha
      · rw [hold q a ha]; exact ok.below q a ha
      · rw [List.mem_singleton.1 ha, hnew]
    · rw [s.completed_list_other i n g hq] at ha
      rw [hold q a ha]; exact ok.below q a ha

end

/-- The ready list is within its hold depth once the surplus is evicted. -/
theorem State.evictSurplus_length (s : State) (p : PortId) :
    ((s.evictSurplus p).readyList p).length ≤ ((s.evictSurplus p).port p).depth := by
  have hdepth : ((s.evictSurplus p).port p).depth = (s.port p).depth := by rw [s.evictSurplus_writer p p]
  have hlist : (s.evictSurplus p).readyList p = (s.readyList p).drop ((s.readyList p).length - (s.port p).depth) :=
    (State.evict_lists _ p s).1
  rw [hdepth, hlist, List.length_drop]
  omega

theorem depthsOk_evictSurplus {s : State} {p : PortId} (hdepth : 1 ≤ (s.port p).depth ∧ (s.port p).depth ≤ 4)
    (hothers : ∀ q, q ≠ p → (s.readyList q).length ≤ (s.port q).depth ∧ 1 ≤ (s.port q).depth ∧ (s.port q).depth ≤ 4) :
    DepthsOk (s.evictSurplus p) := fun q => by
  have hsame : ((s.evictSurplus p).port q).depth = (s.port q).depth := by rw [s.evictSurplus_writer p q]
  by_cases hq : q = p
  · subst hq
    refine ⟨s.evictSurplus_length q, ?_⟩
    rw [hsame]; exact hdepth
  · rw [hsame]
    refine ⟨?_, (hothers q hq).2⟩
    have hlist : (s.evictSurplus p).readyList q = s.readyList q := (State.evict_lists _ p s).2 q hq
    rw [hlist]
    exact (hothers q hq).1

theorem State.completed_sameWriters (s : State) (p : PortId) (i : SlotId) (n : FrameNumber) (g : Geometry) :
    SameWriters s (s.completed p i n g) := by
  unfold State.completed
  exact ((SameWriters.of_only (s.setSlot_only _ _) (by decide)).trans (.of_only (State.setReady_only _ _ _) (by decide))).trans
    (.modPort _ p _)

section
variable {s : State} {p : PortId} {stage : FillStage} {i : SlotId} {n : FrameNumber} {g : Geometry}

/-- R6, R41: behind the completed frame the surplus is evicted, and the port's writer fills nothing. -/
theorem State.completeFill_pool (hslot : s.slot i = .filling p g) (n : FrameNumber) :
    (s.completeFill p i n).pool = ((s.completed p i n g).evictSurplus p).pool ∧
    (s.completeFill p i n).writers = writerOf s.writers p none := by
  have hsame : ((s.completed p i n g).evictSurplus p).writers = s.writers :=
    ((s.completed_sameWriters p i n g).trans (State.evict_sameWriters _ p _)).writers
  unfold State.completeFill
  rw [State.complete_of_filling hslot, State.writers_modPort, hsame]
  exact ⟨rfl, rfl⟩

theorem Moves.completeFill (hslot : s.slot i = .filling p g) (n : FrameNumber) :
    Moves (s.completed p i n g) (s.completeFill p i n) (writerOf s.writers p none) (s.completeFill p i n).writers := by
  obtain ⟨hpool, hwriters⟩ := State.completeFill_pool hslot n
  rw [hwriters]
  exact (Moves.evict _ _ p _).then_pool hpool

theorem State.completeFill_windows (s : State) (p : PortId) (i : SlotId) (n : FrameNumber) :
    SameWindows s (s.completeFill p i n) := .of_only (s.completeFill_only p i n) (by decide)

theorem State.pin_completeFill (hslot : s.slot i = .filling p g) (n : FrameNumber) (k : PinId) :
    (s.completeFill p i n).pin k = s.pin k := State.pin_of_pins ((Moves.completeFill hslot n).pins.trans rfl) k

theorem State.holdCount_completeFill (hslot : s.slot i = .filling p g) (n : FrameNumber) :
    (s.completeFill p i n).holdCount = s.holdCount :=
  State.holdCount_of_same (fun k => congrArg (Option.map PinEntry.slot) (State.pin_completeFill hslot n k)) fun h q =>
    congrArg Selection.slot ((s.completeFill_windows p i n).selectionAt h q)

theorem State.completed_port_other (s : State) {p q : PortId} (i : SlotId) (n : FrameNumber) (g : Geometry)
    (hq : q ≠ p) : (s.completed p i n g).port q = s.port q := State.port_modPort_other _ _ hq

theorem completeFill_depthsOk (hslot : s.slot i = .filling p g) (n : FrameNumber) (ok : DepthsOk s) :
    DepthsOk (s.completeFill p i n) := by
  have hcompleted := s.completed_port p i n g
  have hevicted : DepthsOk ((s.completed p i n g).evictSurplus p) := by
    refine depthsOk_evictSurplus (by rw [hcompleted]; exact (ok p).2) fun q hq => ?_
    rw [s.completed_list_other i n g hq, s.completed_port_other i n g hq]
    exact ok q
  refine depthsOk_of_lists (fun q => ?_) (fun q => ?_) hevicted
  · rw [show (s.completeFill p i n).readyList q = ((s.completed p i n g).evictSurplus p).readyList q from
      congrArg (fun v : Pool => v.ready[q]) (State.completeFill_pool hslot n).1]
  · rw [s.completeFill_writer p i n q, (s.completed p i n g).evictSurplus_writer p q]
    by_cases hq : q = p
    · subst hq; rw [hcompleted]
    · rw [s.completed_port_other i n g hq]

/-- The frames of the ready lists, the completed one apart, are those of before; so are the frames that are held. -/
theorem completeFill_keeps (fits : Fits s s.writers) (refs : RefsFit s s.holdCount) (hslot : s.slot i = .filling p g)
    (hw : s.writers p = some i) (n : FrameNumber) :
    KeepsFrames (s.completed p i n g) (s.completeFill p i n) s.holdCount :=
  ((Moves.completeFill hslot n).shift s.holdCount).keeps (fits.completed hslot hw n) (refs.completed hslot n)

theorem completeFill_orderOk (fits : Fits s s.writers) (refs : RefsFit s s.holdCount) (ok : OrderOk s)
    (hslot : s.slot i = .filling p g) (hwriter : (s.port p).writer = .filling stage i n) :
    OrderOk (s.completeFill p i n) := by
  have hw : s.writers p = some i := by unfold State.writers; rw [hwriter]; rfl
  have hkeeps := completeFill_keeps fits refs hslot hw n
  have hlists := ((Moves.completeFill hslot n).shift s.holdCount).lists
  have hnumber : ∀ q, ∀ a ∈ (s.completeFill p i n).readyList q,
      (s.completeFill p i n).numberIn a = (s.completed p i n g).numberIn a := fun q a ha =>
    State.numberIn_of_identity (hkeeps a (.inl ⟨q, ha⟩))
  have hframe : ∀ q, ((s.completeFill p i n).port q).frameNumber = (s.port q).frameNumber := fun q => by
    rw [s.completeFill_writer p i n q]
  obtain ⟨hrises, hbelow⟩ := ok.completed (g := g) (fits.not_listed hslot) hwriter
  refine ⟨fun q => ?_, fun q a ha => ?_, fun q => ?_⟩
  · refine ((hrises q).sublist (hlists q)).imp_of_mem fun {a b} ha hb hlt => ?_
    rw [hnumber q a ha, hnumber q b hb]; exact hlt
  · rw [hnumber q a ha, hframe]; exact hbelow q a ((hlists q).subset ha)
  · by_cases hq : q = p
    · subst hq
      refine .inl ?_
      unfold State.completeFill
      rw [State.port_modPort_same]
      rfl
    · rw [s.completeFill_others p i n q hq]
      refine (ok.filling q).imp_right fun ⟨hnum, hlt⟩ => ⟨hnum, fun a ha => ?_⟩
      have ha' := (hlists q).subset ha
      rw [s.completed_list_other i n g hq] at ha'
      rw [hnumber q a ha, State.numberIn_of_identity (s.completed_identity (i := i) (j := a) p n g fun e =>
        fits.not_listed hslot q (e ▸ ha'))]
      exact hlt a ha'

theorem completeFill_named (fits : Fits s s.writers) (refs : RefsFit s s.holdCount) (ok : Named s s)
    (hslot : s.slot i = .filling p g) (hw : s.writers p = some i) (n : FrameNumber) :
    Named (s.completeFill p i n) (s.completeFill p i n) := by
  have hwindows := s.completeFill_windows p i n
  have hheld : ∀ j, 1 ≤ s.holdCount j → (s.completeFill p i n).identityIn j = s.identityIn j := fun j hj => by
    refine (completeFill_keeps fits refs hslot hw n j (.inr hj)).trans (s.completed_identity p n g fun e => ?_)
    have hzero := refs.count i
    rw [hslot] at hzero
    rw [e, ← hzero] at hj
    cases hj
  refine ⟨fun k e he => ?_, fun h q c hc => ?_⟩
  · rw [State.pin_completeFill hslot n k] at he
    rw [hheld _ (State.holdCount_of_pin (k := k) (by unfold State.pinSlot; rw [he]; rfl))]
    exact ok.pins k e he
  · rw [hwindows.selectionAt] at hc ⊢
    rw [hheld _ (State.holdCount_of_window (h := h) (p := q) (by unfold Selection.slot; rw [hc]; rfl))]
    exact ok.windows h q c hc

/-- R41: a completed fill joins its ready list, the surplus is evicted, and the writer is ARMED. -/
theorem State.completeFill_carries (f : Prop) (hwriter : (s.port p).writer = .filling stage i n) :
    Carries f s (s.completeFill p i n) := by
  have hw : s.writers p = some i := by unfold State.writers; rw [hwriter]; rfl
  refine ⟨fun ok => ?_, fun ok hr => ?_, fun _ ok hr hn => ?_⟩
  all_goals
    obtain ⟨fits, hdepths⟩ := poolOk_iff.1 ok
    obtain ⟨g, hg⟩ := fits.filling_slot hw
  · exact poolOk_iff.2 ⟨((Moves.completeFill hg n).shift fun _ => 0).fits (fits.completed hg hw n),
      completeFill_depthsOk hg n hdepths⟩
  · obtain ⟨refs, hcleared⟩ := referencesOk_iff.1 hr
    refine referencesOk_iff.2 ⟨?_, (s.completeFill_windows p i n).clearedOk hcleared⟩
    rw [State.holdCount_completeFill hg n]
    exact ((Moves.completeFill hg n).shift _).refs (fits.completed hg hw n) (refs.completed hg n)
  · obtain ⟨refs, -⟩ := referencesOk_iff.1 hr
    obtain ⟨horder, hnamed⟩ := numbersOk_iff.1 hn
    exact numbersOk_iff.2 ⟨completeFill_orderOk fits refs horder hg hwriter,
      completeFill_named fits refs hnamed hg hw n⟩

end

theorem State.takeFillEnd_carries (f : Prop) (s : State) (p : PortId) (px : List Byte) :
    Carries f s (s.takeFillEnd p px) := by
  have hpixels : ∀ i stage, Carries f s (s.writePixels i stage px) := fun i stage =>
    .of_only (s.writePixels_only i stage px) (by decide)
  have hwriter : ∀ i stage, ((s.writePixels i stage px).port p).writer = (s.port p).writer := fun i stage =>
    congrArg Port.writer (State.port_of_only (s.writePixels_only i stage px) (by decide) p)
  unfold State.takeFillEnd
  split
  · rename_i i n e
    exact (hpixels i _).trans (State.completeFill_carries f ((hwriter i _).trans e))
  · rename_i i n e
    refine (hpixels i _).trans (.of_moved (.modPort f _ p rfl ?_ fun _ => .inl ⟨rfl, .inr ?_⟩)
      (.of_only (State.modPort_only _ _ _) (by decide)))
    · rw [hwriter, e]; rfl
    · rw [hwriter, e]; rfl
  · rename_i i n e
    exact (hpixels i _).trans (State.completeFill_carries f ((hwriter i _).trans e))
  all_goals exact .refl f s

/-! ### Depth, flush and reset of a port (R8, R11, R46) -/

theorem State.setDepth_carries (f : Prop) (s : State) (p : PortId) {k : Nat} (h₁ : 1 ≤ k) (h₂ : k ≤ 4) :
    Carries f s ((s.modPort p fun q => { q with depth := k }).evictSurplus p) := by
  have hset : ((s.modPort p fun q => { q with depth := k }).port p).depth = k := by rw [State.port_modPort_same]
  have hother : ∀ q, q ≠ p → (s.modPort p fun q => { q with depth := k }).port q = s.port q :=
    fun _ hq => State.port_modPort_other _ _ hq
  have hnumber : ∀ q, ((s.modPort p fun q => { q with depth := k }).port q).frameNumber = (s.port q).frameNumber :=
    fun q => by
      by_cases hq : q = p
      · subst hq; rw [State.port_modPort_same]
      · rw [hother q hq]
  have hwriters : SameWriters s (s.modPort p fun q => { q with depth := k }) := .modPort s p _
  have hlist : ∀ q, (s.modPort p fun q => { q with depth := k }).readyList q = s.readyList q := fun _ => rfl
  have hpool : (s.modPort p fun q => { q with depth := k }).pool = s.pool := rfl
  have hheads : ∀ g, (s.modPort p fun q => { q with depth := k }).head g = s.head g := fun _ => rfl
  generalize s.modPort p (fun q => { q with depth := k }) = u at *
  have hsame : SameWriters s (u.evictSurplus p) := hwriters.trans (State.evict_sameWriters _ p u)
  have hwindows : SameWindows s (u.evictSurplus p) :=
    (SameWindows.of_heads hheads).trans (.of_only (u.evictSurplus_only p) (by decide))
  refine .of_holders ?_ (fun hd => ?_) (fun _ q => ?_) hwindows.selectionAt hwindows.clearedOk
  · rw [hsame.writers]
    exact (Moves.of_pool hpool).trans (.evict _ u p _)
  · refine depthsOk_evictSurplus (by rw [hset]; exact ⟨h₁, h₂⟩) fun q hq => ?_
    rw [hlist, hother q hq]; exact hd q
  · refine .of_same ?_ (hsame q)
    rw [u.evictSurplus_writer p q, ← hnumber q]

theorem State.flush_list (s : State) (p : PortId) : (s.flush p).readyList p = [] := by
  have hfold : ∀ (l : List SlotId) (u : State), (l.foldl State.retireSlot u).readyList p = u.readyList p := fun l => by
    induction l with
    | nil => exact fun _ => rfl
    | cons i l ih => exact fun u => (ih _).trans (u.readyList_retireSlot i p)
  exact (hfold _ _).trans (s.readyList_setReady_same p [])

theorem State.resetPort_carries (f : Prop) (s : State) (p : PortId) : Carries f s (s.resetPort p) := by
  have hcapture : Moved f s (s.captureOff p) := s.captureOff_moved f p
  have hreset : Moved f ((s.captureOff p).flush p) (((s.captureOff p).flush p).resetDetector p) :=
    State.resetDetector_moved f _ p
  have hmoved := (hcapture.trans (State.flush_moved f _ p)).trans hreset
  have hlist : (((s.captureOff p).flush p).resetDetector p).readyList p = [] := by
    have := (hreset.moves.shift fun _ => 0).lists p
    rw [State.flush_list] at this
    exact List.sublist_nil.1 this
  have hwindows : SameWindows s (((s.captureOff p).flush p).resetDetector p) := .of_lossArises (s.resetPort_head p)
  refine (Carries.of_moved hmoved hwindows).trans ?_
  unfold State.resetPort
  generalize ((s.captureOff p).flush p).resetDetector p = u at hlist ⊢
  have hmod : SameWindows u (u.modPort p fun q => { q with starved := false, depth := 2, counters := .zero }) :=
    .of_only (u.modPort_only p _) (by decide)
  refine .of_holders ?_ (fun hd q => ?_) (fun _ q => ?_) hmod.selectionAt hmod.clearedOk
  · rw [(SameWriters.modPort u p fun q => { q with starved := false, depth := 2, counters := .zero }).writers]
    exact .of_pool rfl
  · by_cases hq : q = p
    · subst hq
      rw [State.port_modPort_same, State.readyList_of_only (u.modPort_only q _) (by decide), hlist]
      exact ⟨Nat.zero_le _, Nat.le_succ 1, Nat.le_add_right 2 2⟩
    · rw [State.port_modPort_other _ _ hq]; exact hd q
  · by_cases hq : q = p
    · subst hq; rw [State.port_modPort_same]; exact .of_same rfl rfl
    · rw [State.port_modPort_other _ _ hq]; exact .of_same rfl rfl

/-! ### Selection (R96) -/

theorem State.selectWindow_carries (f : Prop) {s : State} {h : HeadId} {p : Position} (r : WindowRecord)
    (hon : (s.head h).state ≠ .off) (hactive : (s.head h).activeScene[p] ≠ none) :
    Carries f s (s.selectWindow h p r) := by
  rcases s.selectWindow_cases h p r with e | e | ⟨-, e⟩ | ⟨i, -, -, e⟩ | ⟨k, x, -, e⟩
  · rw [e]; exact .refl f s
  · rw [e]; exact s.giveUpFrame_carries f h p
  · rw [e]; exact State.repeatFrame_carries f hon hactive
  · rw [e]; exact State.adoptFrame_carries f i hon hactive
  · rw [e]; exact State.adoptFrame_carries f x.slot hon hactive

theorem State.selectPosition_carries (f : Prop) {h : HeadId} {s : State} (p : Position)
    (hon : (s.head h).state ≠ .off) : Carries f s (State.selectPosition h s p) := by
  unfold State.selectPosition
  split
  · rename_i r hactive
    exact State.selectWindow_carries f r hon (by rw [hactive]; exact Option.some_ne_none r)
  · exact .refl f s

theorem State.selectAll_carries (f : Prop) {h : HeadId} {s : State} (hon : (s.head h).state ≠ .off) :
    Carries f s (s.selectAll h) := by
  have hfold : ∀ (ps : List Position) (u : State), (u.head h).state ≠ .off →
      Carries f u (ps.foldl (State.selectPosition h) u) := fun ps => by
    induction ps with
    | nil => exact fun u _ => .refl f u
    | cons p ps ih =>
      intro u hu
      refine (State.selectPosition_carries f p hu).trans (ih _ ?_)
      rw [(State.selectPosition_selection h u p).same]
      exact hu
  exact hfold positions s hon

/-! ### The swap (R86, R87) -/

theorem Carries.foldl {f : Prop} {α : Type} (step : State → α → State) (hstep : ∀ s a, Carries f s (step s a))
    (as : List α) : ∀ s, Carries f s (as.foldl step s) := by
  induction as with
  | nil => exact fun s => .refl f s
  | cons a as ih => exact fun s => (hstep s a).trans (ih _)

/-- The position keeps its selection state through a swap of head `h`. -/
def State.continues (s : State) (h : HeadId) (p : Position) : Bool :=
  keepsContinuity (s.head h).activeScene[p] (s.head h).pendingScene[p]

theorem OnlySelection.continues {h : HeadId} {s t : State} (hs : OnlySelection h s t) (p : Position) :
    t.continues h p = s.continues h p := by
  unfold State.continues; rw [hs.same]

theorem State.swapPosition_selectionAt (h : HeadId) (s : State) (a p : Position) :
    (State.swapPosition h s a).selectionAt h p =
      if p = a ∧ s.continues h p = false then .cleared else s.selectionAt h p := by
  by_cases hkeep : s.continues h a = true
  · have hsame : State.swapPosition h s a = s := if_pos hkeep
    rw [hsame, if_neg]
    rintro ⟨rfl, hnot⟩
    rw [hkeep] at hnot
    cases hnot
  · have hclear : State.swapPosition h s a =
        (s.setSelection h a .cleared).releaseOpt ((s.selectionAt h a).current.map CurrentFrame.slot) := if_neg hkeep
    rw [hclear, State.selectionAt_releaseOpt]
    by_cases hp : p = a
    · subst hp
      rw [State.selectionAt_setSelection_same, if_pos ⟨rfl, Bool.eq_false_iff.2 hkeep⟩]
    · rw [State.selectionAt_setSelection_other _ _ _ hp, if_neg fun e => hp e.1]

theorem State.swapPositions_selectionAt (h : HeadId) (p : Position) (ps : List Position) : ∀ s : State,
    (ps.foldl (State.swapPosition h) s).selectionAt h p =
      if p ∈ ps ∧ s.continues h p = false then .cleared else s.selectionAt h p := by
  induction ps with
  | nil => intro s; rw [if_neg fun e => List.not_mem_nil e.1]; rfl
  | cons a ps ih =>
    intro s
    rw [List.foldl_cons, ih, (State.swapPosition_selection h s a).continues, State.swapPosition_selectionAt]
    by_cases hkeep : s.continues h p = false
    · by_cases ha : p = a
      · subst ha; simp [hkeep]
      · simp [hkeep, ha]
    · simp [hkeep]

theorem State.swap_selectionAt (s : State) (h : HeadId) (p : Position) :
    (s.swap h).selectionAt h p = if s.continues h p = false then .cleared else s.selectionAt h p := by
  have hfold := State.swapPositions_selectionAt h p positions s
  unfold State.swap
  rw [State.selectionAt_of_head (State.head_dropSceneUses _ _ h), State.selectionAt_of_head (State.head_addSceneUses _ _ h)]
  refine (show _ = (positions.foldl (State.swapPosition h) s).selectionAt h p from ?_).trans
    (hfold.trans (if_congr (and_iff_right (mem_positions p)) rfl rfl))
  unfold State.selectionAt
  rw [State.head_modHead_same]

theorem keepsContinuity_of_none (old : Option WindowRecord) : keepsContinuity old none = false := by
  unfold keepsContinuity
  rcases old with _ | ⟨_ | _ | _ | _, _⟩ <;> rfl

theorem State.swap_carries (f : Prop) (s : State) (h : HeadId) : Carries f s (s.swap h) := by
  have hpositions : Carries f s (positions.foldl (State.swapPosition h) s) :=
    .foldl _ (State.swapPosition_carries f h) _ s
  have hsel := s.swapPositions_selection h
  have hcleared : ∀ p : Position, (s.head h).pendingScene[p] = none →
      (positions.foldl (State.swapPosition h) s).selectionAt h p = .cleared := fun p hp => by
    rw [State.swapPositions_selectionAt, if_pos]
    refine ⟨mem_positions p, ?_⟩
    unfold State.continues
    rw [hp]
    exact keepsContinuity_of_none _
  unfold State.swap
  refine ((hpositions.trans ?_).trans (.of_only (State.addSceneUses_only _ _) (by decide))).trans
    (.of_only (State.dropSceneUses_only _ _) (by decide))
  generalize positions.foldl (State.swapPosition h) s = u at hcleared ⊢
  have hwindows : ∀ g p, (u.modHead h fun hd => { hd with activeScene := (s.head h).pendingScene }).selectionAt g p =
      u.selectionAt g p := fun g p => by
    unfold State.selectionAt
    by_cases hg : g = h
    · subst hg; rw [State.head_modHead_same]
    · rw [State.head_modHead_other _ _ hg]
  refine .of_holders (.of_pool rfl) id (fun _ _ => .of_same rfl rfl) hwindows fun hc g p hgp => ?_
  rw [hwindows]
  by_cases hg : g = h
  · subst hg
    rw [State.head_modHead_same] at hgp
    rcases hgp with hoff | hnone
    · exact hc g p (.inl hoff)
    · exact hcleared p hnone
  · rw [State.head_modHead_other _ _ hg] at hgp
    exact hc g p hgp

/-- R87: on an OFF head every position is cleared already. -/
theorem State.swapOff_carries (f : Prop) {s : State} {h : HeadId} (hoff : (s.head h).state = .off) :
    Carries f s (s.swapOff h) := by
  refine (s.swap_carries f h).trans ?_
  have hstate : ((s.swap h).head h).state = .off := by rw [s.swap_head]; exact hoff
  unfold State.swapOff
  generalize s.swap h = u at hstate ⊢
  have hmoved : Moved f u (u.modHead h fun hd => { hd with selection := Vector.replicate 12 .cleared }) :=
    .of_only (u.modHead_only h _) (by decide)
  have hwindows : ReferencesOk u →
      SameWindows u (u.modHead h fun hd => { hd with selection := Vector.replicate 12 .cleared }) := fun hr =>
    .modHead _ ⟨(Head.selection_cleared fun p => hr.2.2 h p (.inl hstate)).symm, rfl, id⟩
  have hpool : PoolOk u → PoolOk (u.modHead h fun hd => { hd with selection := Vector.replicate 12 .cleared }) :=
    fun ok => ok
  exact ⟨hpool, fun ok hr => (Carries.of_moved hmoved (hwindows hr)).refs ok hr,
    fun hf ok hr => (Carries.of_moved hmoved (hwindows hr)).numbers hf ok hr⟩

/-! ### The boundary and HEAD_OFF (R55, R56) -/

theorem State.swapAtBoundary_carries (f : Prop) (s : State) (h : HeadId) : Carries f s (s.swapAtBoundary h) := by
  unfold State.swapAtBoundary
  split
  · exact ((s.swap_carries f h).trans (.of_windows (State.modHead_only _ h _) (by decide) (.modHead _))).trans
      (.of_only (State.raise_only _ _) (by decide))
  · exact .refl f s

theorem State.boundary_carries (f : Prop) {s : State} {h : HeadId} (t : Timing) (time : Time)
    (hon : (s.head h).state ≠ .off) : Carries f s (s.boundary h t time) := by
  have hcounted : Carries f s (s.modHead h Head.counted) := .of_windows (s.modHead_only h _) (by decide) (.modHead _)
  have hfollow : Carries f (s.modHead h Head.counted) ((s.modHead h Head.counted).followBoundary h t time) :=
    .of_windows (State.followBoundary_only _ h t time) (by decide) (.of_head (State.followBoundary_others _ h t time)
      (by rw [State.followBoundary_head]; exact ⟨rfl, rfl, id⟩))
  have hstate : ((((s.modHead h Head.counted).followBoundary h t time).swapAtBoundary h).head h).state ≠ .off := by
    rw [State.swapAtBoundary_head, State.followBoundary_head, State.head_modHead_same]
    exact hon
  have hcursor : ∀ u : State, Carries f u (u.cursorBoundary h) := fun u =>
    .of_windows (u.cursorBoundary_only h) (by decide) (.of_head (u.cursorBoundary_others h)
      (by rw [State.cursorBoundary_head]; exact ⟨rfl, rfl, id⟩))
  have hanc : ∀ u : State, Carries f u (u.ancBoundary h) := fun u =>
    .of_windows (u.ancBoundary_only h) (by decide) (.of_head (u.ancBoundary_others h)
      (by rw [State.ancBoundary_head]; exact ⟨rfl, rfl, id⟩))
  have hdrawn : ∀ u : State, Carries f u (u.modHead h fun hd => { hd with frame := some hd.drawn }) := fun u =>
    .of_windows (u.modHead_only h _) (by decide) (.modHead _)
  exact (((((hcounted.trans hfollow).trans (State.swapAtBoundary_carries f _ h)).trans
    (State.selectAll_carries f hstate)).trans (hcursor _)).trans (hanc _)).trans (hdrawn _)

theorem State.takeBoundary_carries (f : Prop) (s : State) (h : HeadId) (time : Time) :
    Carries f s (s.takeBoundary h time) := by
  unfold State.takeBoundary
  split
  · rename_i e _; exact State.boundary_carries f _ time (by rw [e]; nofun)
  · rename_i e _; exact State.boundary_carries f _ time (by rw [e]; nofun)
  all_goals exact .refl f s

theorem State.releasedOff_carries (f : Prop) (s : State) (h : HeadId) : Carries f s (s.releasedOff h) := by
  have hclear : Carries f s (s.clearSelections h) := .foldl _ (State.clearPosition_carries f h) _ s
  have hcleared := s.clearSelections_cleared h
  unfold State.releasedOff
  refine hclear.trans ?_
  generalize s.clearSelections h = u at hcleared ⊢
  have hwindows : ∀ g p, (u.modHead h Head.switchedOff).selectionAt g p = u.selectionAt g p := fun g p => by
    unfold State.selectionAt
    by_cases hg : g = h
    · subst hg; rw [State.head_modHead_same]; rfl
    · rw [State.head_modHead_other _ _ hg]
  refine .of_holders (.of_pool rfl) id (fun _ _ => .of_same rfl rfl) hwindows fun hc g p hgp => ?_
  rw [hwindows]
  by_cases hg : g = h
  · subst hg; exact hcleared p
  · rw [State.head_modHead_other _ _ hg] at hgp
    exact hc g p hgp

theorem State.releasedOff_state (s : State) (h : HeadId) : ((s.releasedOff h).head h).state = .off := by
  unfold State.releasedOff
  rw [State.head_modHead_same]
  rfl

theorem State.presentAtOff_carries (f : Prop) {s : State} {h : HeadId} (hoff : (s.head h).state = .off) :
    Carries f s (s.presentAtOff h) := by
  unfold State.presentAtOff
  split
  · exact ((State.swapOff_carries f hoff).trans (.of_windows (State.modHead_only _ h _) (by decide) (.modHead _))).trans
      (.of_only (State.raise_only _ _) (by decide))
  · exact .refl f s

theorem State.switchOff_carries (f : Prop) (s : State) (h : HeadId) : Carries f s (s.switchOff h) := by
  have hcancel : ∀ u : State, Carries f u (u.cancelShapes h) := fun u =>
    .of_windows (u.cancelShapes_only h) (by decide) (.of_head (u.cancelShapes_others h)
      (by rw [State.cancelShapes_head]; exact ⟨rfl, rfl, id⟩))
  have hanc : ∀ u : State, Carries f u (u.stopAnc h) := fun u =>
    .of_windows (u.stopAnc_only h) (by decide) (.of_head (u.stopAnc_others h)
      (by rw [State.stopAnc_head]; exact ⟨rfl, rfl, id⟩))
  have hfollow : ∀ u : State, Carries f u (u.stopFollow h) := fun u =>
    .of_windows (u.stopFollow_only h) (by decide) (.of_head (u.stopFollow_others h)
      (by rw [State.stopFollow_head]; exact ⟨rfl, rfl, id⟩))
  rw [State.switchOff_eq]
  exact ((((s.releasedOff_carries f h).trans (State.presentAtOff_carries f (s.releasedOff_state h))).trans
    (hcancel _)).trans (hanc _)).trans (hfollow _)

end Sys2Proof.Machine
end

section
/-! The invariants of the store through every step (R16). -/

namespace Sys2Proof.Machine

/-- A change of a head's record that leaves its windows alone. -/
theorem Carries.modHead {f : Prop} {s : State} {h : HeadId} {g : Head → Head}
    (hsame : (g (s.head h)).selection = (s.head h).selection ∧ (g (s.head h)).activeScene = (s.head h).activeScene ∧
      ((g (s.head h)).state = .off → (s.head h).state = .off)) : Carries f s (s.modHead h g) :=
  .of_windows (s.modHead_only h g) (by decide) (.modHead g hsame)

theorem Carries.of_head {f : Prop} {l : List Part} {s t : State} {h : HeadId} (ho : OnlyChanges l s t)
    (hl : Part.pool ∉ l ∧ Part.ports ∉ l) (hothers : OtherHeads h s t)
    (hsame : (t.head h).selection = (s.head h).selection ∧ (t.head h).activeScene = (s.head h).activeScene ∧
      ((t.head h).state = .off → (s.head h).state = .off)) : Carries f s t :=
  .of_windows ho hl (.of_head hothers hsame)

theorem State.takeFollowLoss_carries (f : Prop) (s : State) (h : HeadId) : Carries f s (s.takeFollowLoss h) := by
  refine .of_head (s.takeFollowLoss_only h) (by decide) (s.takeFollowLoss_others h) ?_
  rw [s.takeFollowLoss_head]
  split <;> exact ⟨rfl, rfl, id⟩

theorem State.takeShortfall_carries (f : Prop) (s : State) (h : HeadId) (l : Nat) (m : List MissedPixel) :
    Carries f s (s.takeShortfall h l m) := by
  rcases s.takeShortfall_head h l m with e | ⟨t, d, _, _, _, _, _, e⟩
  · rw [e]; exact .refl f s
  · rw [e]
    exact (Carries.modHead ⟨rfl, rfl, id⟩).trans (.of_only (State.raise_only _ _) (by decide))

theorem State.putPending_carries (f : Prop) (s : State) (h : HeadId) (p : Position) (r : Option WindowRecord) :
    Carries f s (s.putPending h p r) :=
  ((Carries.modHead (s := s) (h := h) (g := fun hd => { hd with pendingScene := hd.pendingScene.set p r })
    ⟨rfl, rfl, id⟩).trans (.of_only (State.addUseOf_only _ _) (by decide))).trans
    (.of_only (State.dropUseOf_only _ _) (by decide))

theorem State.reloadPending_carries (f : Prop) (s : State) (h : HeadId) (sc : Scene) :
    Carries f s (s.reloadPending h sc) :=
  ((Carries.modHead (s := s) (h := h) (g := fun hd => { hd with pendingScene := sc }) ⟨rfl, rfl, id⟩).trans
    (.of_only (State.addSceneUses_only _ _) (by decide))).trans (.of_only (State.dropSceneUses_only _ _) (by decide))

/-! The shape loader changes the cursors alone. -/

theorem SameWindows.modCursor (s : State) (h : HeadId) (k : Cursor → Cursor) : SameWindows s (s.modCursor h k) :=
  .modHead _ ⟨rfl, rfl, id⟩

theorem State.placeShape_windows (s : State) (h : HeadId) (i : LibId) : SameWindows s (s.placeShape h i) := by
  unfold State.placeShape
  split
  · exact .of_heads fun _ => rfl
  · exact .of_heads fun _ => rfl
  · exact .modCursor s h _

theorem State.startJob_windows (s : State) : SameWindows s s.startJob := by
  unfold State.startJob
  split
  · rename_i h i rest _ _
    dsimp only
    split
    · exact (SameWindows.trans (.modCursor { s with loader := ⟨rest, some (h, i)⟩ } h _)
        (.of_only (State.addUse_only _ _) (by decide))).trans (.of_only (State.dropUseOf_only _ _) (by decide))
    · exact .of_heads fun _ => rfl
  · exact .refl s
  · exact .refl s

theorem State.queueWaiting_windows (s : State) (h : HeadId) : SameWindows s (s.queueWaiting h) := by
  unfold State.queueWaiting
  split
  · exact .refl s
  · rename_i j _
    exact .modCursor { s with loader := { s.loader with queue := s.loader.queue ++ [(h, j)] } } h _

theorem State.finishJob_windows (s : State) : SameWindows s s.finishJob := by
  unfold State.finishJob
  split
  · exact .refl s
  · rename_i h i _
    split
    · exact .refl s
    · exact SameWindows.trans (.modCursor { s with loader := { s.loader with job := none } } h _)
        (State.queueWaiting_windows _ h)

/-- STATS_CLEAR sets the repeat counts to 0: the windows hold what they held. -/
theorem State.clearHead_carries (f : Prop) (s : State) (h : HeadId) : Carries f s (s.modHead h Head.cleared) := by
  have hsel : ∀ g p, (s.modHead h Head.cleared).selectionAt g p =
      if g = h then { s.selectionAt g p with repeats := 0 } else s.selectionAt g p := fun g p => by
    unfold State.selectionAt
    by_cases hg : g = h
    · subst hg
      rw [State.head_modHead_same, if_pos rfl]
      exact Vector.getElem_map ..
    · rw [State.head_modHead_other _ _ hg, if_neg hg]
  have hheld : ∀ g p, ((s.modHead h Head.cleared).selectionAt g p).current = (s.selectionAt g p).current ∧
      ((s.modHead h Head.cleared).selectionAt g p).lastShown = (s.selectionAt g p).lastShown := fun g p => by
    rw [hsel]; split <;> exact ⟨rfl, rfl⟩
  have hcount : (s.modHead h Head.cleared).holdCount = s.holdCount :=
    State.holdCount_of_same (fun _ => rfl) fun g p => congrArg (Option.map CurrentFrame.slot) (hheld g p).1
  refine .of_shift (by rw [hcount]; exact .of_pool rfl) id (fun hc g p hgp => ?_) (fun _ _ => .of_same rfl rfl)
    fun hn => ⟨hn.pins, fun g p c hgc => ?_⟩
  · have hcleared : s.selectionAt g p = .cleared := hc g p <| by
      by_cases hg : g = h
      · subst hg; rw [State.head_modHead_same] at hgp; exact hgp
      · rw [State.head_modHead_other _ _ hg] at hgp; exact hgp
    rw [hsel, hcleared, show ({ Selection.cleared with repeats := 0 } : Selection) = .cleared from rfl, ite_self]
  · rw [(hheld g p).1] at hgc
    rw [(hheld g p).2]
    exact hn.windows g p c hgc

/-- Every change of the blocks keeps the invariants of the store; that of the frame numbers as long as no port has
reached the last one. -/
theorem BlockChange.carries {s t : State} (h : BlockChange s t) : Carries (NumbersRemain s) s t := by
  cases h with
  | start p l w n time => exact .of_moved (s.takeStart_moved p l w n time) (.of_lossArises (s.takeStart_head p l w n time))
  | fillEnd p px => exact s.takeFillEnd_carries _ p px
  | loseSignal p _ => exact .of_moved (s.loseSignal_moved _ p) (.of_lossArises (s.loseSignal_head p))
  | boundary h time => exact s.takeBoundary_carries _ h time
  | shortfall h l m => exact s.takeShortfall_carries _ h l m
  | followLoss h => exact s.takeFollowLoss_carries _ h
  | verified i rest _ => exact .of_only (s.verified_only _ _) (by decide)
  | abandon i => exact .of_only (s.abandon_only _) (by decide)
  | startJob =>
    exact .of_windows s.startJob_only (by decide) s.startJob_windows
  | finishJob =>
    exact .of_windows s.finishJob_only (by decide) s.finishJob_windows
  | captureOn p => exact .of_moved (s.captureOn_moved _ p) (.of_only (s.captureOn_only p) (by decide))
  | captureOff p => exact .of_moved (s.captureOff_moved _ p) (.of_only (s.captureOff_only p) (by decide))
  | depth p k h₁ h₂ => exact s.setDepth_carries _ p h₁ h₂
  | flush p => exact .of_moved (s.flush_moved _ p) (.of_only (s.flush_only p) (by decide))
  | resetPort p => exact s.resetPort_carries _ p
  | movePin i p j hlast _ => exact s.movePin_carries _ i hlast
  | emptyPin i => exact s.emptyPin_carries _ i
  | timing h t _ _ => exact .modHead ⟨rfl, rfl, id⟩
  | headOn h _ _ => exact .modHead ⟨rfl, rfl, nofun⟩
  | headOff h _ => exact s.switchOff_carries _ h
  | mute h on _ => exact .modHead ⟨rfl, rfl, fun e => by cases on <;> cases e⟩
  | follow h source w l _ _ =>
    exact .of_head (s.setFollow_only h source w l) (by decide) (s.setFollow_others h source w l)
      (by rw [s.setFollow_head]; exact ⟨rfl, rfl, id⟩)
  | put h p r _ _ _ => exact s.putPending_carries _ h p _
  | remove h p _ => exact s.putPending_carries _ h p _
  | restart h b _ => exact s.reloadPending_carries _ h _
  | presentOff h _ hoff => exact State.swapOff_carries _ hoff
  | libOpen i e b _ _ _ _ => exact .of_only (s.setEntry_only _ _) (by decide)
  | libData i e n bs _ _ =>
    exact (Carries.of_only (State.writeBytes_only (entryAddress e) bs n s) (by decide)).trans
      (.of_only (State.setEntry_only _ _ _) (by decide))
  | libClose i e n _ =>
    exact (Carries.of_only (s.setEntry_only _ _) (by decide)).trans (.of_only (State.setVerifyQueue_only _ _) (by decide))
  | libDelete i _ => exact .of_only (s.setEntry_only _ _) (by decide)
  | placeShape h i _ =>
    exact .of_windows (s.placeShape_only h i) (by decide) (s.placeShape_windows h i)
  | clearPort p =>
    exact .of_moved (.modPort_same _ s p fun q => { q with counters := .zero }) (.of_only (s.modPort_only p _) (by decide))
  | background h | present h | cursor h | ancConfig h | ancPush h | ancFlush h => exact .modHead ⟨rfl, rfl, id⟩
  | clearHead h => exact s.clearHead_carries _ h

/-! ### Every step -/

theorem Carries.of_parts {f : Prop} {s t : State} (h : ∀ p ∈ [Part.pool, .ports, .heads], p.same s t) :
    Carries f s t := by
  have hpool : t.pool = s.pool := h .pool (by decide)
  have hport : ∀ p, t.port p = s.port p := fun p => congrArg (fun v : Vector Port 4 => v[p]) (h .ports (by decide))
  have hhead : ∀ g, t.head g = s.head g := fun g => congrArg (fun v : Vector Head 2 => v[g]) (h .heads (by decide))
  refine .of_moved (.of_moves (fun _ => .of_pool hpool) (fun p => ?_) fun p => ?_) (.of_heads hhead)
  · rw [hport]
  · rw [hport]

/-- Settles O56: every change of the blocks keeps the pool, the ledger and, while frame numbers remain, their order;
and these speak of the pool, the ports and the heads alone. -/
theorem stepsKeepReferencesCounted : Obligations.StepsKeepReferencesCounted := by
  refine ⟨fun s t ok hstep => ?_, fun s t ok hremain hstep => ?_⟩
  · exact step_keeps (Inv := fun u => PoolOk u ∧ ReferencesOk u) (parts := [.pool, .ports, .heads])
      ⟨poolOk_reset, referencesOk_reset⟩
      (fun {u v} hsame ok =>
        have hc : Carries True u v := .of_parts hsame
        ⟨hc.pool ok.1, hc.refs ok.1 ok.2⟩)
      (by decide) (fun {u v} hchange ok => ⟨hchange.carries.pool ok.1, hchange.carries.refs ok.1 ok.2⟩) hstep ok
  · exact step_leads (Pre := fun u => (PoolOk u ∧ ReferencesOk u ∧ NumbersOk u) ∧ NumbersRemain u)
      (Post := fun u => PoolOk u ∧ ReferencesOk u ∧ NumbersOk u) (parts := [.pool, .ports, .heads])
      ⟨poolOk_reset, referencesOk_reset, numbersOk_reset⟩
      (fun {u v} hsame ok =>
        have hc : Carries True u v := .of_parts hsame
        have hport : ∀ p, v.port p = u.port p := fun p =>
          congrArg (fun x : Vector Port 4 => x[p]) (hsame .ports (by decide))
        ⟨⟨hc.pool ok.1.1, hc.refs ok.1.1 ok.1.2.1, hc.numbers trivial ok.1.1 ok.1.2.1 ok.1.2.2⟩,
          fun p => by rw [hport]; exact ok.2 p⟩)
      (fun {u v} hsame ok =>
        have hc : Carries True u v := .of_parts hsame
        ⟨hc.pool ok.1, hc.refs ok.1 ok.2.1, hc.numbers trivial ok.1 ok.2.1 ok.2.2⟩)
      And.left (by decide)
      (fun {u v} hchange ok => ⟨hchange.carries.pool ok.1.1, hchange.carries.refs ok.1.1 ok.1.2.1,
        hchange.carries.numbers ok.2 ok.1.1 ok.1.2.1 ok.1.2.2⟩)
      hstep ⟨ok, hremain⟩

end Sys2Proof.Machine
end

section
/-! The detectors and the stored geometries through every step (R29 to R33, Table 2-2). -/

namespace Sys2Proof.Machine

/-! ### The detectors -/

/-- R29, R31: the measurements that a detector keeps are in range, and its counts are below 3. -/
structure Detector.Ok (d : Detector) : Prop where
  locked : ∀ m ∈ d.lockedMeasurement, m.inRange = true
  reference : ∀ m ∈ d.reference, m.inRange = true
  counts : d.matchCount < 3 ∧ d.outOfRange < 3

theorem Detector.Ok.noSignal : Detector.noSignal.Ok := ⟨nofun, nofun, by decide⟩

theorem Detector.Ok.unsupported : Detector.unsupported.Ok := ⟨nofun, nofun, by decide⟩

theorem Detector.Ok.of_locked {l : Measurement} (h : l.inRange = true) : (Detector.locked l).Ok :=
  ⟨fun m hm => by obtain rfl := Option.some.inj hm; exact h, nofun, Nat.zero_lt_succ 2, Nat.zero_lt_succ 2⟩

theorem Detector.Ok.of_acquiring {r : Option Measurement} {k o : Nat} (hr : ∀ m ∈ r, m.inRange = true) (hk : k < 3)
    (ho : o < 3) : (Detector.acquiring r k o).Ok := ⟨nofun, hr, hk, ho⟩

theorem countInRange_ok {r : Option Measurement} {k : Nat} {m : Measurement} (hr : ∀ x ∈ r, x.inRange = true)
    (hm : m.inRange = true) : (countInRange r k m).Ok := by
  have hfresh : (Detector.acquiring (some m) 1 0).Ok :=
    .of_acquiring (fun x hx => by obtain rfl := Option.some.inj hx; exact hm) (by decide) (by decide)
  unfold countInRange
  split
  · rename_i x
    split
    · split
      · rename_i hk; exact .of_acquiring hr hk (by decide)
      · exact .of_locked (hr x rfl)
    · exact hfresh
  · exact hfresh

theorem countOutOfRange_ok (o : Nat) : (countOutOfRange o).Ok := by
  unfold countOutOfRange
  split
  · rename_i ho; exact .of_acquiring nofun (by decide) ho
  · exact .unsupported

theorem Detector.Ok.measured {d : Detector} (ok : d.Ok) (m : Measurement) : (d.measured m).Ok := by
  cases d with
  | noSignal => exact ok
  | acquiring r k o =>
    unfold Detector.measured
    dsimp only
    split
    · rename_i hm; exact countInRange_ok ok.reference hm
    · exact countOutOfRange_ok o
  | locked l =>
    unfold Detector.measured
    dsimp only
    split
    · exact ok
    · split
      · rename_i hm; exact countInRange_ok nofun hm
      · exact countOutOfRange_ok 0
  | unsupported =>
    unfold Detector.measured
    dsimp only
    split
    · rename_i hm; exact countInRange_ok nofun hm
    · exact ok

/-- Every port's detector is in order. -/
def DetectorsOk (s : State) : Prop := ∀ p, (s.port p).detector.Ok

theorem detectorsOk_of_same {s t : State} (h : ∀ p, (t.port p).detector = (s.port p).detector) (ok : DetectorsOk s) :
    DetectorsOk t := fun p => h p ▸ ok p

theorem detectorsOk_of_writer {s t : State} (h : OnlyWriter s t) : DetectorsOk s → DetectorsOk t :=
  detectorsOk_of_same fun p => by rw [h p]

theorem detectorsOk_modPort {s : State} {p : PortId} {f : Port → Port} (hf : (f (s.port p)).detector.Ok)
    (ok : DetectorsOk s) : DetectorsOk (s.modPort p f) := fun q => by
  by_cases hq : q = p
  · subst hq; rw [State.port_modPort_same]; exact hf
  · rw [State.port_modPort_other _ _ hq]; exact ok q

theorem takeStart_detectorsOk {s : State} (p : PortId) (l : FieldLevel) (w : Option Nat) (n : Nat) (time : Time)
    (ok : DetectorsOk s) : DetectorsOk (s.takeStart p l w n time) := fun q => by
  by_cases hq : q = p
  · subst hq
    by_cases hsignal : (s.port q).detector = .noSignal
    · rw [State.takeStart_of_noSignal hsignal, State.firstStart_port]
      exact .of_acquiring nofun (by decide) (by decide)
    · rw [(State.takeStart_port hsignal l w n time).1]
      exact (ok q).measured _
  · rw [s.takeStart_others p l w n time q hq]; exact ok q

theorem resetPort_detectorsOk {s : State} (p : PortId) (ok : DetectorsOk s) : DetectorsOk (s.resetPort p) := by
  have hflush : DetectorsOk ((s.captureOff p).flush p) :=
    detectorsOk_of_writer (State.flush_writer _ p) (detectorsOk_of_writer (s.captureOff_writer p) ok)
  have hreset : DetectorsOk (((s.captureOff p).flush p).resetDetector p) :=
    detectorsOk_of_writer (State.resetDetector_writer _ p) (detectorsOk_modPort .noSignal hflush)
  exact detectorsOk_modPort (hreset p) hreset

theorem BlockChange.detectorsOk {s t : State} (h : BlockChange s t) (ok : DetectorsOk s) : DetectorsOk t := by
  have hports : ∀ {l : List Part} {u : State}, OnlyChanges l s u → Part.ports ∉ l → DetectorsOk u := fun ho hl =>
    detectorsOk_of_writer (.of_only ho hl) ok
  cases h with
  | start p l w n time => exact takeStart_detectorsOk p l w n time ok
  | fillEnd p px => exact detectorsOk_of_writer (s.takeFillEnd_writer p px) ok
  | loseSignal p _ => exact detectorsOk_of_writer (s.loseSignal_writer p) (detectorsOk_modPort .noSignal ok)
  | boundary h time => exact hports (s.takeBoundary_only h time) (by decide)
  | shortfall h l m => exact hports (s.takeShortfall_only h l m) (by decide)
  | followLoss h => exact hports (s.takeFollowLoss_only h) (by decide)
  | verified i rest _ => exact hports (s.verified_only i rest) (by decide)
  | abandon i => exact hports (s.abandon_only i) (by decide)
  | startJob => exact hports s.startJob_only (by decide)
  | finishJob => exact hports s.finishJob_only (by decide)
  | captureOn p => exact detectorsOk_of_writer (s.captureOn_writer p) ok
  | captureOff p => exact detectorsOk_of_writer (s.captureOff_writer p) ok
  | depth p k _ _ =>
    exact detectorsOk_of_writer (State.evictSurplus_writer _ p) (detectorsOk_modPort (ok p) ok)
  | flush p => exact hports (s.flush_only p) (by decide)
  | resetPort p => exact resetPort_detectorsOk p ok
  | movePin i p j _ _ => exact hports (s.movePin_only _ _) (by decide)
  | emptyPin i => exact hports (s.emptyPin_only _) (by decide)
  | headOff h _ => exact hports (s.switchOff_only h) (by decide)
  | follow h source w l _ _ => exact hports (s.setFollow_only h source w l) (by decide)
  | put h p r _ _ _ => exact hports (s.putPending_only h p _) (by decide)
  | remove h p _ => exact hports (s.putPending_only h p _) (by decide)
  | restart h b _ => exact hports (s.reloadPending_only h _) (by decide)
  | presentOff h _ _ => exact hports (s.swapOff_only h) (by decide)
  | libOpen i e b _ _ _ _ => exact hports (s.setEntry_only i _) (by decide)
  | libData i e n bs _ _ =>
    exact detectorsOk_of_writer (.of_only (State.setEntry_only _ _ _) (by decide))
      (hports (State.writeBytes_only (entryAddress e) bs n s) (by decide))
  | libClose i e n _ =>
    exact detectorsOk_of_writer (.of_only (State.setVerifyQueue_only _ _) (by decide))
      (hports (s.setEntry_only i _) (by decide))
  | libDelete i _ => exact hports (s.setEntry_only i _) (by decide)
  | placeShape h i _ => exact hports (s.placeShape_only h i) (by decide)
  | clearPort p => exact detectorsOk_modPort (ok p) ok
  | timing h | headOn h | mute h | background h | present h | cursor h | ancConfig h | ancPush h | ancFlush h
  | clearHead h => exact hports (s.modHead_only h _) (by decide)

/-! ### The stored geometries -/

/-- Table 2-2: a frame of the geometry fits a slot. -/
def Geometry.Fits (g : Geometry) : Prop := 2 * g.width * g.height ≤ Config.slotBytes

/-- The active area of a measurement in range is at most 1280 by 720. -/
theorem Measurement.geometry_fits {m : Measurement} (h : m.inRange = true) : m.geometry.Fits := by
  obtain ⟨⟨-, hwidth, -⟩, hlines, -⟩ := m.inRange_iff.1 h
  have hheight : m.geometry.height ≤ 720 := by
    unfold Measurement.geometry
    dsimp only
    split
    · rename_i hi
      rcases hlines with ⟨hp, -⟩ | ⟨-, -, hl⟩
      · rw [hi] at hp; cases hp
      · omega
    · rename_i hi
      rcases hlines with ⟨-, -, hl⟩ | ⟨hp, -⟩
      · exact hl
      · exact absurd hp hi
  calc 2 * m.geometry.width * m.geometry.height
      ≤ 2 * 1280 * 720 := Nat.mul_le_mul (Nat.mul_le_mul_left 2 hwidth) hheight
    _ = Config.slotBytes := rfl

/-- Every geometry that a slot holds fits it. -/
def GeometriesOk (s : State) : Prop := ∀ i, ∀ g ∈ (s.slot i).geometry?, g.Fits

theorem portsOk_iff {s : State} : PortsOk s ↔ DetectorsOk s ∧ GeometriesOk s :=
  ⟨fun ⟨h₁, h₂, h₃, h₄⟩ => ⟨fun p => ⟨h₁ p, h₂ p, h₃ p⟩, h₄⟩,
    fun ⟨h₁, h₂⟩ => ⟨fun p => (h₁ p).locked, fun p => (h₁ p).reference, fun p => (h₁ p).counts, h₂⟩⟩

/-- Every slot holds the geometry that it held, or none. -/
def KeepsGeometries (s t : State) : Prop :=
  ∀ i, (t.slot i).geometry? = none ∨ (t.slot i).geometry? = (s.slot i).geometry?

theorem KeepsGeometries.refl (s : State) : KeepsGeometries s s := fun _ => .inr rfl

theorem KeepsGeometries.trans {s t u : State} (h₁ : KeepsGeometries s t) (h₂ : KeepsGeometries t u) :
    KeepsGeometries s u := fun i => (h₂ i).elim .inl fun e => e ▸ h₁ i

theorem KeepsGeometries.of_slots {s t : State} (h : ∀ i, t.slot i = s.slot i) : KeepsGeometries s t := fun i =>
  .inr (by rw [h i])

theorem KeepsGeometries.of_only {l : List Part} {s t : State} (h : OnlyChanges l s t) (hl : Part.pool ∉ l) :
    KeepsGeometries s t := .of_slots (State.slot_of_only h hl)

theorem KeepsGeometries.geometriesOk {s t : State} (h : KeepsGeometries s t) (ok : GeometriesOk s) : GeometriesOk t :=
  fun i g hg => (h i).elim (fun e => by rw [e] at hg; cases hg) fun e => ok i g (e ▸ hg)

theorem KeepsGeometries.foldl {α : Type} (step : State → α → State) (hstep : ∀ s a, KeepsGeometries s (step s a))
    (as : List α) : ∀ s, KeepsGeometries s (as.foldl step s) := by
  induction as with
  | nil => exact fun s => .refl s
  | cons a as ih => exact fun s => (hstep s a).trans (ih _)

theorem KeepsGeometries.setSlot (s : State) (i : SlotId) {v : Slot}
    (h : v.geometry? = none ∨ v.geometry? = (s.slot i).geometry?) : KeepsGeometries s (s.setSlot i v) := fun j => by
  by_cases hj : j = i
  · subst hj; rw [State.slot_setSlot_same]; exact h
  · rw [State.slot_setSlot_other _ _ hj]; exact .inr rfl

theorem KeepsGeometries.freeSlot (s : State) (i : SlotId) : KeepsGeometries s (s.freeSlot i) := .setSlot s i (.inl rfl)

theorem KeepsGeometries.retireSlot (s : State) (i : SlotId) : KeepsGeometries s (s.retireSlot i) := by
  unfold State.retireSlot
  split
  · rename_i f hslot
    split
    · exact .freeSlot s i
    · exact .setSlot s i (.inr (by rw [hslot]; rfl))
  all_goals exact .refl s

theorem KeepsGeometries.takeRef (s : State) (i : SlotId) : KeepsGeometries s (s.takeRef i) := by
  unfold State.takeRef
  split
  · rename_i f hslot; exact .setSlot s i (.inr (by rw [hslot]; rfl))
  · rename_i f hslot; exact .setSlot s i (.inr (by rw [hslot]; rfl))
  all_goals exact .refl s

theorem KeepsGeometries.releaseOpt (s : State) (x : Option SlotId) : KeepsGeometries s (s.releaseOpt x) := by
  cases x with
  | none => exact .refl s
  | some i =>
    show KeepsGeometries s (s.releaseRef i)
    unfold State.releaseRef
    split
    · rename_i f hslot; exact .setSlot s i (.inr (by rw [hslot]; rfl))
    · rename_i f hslot
      split
      · exact .freeSlot s i
      · exact .setSlot s i (.inr (by rw [hslot]; rfl))
    all_goals exact .refl s

theorem KeepsGeometries.flush (s : State) (p : PortId) : KeepsGeometries s (s.flush p) :=
  (KeepsGeometries.of_slots fun _ => rfl).trans (.foldl _ .retireSlot _ (s.setReady p []))

theorem KeepsGeometries.evictSurplus (s : State) (p : PortId) : KeepsGeometries s (s.evictSurplus p) := by
  have hone : ∀ u : State, KeepsGeometries u (u.evictOldest p) := fun u => by
    unfold State.evictOldest
    split
    · exact .refl u
    · exact (KeepsGeometries.of_slots fun j => u.slot_countDrop p _ j).trans (.retireSlot _ _)
  have hmany : ∀ (n : Nat) (u : State), KeepsGeometries u (State.evict n p u) := fun n => by
    induction n with
    | zero => exact .refl
    | succ n ih => exact fun u => (hone u).trans (ih _)
  exact hmany _ s

theorem KeepsGeometries.abortFill (s : State) (p : PortId) (w : Writer) : KeepsGeometries s (s.abortFill p w) := by
  unfold State.abortFill
  split
  · rename_i i _ _; exact .freeSlot s i
  all_goals exact .refl s

theorem KeepsGeometries.captureOff (s : State) (p : PortId) : KeepsGeometries s (s.captureOff p) := by
  unfold State.captureOff
  split
  · exact .refl s
  · exact .of_only (s.modPort_only p _) (by decide)
  · exact .abortFill s p .off

theorem KeepsGeometries.leaveLocked (s : State) (p : PortId) (start : Option Time) :
    KeepsGeometries s (s.leaveLocked p start) := .abortFill s p .armed

theorem KeepsGeometries.loseSignal (s : State) (p : PortId) : KeepsGeometries s (s.loseSignal p) := by
  unfold State.loseSignal
  dsimp only
  split
  · exact .leaveLocked ((s.modPort p Port.loseSignal).raise (.inputState p .noSignal none)) p _
  · exact .refl s

theorem KeepsGeometries.resetDetector (s : State) (p : PortId) : KeepsGeometries s (s.resetDetector p) := by
  unfold State.resetDetector
  dsimp only
  split
  · exact (KeepsGeometries.loseSignal s p).trans (.of_only (State.modPort_only _ p _) (by decide))
  · exact (KeepsGeometries.of_only (s.modPort_only p _) (by decide)).trans (.of_only (State.modPort_only _ p _) (by decide))

theorem KeepsGeometries.resetPort (s : State) (p : PortId) : KeepsGeometries s (s.resetPort p) := by
  unfold State.resetPort
  exact (((KeepsGeometries.captureOff s p).trans (.flush _ p)).trans (.resetDetector _ p)).trans
    (.of_only (State.modPort_only _ p _) (by decide))

/-- R6: a completed fill keeps the geometry that it was claimed with. -/
theorem KeepsGeometries.complete (s : State) (p : PortId) (i : SlotId) (n : FrameNumber) :
    KeepsGeometries s (s.complete p i n) := by
  unfold State.complete
  split
  · rename_i hslot
    exact (KeepsGeometries.setSlot s i (.inr (by rw [hslot]; rfl))).trans (.evictSurplus _ p)
  all_goals exact .refl s

theorem KeepsGeometries.takeFillEnd (s : State) (p : PortId) (px : List Byte) :
    KeepsGeometries s (s.takeFillEnd p px) := by
  have hpixels : ∀ i stage, KeepsGeometries s (s.writePixels i stage px) := fun i stage =>
    .of_only (s.writePixels_only i stage px) (by decide)
  unfold State.takeFillEnd
  split
  · exact (hpixels _ _).trans (.complete _ _ _ _)
  · exact hpixels _ _
  · exact (hpixels _ _).trans (.complete _ _ _ _)
  all_goals exact .refl s

theorem KeepsGeometries.drop (s : State) (h : HeadId) (p : Position) (v : Selection) (x : Option SlotId) :
    KeepsGeometries s ((s.setSelection h p v).releaseOpt x) := .releaseOpt (s.setSelection h p v) x

theorem KeepsGeometries.selectPosition (h : HeadId) (s : State) (p : Position) :
    KeepsGeometries s (State.selectPosition h s p) := by
  have hadopt : ∀ i, KeepsGeometries s (s.adoptFrame h p i) := fun i => (KeepsGeometries.takeRef s i).trans (.drop _ h p _ _)
  unfold State.selectPosition
  split
  · rename_i r _
    rcases s.selectWindow_cases h p r with e | e | ⟨-, e⟩ | ⟨i, -, -, e⟩ | ⟨k, x, -, e⟩
    · rw [e]; exact .refl s
    · rw [e]; exact .drop s h p _ _
    · rw [e]; exact .of_slots fun _ => rfl
    · rw [e]; exact hadopt i
    · rw [e]; exact hadopt x.slot
  · exact .refl s

theorem KeepsGeometries.swap (s : State) (h : HeadId) : KeepsGeometries s (s.swap h) := by
  have hposition : ∀ (u : State) (p : Position), KeepsGeometries u (State.swapPosition h u p) := fun u p => by
    unfold State.swapPosition
    split
    · exact .refl u
    · exact .drop u h p _ _
  exact (((KeepsGeometries.foldl _ hposition positions s).trans (.of_only (State.modHead_only _ h _) (by decide))).trans
    (.of_only (State.addSceneUses_only _ _) (by decide))).trans (.of_only (State.dropSceneUses_only _ _) (by decide))

theorem KeepsGeometries.takeBoundary (s : State) (h : HeadId) (time : Time) :
    KeepsGeometries s (s.takeBoundary h time) := by
  have hswap : ∀ u : State, KeepsGeometries u (u.swapAtBoundary h) := fun u => by
    unfold State.swapAtBoundary
    split
    · exact .swap u h
    · exact .refl u
  have hboundary : ∀ t, KeepsGeometries s (s.boundary h t time) := fun t =>
    ((((((KeepsGeometries.of_only (s.modHead_only h _) (by decide)).trans
      (.of_only (State.followBoundary_only _ h t time) (by decide))).trans (hswap _)).trans
      (.foldl _ (.selectPosition h) positions _)).trans (.of_only (State.cursorBoundary_only _ h) (by decide))).trans
      (.of_only (State.ancBoundary_only _ h) (by decide))).trans (.of_only (State.modHead_only _ h _) (by decide))
  unfold State.takeBoundary
  split
  · exact hboundary _
  · exact hboundary _
  all_goals exact .refl s

theorem KeepsGeometries.swapOff (s : State) (h : HeadId) : KeepsGeometries s (s.swapOff h) := .swap s h

theorem KeepsGeometries.switchOff (s : State) (h : HeadId) : KeepsGeometries s (s.switchOff h) := by
  have hclear : KeepsGeometries s (s.clearSelections h) :=
    .foldl _ (fun u p => .drop u h p _ _) positions s
  have hpresent : ∀ u : State, KeepsGeometries u (u.presentAtOff h) := fun u => by
    unfold State.presentAtOff
    split
    · exact .swapOff u h
    · exact .refl u
  exact ((((hclear.trans (.of_only (State.modHead_only _ h _) (by decide))).trans (hpresent _)).trans
    (.of_only (State.cancelShapes_only _ h) (by decide))).trans (.of_only (State.stopAnc_only _ h) (by decide))).trans
    (.of_only (State.stopFollow_only _ h) (by decide))

/-- Only a claim and a restart give a slot a geometry, and theirs is that of the locked measurement. -/
theorem geometriesOk_fill {s : State} (i : SlotId) (p : PortId) {g : Geometry} (hg : g.Fits) (ok : GeometriesOk s) :
    GeometriesOk (s.setSlot i (.filling p g)) := fun j x hx => by
  by_cases hj : j = i
  · subst hj
    rw [State.slot_setSlot_same] at hx
    obtain rfl := Option.some.inj hx
    exact hg
  · rw [State.slot_setSlot_other _ _ hj] at hx; exact ok j x hx

theorem offerToWriter_geometriesOk {s : State} (p : PortId) {m : Measurement} (b : Bool) (hm : m.inRange = true)
    (ok : GeometriesOk s) : GeometriesOk (s.offerToWriter p m b) := by
  have hgrant : ∀ (u : State) (n : FrameNumber) (i : SlotId), GeometriesOk u → GeometriesOk (u.grant p m.geometry n i) :=
    fun u n i hu => by
      refine (KeepsGeometries.of_slots fun j => ?_).geometriesOk (geometriesOk_fill i p (Measurement.geometry_fits hm) hu)
      exact congrArg (fun v : Pool => v.slots[j]) (u.grant_pool p m.geometry n i)
  have hclaim : GeometriesOk (s.claim p m.geometry (s.port p).frameNumber).2 := by
    unfold State.claim
    split
    · exact hgrant (s.setFreeList _) _ _ ok
    · split
      · rename_i i _
        refine hgrant (((s.countDrop p i).countPort p _).setReady p _) _ i ?_
        exact (KeepsGeometries.of_slots fun j => s.slot_countDrop p i j).geometriesOk ok
      · exact (KeepsGeometries.of_only (s.skip_only p _) (by decide)).geometriesOk ok
  unfold State.offerToWriter
  split
  · exact ok
  · split
    · unfold State.claimFor
      split
      · rename_i e; rw [e] at hclaim; exact hclaim
      · rename_i e; rw [e] at hclaim; exact hclaim
    · exact ok
  · split
    · exact geometriesOk_fill _ p (Measurement.geometry_fits hm) ok
    · split <;> exact ok

theorem takeStart_geometriesOk {s : State} (p : PortId) (l : FieldLevel) (w : Option Nat) (n : Nat) (time : Time)
    (hd : (s.port p).detector.Ok) (ok : GeometriesOk s) : GeometriesOk (s.takeStart p l w n time) := by
  have hmeasured : ∀ m, GeometriesOk (s.measuredStart p l m time) := fun m => by
    have hport : KeepsGeometries s (s.measuredPort p l m time) :=
      .of_only (s.measuredPort_only p l m time) (by decide)
    rw [State.measuredStart_eq]
    split
    · exact (hport.trans (.leaveLocked _ p _)).geometriesOk ok
    · exact hport.geometriesOk ok
  rw [State.takeStart_eq]
  split
  · exact ok
  · split
    · rename_i m hlocked
      have hm : m.inRange = true := (hd.measured _).locked m hlocked
      unfold State.lockedStart
      split
      · refine offerToWriter_geometriesOk p true hm ?_
        exact (KeepsGeometries.of_only (State.modPort_only _ p _) (by decide)).geometriesOk (hmeasured _)
      · exact offerToWriter_geometriesOk p false hm (hmeasured _)
    · exact hmeasured _

theorem BlockChange.geometriesOk {s t : State} (h : BlockChange s t) (hd : DetectorsOk s) (ok : GeometriesOk s) :
    GeometriesOk t := by
  have hpool : ∀ {l : List Part} {u : State}, OnlyChanges l s u → Part.pool ∉ l → GeometriesOk u := fun ho hl =>
    (KeepsGeometries.of_only ho hl).geometriesOk ok
  cases h with
  | start p l w n time => exact takeStart_geometriesOk p l w n time (hd p) ok
  | fillEnd p px => exact (KeepsGeometries.takeFillEnd s p px).geometriesOk ok
  | loseSignal p _ => exact (KeepsGeometries.loseSignal s p).geometriesOk ok
  | boundary h time => exact (KeepsGeometries.takeBoundary s h time).geometriesOk ok
  | shortfall h l m => exact hpool (s.takeShortfall_only h l m) (by decide)
  | followLoss h => exact hpool (s.takeFollowLoss_only h) (by decide)
  | verified i rest _ => exact hpool (s.verified_only i rest) (by decide)
  | abandon i => exact hpool (s.abandon_only i) (by decide)
  | startJob => exact hpool s.startJob_only (by decide)
  | finishJob => exact hpool s.finishJob_only (by decide)
  | captureOn p => exact hpool (s.captureOn_only p) (by decide)
  | captureOff p => exact (KeepsGeometries.captureOff s p).geometriesOk ok
  | depth p k _ _ =>
    exact (KeepsGeometries.evictSurplus (s.modPort p fun q => { q with depth := k }) p).geometriesOk ok
  | flush p => exact (KeepsGeometries.flush s p).geometriesOk ok
  | resetPort p => exact (KeepsGeometries.resetPort s p).geometriesOk ok
  | movePin i p j _ _ =>
    exact ((KeepsGeometries.takeRef s _).trans (.releaseOpt (State.setPin _ i _) _)).geometriesOk ok
  | emptyPin i => exact (KeepsGeometries.releaseOpt (s.setPin i none) _).geometriesOk ok
  | headOff h _ => exact (KeepsGeometries.switchOff s h).geometriesOk ok
  | follow h source w l _ _ => exact hpool (s.setFollow_only h source w l) (by decide)
  | put h p r _ _ _ => exact hpool (s.putPending_only h p _) (by decide)
  | remove h p _ => exact hpool (s.putPending_only h p _) (by decide)
  | restart h b _ => exact hpool (s.reloadPending_only h _) (by decide)
  | presentOff h _ _ => exact (KeepsGeometries.swapOff s h).geometriesOk ok
  | libOpen i e b _ _ _ _ => exact hpool (s.setEntry_only i _) (by decide)
  | libData i e n bs _ _ =>
    exact (KeepsGeometries.of_only (State.setEntry_only _ _ _) (by decide)).geometriesOk
      (hpool (State.writeBytes_only (entryAddress e) bs n s) (by decide))
  | libClose i e n _ =>
    exact (KeepsGeometries.of_only (State.setVerifyQueue_only _ _) (by decide)).geometriesOk
      (hpool (s.setEntry_only i _) (by decide))
  | libDelete i _ => exact hpool (s.setEntry_only i _) (by decide)
  | placeShape h i _ => exact hpool (s.placeShape_only h i) (by decide)
  | clearPort p => exact hpool (s.modPort_only p _) (by decide)
  | timing h | headOn h | mute h | background h | present h | cursor h | ancConfig h | ancPush h | ancFlush h
  | clearHead h => exact hpool (s.modHead_only h _) (by decide)

/-! ### Every step -/

/-- Settles O55: every change of the blocks keeps the pool, and keeps the detectors and the stored geometries. -/
theorem stepsKeepThePoolAndThePorts : Obligations.StepsKeepThePoolAndThePorts := by
  refine ⟨fun s t ok hstep => ?_, fun s t ok hstep => ?_⟩
  · exact step_keeps (Inv := fun u => PoolOk u) (parts := [.pool, .ports, .heads]) poolOk_reset
      (fun {u v} hsame ok => (Carries.of_parts (f := True) hsame).pool ok) (by decide)
      (fun {u v} hchange ok => hchange.carries.pool ok) hstep ok
  · have hports : DetectorsOk t ∧ GeometriesOk t :=
      step_keeps (Inv := fun u => DetectorsOk u ∧ GeometriesOk u) (parts := [.pool, .ports])
        (portsOk_iff.1 portsOk_reset)
        (fun {u v} hsame ok => by
          refine ⟨detectorsOk_of_same (fun p => ?_) ok.1, (KeepsGeometries.of_slots fun i => ?_).geometriesOk ok.2⟩
          · exact congrArg (fun x : Vector Port 4 => x[p].detector) (hsame .ports (by decide))
          · exact congrArg (fun x : Pool => x.slots[i]) (hsame .pool (by decide)))
        (by decide) (fun {u v} hchange ok => ⟨hchange.detectorsOk ok.1, hchange.geometriesOk ok.1 ok.2⟩) hstep
        (portsOk_iff.1 ok)
    exact portsOk_iff.2 hports

end Sys2Proof.Machine
end

section
/-! What a boundary makes of the windows of its head (R86, R96 to R108): the selection at one position is made in a
state whose lists, pins, ports and frames are those before the boundary. -/

namespace Sys2Proof.Machine

/-! ### What references leave alone -/

/-- The frame is the same one, its references and its shown flag apart; once shown it stays shown. -/
structure StoredFrame.Same (f g : StoredFrame) : Prop where
  eq : g = { f with refs := g.refs, shown := g.shown }
  shown : f.shown = true → g.shown = true

theorem StoredFrame.Same.refl (f : StoredFrame) : f.Same f := ⟨rfl, id⟩

theorem StoredFrame.Same.trans {f g k : StoredFrame} (h₁ : f.Same g) (h₂ : g.Same k) : f.Same k :=
  ⟨by rw [h₂.eq, h₁.eq], fun h => h₂.shown (h₁.shown h)⟩

theorem StoredFrame.Same.source {f g : StoredFrame} (h : f.Same g) : g.source = f.source := by rw [h.eq]

theorem StoredFrame.Same.number {f g : StoredFrame} (h : f.Same g) : g.number = f.number := by rw [h.eq]

/-- The ports, the ready lists and the pins are as they were; a READY slot is still READY; and a slot that holds a
frame held the same one. -/
structure Steady (s t : State) : Prop where
  port : ∀ q, t.port q = s.port q
  list : ∀ q, t.readyList q = s.readyList q
  pins : t.pool.pins = s.pool.pins
  ready : ∀ i f, s.slot i = .ready f → ∃ g, t.slot i = .ready g
  frame : ∀ i g, (t.slot i).frame? = some g → ∃ f, (s.slot i).frame? = some f ∧ f.Same g

theorem Steady.refl (s : State) : Steady s s :=
  ⟨fun _ => rfl, fun _ => rfl, rfl, fun _ f h => ⟨f, h⟩, fun _ g h => ⟨g, h, .refl g⟩⟩

theorem Steady.trans {s t u : State} (h₁ : Steady s t) (h₂ : Steady t u) : Steady s u := by
  refine ⟨fun q => (h₂.port q).trans (h₁.port q), fun q => (h₂.list q).trans (h₁.list q), h₂.pins.trans h₁.pins,
    fun i f hf => ?_, fun i k hk => ?_⟩
  · obtain ⟨g, hg⟩ := h₁.ready i f hf
    exact h₂.ready i g hg
  · obtain ⟨g, hg, hgk⟩ := h₂.frame i k hk
    obtain ⟨f, hf, hfg⟩ := h₁.frame i g hg
    exact ⟨f, hf, hfg.trans hgk⟩

theorem Steady.of_only {l : List Part} {s t : State} (h : OnlyChanges l s t) (hl : Part.pool ∉ l ∧ Part.ports ∉ l) :
    Steady s t := by
  have hslot := State.slot_of_only h hl.1
  refine ⟨State.port_of_only h hl.2, State.readyList_of_only h hl.1, congrArg Pool.pins (h .pool hl.1),
    fun i f hf => ⟨f, by rw [hslot, hf]⟩, fun i g hg => ⟨g, by rw [← hslot, hg], .refl g⟩⟩

theorem Steady.foldl {α : Type} (step : State → α → State) (hstep : ∀ s a, Steady s (step s a)) (as : List α) :
    ∀ s, Steady s (as.foldl step s) := by
  induction as with
  | nil => exact fun s => .refl s
  | cons a as ih => exact fun s => (hstep s a).trans (ih _)

/-- One slot's record changes to one of the same frame, or to FREE when it was not READY. -/
theorem Steady.of_slot {s t : State} {i : SlotId} (hport : ∀ q, t.port q = s.port q)
    (hlist : ∀ q, t.readyList q = s.readyList q) (hpins : t.pool.pins = s.pool.pins)
    (hother : ∀ j, j ≠ i → t.slot j = s.slot j)
    (hready : ∀ f, s.slot i = .ready f → ∃ g, t.slot i = .ready g)
    (hframe : ∀ g, (t.slot i).frame? = some g → ∃ f, (s.slot i).frame? = some f ∧ f.Same g) : Steady s t := by
  refine ⟨hport, hlist, hpins, fun j f hf => ?_, fun j g hg => ?_⟩
  · by_cases hj : j = i
    · subst hj; exact hready f hf
    · exact ⟨f, by rw [hother j hj, hf]⟩
  · by_cases hj : j = i
    · subst hj; exact hframe g hg
    · exact ⟨g, by rw [← hother j hj, hg], .refl g⟩

/-- R17: a slot record after a reference has been taken on it. -/
def Slot.taken : Slot → Slot
  | .ready f => .ready { f with refs := f.refs + 1, shown := true }
  | .held f => .held { f with refs := f.refs + 1, shown := true }
  | .free => .free
  | .filling p g => .filling p g

theorem State.slot_takeRef_same (s : State) (i : SlotId) : (s.takeRef i).slot i = (s.slot i).taken := by
  unfold State.takeRef
  cases h : s.slot i with
  | free => exact h
  | filling p g => exact h
  | ready f => exact s.slot_setSlot_same i _
  | held f => exact s.slot_setSlot_same i _

theorem Slot.frame_taken {v : Slot} {f : StoredFrame} (h : v.frame? = some f) :
    v.taken.frame? = some { f with refs := f.refs + 1, shown := true } := by
  cases v with
  | free => cases h
  | filling p g => cases h
  | ready g => obtain rfl := Option.some.inj h; rfl
  | held g => obtain rfl := Option.some.inj h; rfl

theorem Slot.taken_frame {v : Slot} {g : StoredFrame} (h : v.taken.frame? = some g) :
    ∃ f, v.frame? = some f ∧ f.Same g := by
  cases v with
  | free => cases h
  | filling p k => cases h
  | ready f => obtain rfl := Option.some.inj h; exact ⟨f, rfl, rfl, fun _ => rfl⟩
  | held f => obtain rfl := Option.some.inj h; exact ⟨f, rfl, rfl, fun _ => rfl⟩

theorem Slot.released_frame {v : Slot} {g : StoredFrame} (h : v.released.frame? = some g) :
    ∃ f, v.frame? = some f ∧ f.Same g := by
  cases v with
  | free => cases h
  | filling p k => cases h
  | ready f => obtain rfl := Option.some.inj h; exact ⟨f, rfl, rfl, id⟩
  | held f =>
    unfold Slot.released at h
    dsimp only at h
    split at h
    · cases h
    · obtain rfl := Option.some.inj h; exact ⟨f, rfl, rfl, id⟩

theorem State.takeRef_steady (s : State) (i : SlotId) : Steady s (s.takeRef i) := by
  refine .of_slot (i := i) (State.port_of_only (s.takeRef_only i) (by decide)) (fun q => ?_) (s.takeRef_pins i)
    (fun j hj => s.slot_takeRef_other hj) (fun f hf => ?_) fun g hg => ?_
  · unfold State.takeRef
    split <;> rfl
  · rw [s.slot_takeRef_same, hf]; exact ⟨_, rfl⟩
  · rw [s.slot_takeRef_same] at hg; exact Slot.taken_frame hg

theorem State.releaseOpt_steady (s : State) (x : Option SlotId) : Steady s (s.releaseOpt x) := by
  cases x with
  | none => exact .refl s
  | some i =>
    refine .of_slot (i := i) (State.port_of_only (s.releaseRef_only i) (by decide)) (fun q => ?_)
      (s.releaseRef_pool i).2.1 (fun j hj => s.slot_releaseRef_other hj) (fun f hf => ?_) fun g hg => ?_
    · exact congrArg (fun v : Vector (List SlotId) 4 => v[q]) (s.releaseRef_pool i).1
    · exact ⟨_, (s.slot_releaseRef_same i).trans (by rw [hf]; rfl)⟩
    · exact Slot.released_frame ((s.slot_releaseRef_same i).symm ▸ hg)

theorem State.reselect_steady (s : State) (h : HeadId) (p : Position) (v : Selection) (x : Option SlotId) :
    Steady s ((s.setSelection h p v).releaseOpt x) :=
  (Steady.of_only (s.modHead_only h _) (by decide)).trans (State.releaseOpt_steady _ x)

theorem State.adoptFrame_steady (s : State) (h : HeadId) (p : Position) (i : SlotId) :
    Steady (s.takeRef i) (s.adoptFrame h p i) := State.reselect_steady _ h p _ _

theorem State.swapPosition_steady (h : HeadId) (s : State) (p : Position) : Steady s (State.swapPosition h s p) := by
  unfold State.swapPosition
  split
  · exact .refl s
  · exact s.reselect_steady h p _ _

theorem State.selectPosition_steady (h : HeadId) (s : State) (p : Position) :
    Steady s (State.selectPosition h s p) := by
  have hadopt : ∀ i, Steady s (s.adoptFrame h p i) := fun i => (s.takeRef_steady i).trans (s.adoptFrame_steady h p i)
  unfold State.selectPosition
  split
  · rename_i r _
    rcases s.selectWindow_cases h p r with e | e | ⟨-, e⟩ | ⟨i, -, -, e⟩ | ⟨k, x, -, e⟩
    · rw [e]; exact .refl s
    · rw [e]; exact s.reselect_steady h p _ _
    · rw [e]; exact .of_only (s.modHead_only h _) (by decide)
    · rw [e]; exact hadopt i
    · rw [e]; exact hadopt x.slot
  · exact .refl s

theorem State.swapAtBoundary_steady (s : State) (h : HeadId) : Steady s (s.swapAtBoundary h) := by
  unfold State.swapAtBoundary
  split
  · exact (((((Steady.foldl _ (State.swapPosition_steady h) positions s).trans
      (.of_only (State.modHead_only _ h _) (by decide))).trans (.of_only (State.addSceneUses_only _ _) (by decide))).trans
      (.of_only (State.dropSceneUses_only _ _) (by decide))).trans (.of_only (State.modHead_only _ h _) (by decide))).trans
      (.of_only (State.raise_only _ _) (by decide))
  · exact .refl s

/-! ### The selection states -/

theorem State.giveUpFrame_selectionAt (s : State) (h : HeadId) (p : Position) :
    (s.giveUpFrame h p).selectionAt h p = { s.selectionAt h p with current := none } := by
  unfold State.giveUpFrame
  rw [State.selectionAt_releaseOpt, State.selectionAt_setSelection_same]

theorem State.repeatFrame_selectionAt (s : State) (h : HeadId) (p : Position) :
    (s.repeatFrame h p).selectionAt h p =
      { s.selectionAt h p with repeats := (s.selectionAt h p).repeats + 1 } :=
  s.selectionAt_setSelection_same h p _

theorem State.adoptFrame_selectionAt (s : State) (h : HeadId) (p : Position) (i : SlotId) :
    (s.adoptFrame h p i).selectionAt h p =
      ⟨s.currentFrameOf i, s.frameNumberOf i, (s.selectionAt h p).repeats⟩ := by
  unfold State.adoptFrame
  rw [State.selectionAt_releaseOpt, State.selectionAt_setSelection_same]

theorem State.selectPosition_of_some {s : State} {h : HeadId} {p : Position} {w : WindowRecord}
    (hw : (s.head h).activeScene[p] = some w) : State.selectPosition h s p = s.selectWindow h p w := by
  unfold State.selectPosition; rw [hw]

theorem State.selectPosition_of_none {s : State} {h : HeadId} {p : Position}
    (hw : (s.head h).activeScene[p] = none) : State.selectPosition h s p = s := by
  unfold State.selectPosition; rw [hw]

theorem State.selectPosition_rest {s : State} {h : HeadId} {p q : Position} (hq : q ≠ p) :
    (State.selectPosition h s p).selectionAt h q = s.selectionAt h q := by
  have hreselect : ∀ (u : State) (v : Selection) (x : Option SlotId),
      ((u.setSelection h p v).releaseOpt x).selectionAt h q = u.selectionAt h q := fun u v x => by
    rw [State.selectionAt_releaseOpt, State.selectionAt_setSelection_other _ _ _ hq]
  have hadopt : ∀ i, (s.adoptFrame h p i).selectionAt h q = s.selectionAt h q := fun i => by
    unfold State.adoptFrame
    rw [hreselect, State.selectionAt_takeRef]
  unfold State.selectPosition
  split
  · rename_i r _
    rcases s.selectWindow_cases h p r with e | e | ⟨-, e⟩ | ⟨i, -, -, e⟩ | ⟨k, x, -, e⟩
    · rw [e]
    · rw [e]; exact hreselect s _ _
    · rw [e]; exact s.selectionAt_setSelection_other h _ hq
    · rw [e]; exact hadopt i
    · rw [e]; exact hadopt x.slot
  · rfl

theorem State.selectPositions_rest {h : HeadId} {q : Position} {l : List Position} (hq : q ∉ l) : ∀ s : State,
    (l.foldl (State.selectPosition h) s).selectionAt h q = s.selectionAt h q := by
  induction l with
  | nil => exact fun _ => rfl
  | cons a l ih =>
    intro s
    rw [List.mem_cons, not_or] at hq
    rw [List.foldl_cons, ih hq.2, State.selectPosition_rest hq.1]

theorem State.selectPositions_carries {h : HeadId} (l : List Position) : ∀ s : State, (s.head h).state ≠ .off →
    Carries True s (l.foldl (State.selectPosition h) s) := by
  induction l with
  | nil => exact fun s _ => .refl True s
  | cons p l ih =>
    intro s hon
    refine (State.selectPosition_carries True p hon).trans (ih _ ?_)
    rw [(State.selectPosition_selection h s p).same]
    exact hon

/-! ### One position at a boundary -/

/-- The scene that a boundary's frame is drawn from: the pending one when a present is pending. -/
def Head.drawnScene (hd : Head) : Scene := if hd.presentPending then hd.pendingScene else hd.activeScene

theorem Head.drawnScene_at (hd : Head) (p : Position) :
    hd.drawnScene[p] = if hd.presentPending then hd.pendingScene[p] else hd.activeScene[p] := by
  unfold Head.drawnScene
  split <;> rfl

/-- The selection state that a boundary finds at a position: none is kept where a swap breaks continuity (R86). -/
def State.foundSelection (s : State) (h : HeadId) (p : Position) : Selection :=
  if (s.head h).presentPending = true ∧ s.continues h p = false then ⟨none, none, 0⟩ else s.selectionAt h p

/-- From `s` to `t` the boundary of head `h` selects at position `p` in state `x`. -/
structure SelectsAt (h : HeadId) (p : Position) (s x t : State) : Prop where
  before : Steady s x
  scene : (x.head h).activeScene[p] = (s.head h).drawnScene[p]
  found : x.selectionAt h p = s.foundSelection h p
  after : Steady (State.selectPosition h x p) t
  selection : t.selectionAt h p = (State.selectPosition h x p).selectionAt h p
  counted : PoolOk s → ReferencesOk s → ReferencesOk x ∧ ReferencesOk t

/-- The position is come to after those before it, and those behind it come after. -/
theorem State.selectAll_at (s : State) (h : HeadId) (p : Position) : ∃ x, Steady s x ∧
    (x.head h).activeScene[p] = (s.head h).activeScene[p] ∧ x.selectionAt h p = s.selectionAt h p ∧
    Steady (State.selectPosition h x p) (s.selectAll h) ∧
    (s.selectAll h).selectionAt h p = (State.selectPosition h x p).selectionAt h p ∧
    ((s.head h).state ≠ .off → Carries True s x) := by
  obtain ⟨l₁, l₂, hsplit⟩ := List.append_of_mem (mem_positions p)
  have hnodup := positions_nodup
  rw [hsplit, List.nodup_append, List.nodup_cons] at hnodup
  obtain ⟨-, ⟨hbehind, -⟩, hbefore⟩ := hnodup
  have hall : s.selectAll h =
      l₂.foldl (State.selectPosition h) (State.selectPosition h (l₁.foldl (State.selectPosition h) s) p) := by
    unfold State.selectAll
    rw [hsplit, List.foldl_append, List.foldl_cons]
  have honly : OnlySelection h s (l₁.foldl (State.selectPosition h) s) :=
    .foldl _ (State.selectPosition_selection h) l₁ s
  refine ⟨l₁.foldl (State.selectPosition h) s, .foldl _ (State.selectPosition_steady h) l₁ s, ?_, ?_, ?_, ?_, ?_⟩
  · rw [honly.same]
  · exact State.selectPositions_rest (fun hp => hbefore p hp p List.mem_cons_self rfl) s
  · rw [hall]; exact .foldl _ (State.selectPosition_steady h) l₂ _
  · rw [hall]; exact State.selectPositions_rest hbehind _
  · exact State.selectPositions_carries l₁ s

theorem State.swapAtBoundary_found (s : State) (h : HeadId) (p : Position) :
    (s.swapAtBoundary h).selectionAt h p = s.foundSelection h p := by
  unfold State.swapAtBoundary State.foundSelection
  by_cases hpending : (s.head h).presentPending = true
  · rw [if_pos hpending]
    refine (show _ = (s.swap h).selectionAt h p from ?_).trans ((s.swap_selectionAt h p).trans
      (if_congr (and_iff_right hpending).symm rfl rfl))
    rw [State.selectionAt_of_head (State.head_of_only (State.raise_only _ _) (by decide) h)]
    unfold State.selectionAt
    rw [State.head_modHead_same]
  · rw [if_neg hpending, if_neg fun e => hpending e.1]

theorem boundary_selectsAt {s : State} {h : HeadId} {t₀ : Timing} (d : Draws s h t₀) (time : Time) (p : Position) :
    ∃ x, SelectsAt h p s x (s.boundary h t₀ time) := by
  have hfollow : OnlyChanges [.heads, .notices] s ((s.modHead h Head.counted).followBoundary h t₀ time) :=
    ((s.modHead_only h _).weaken (by decide)).trans (State.followBoundary_only _ h t₀ time)
  have hhead := (s.modHead h Head.counted).followBoundary_head h t₀ time
  rw [State.counted_head] at hhead
  have hboundary : s.boundary h t₀ time =
      ((((((s.modHead h Head.counted).followBoundary h t₀ time).swapAtBoundary h).selectAll h).cursorBoundary
        h).ancBoundary h).modHead h fun hd => { hd with frame := some hd.drawn } := rfl
  have hstart : SameWindows s ((s.modHead h Head.counted).followBoundary h t₀ time) :=
    (SameWindows.modHead (s := s) (h := h) Head.counted).trans (.of_head (State.followBoundary_others _ h t₀ time)
      (by rw [State.followBoundary_head]; exact ⟨rfl, rfl, id⟩))
  have hbegun : Steady s ((s.modHead h Head.counted).followBoundary h t₀ time) := .of_only hfollow (by decide)
  have hcarried : Carries True s ((s.modHead h Head.counted).followBoundary h t₀ time) :=
    .of_windows hfollow (by decide) hstart
  generalize (s.modHead h Head.counted).followBoundary h t₀ time = u at *
  have hfound : u.foundSelection h p = s.foundSelection h p := by
    unfold State.foundSelection State.continues
    rw [hstart.selectionAt, hhead]
    rfl
  have hswapped := u.swapAtBoundary_head h
  obtain ⟨x, hx, hscene, hsel, hy, hresult, hcarries⟩ := (u.swapAtBoundary h).selectAll_at h p
  have hon : ((u.swapAtBoundary h).head h).state ≠ .off := by
    rw [hswapped, hhead]; exact d.on
  have htail : ∀ v : State, Steady v (((v.cursorBoundary h).ancBoundary h).modHead h fun hd =>
      { hd with frame := some hd.drawn }) := fun v =>
    ((Steady.of_only (v.cursorBoundary_only h) (by decide)).trans (.of_only (State.ancBoundary_only _ h) (by decide))).trans
      (.of_only (State.modHead_only _ h _) (by decide))
  have hlast : ∀ v : State, (((v.cursorBoundary h).ancBoundary h).modHead h fun hd =>
      { hd with frame := some hd.drawn }).selectionAt h p = v.selectionAt h p := fun v => by
    unfold State.selectionAt
    rw [State.head_modHead_same, State.ancBoundary_head, State.cursorBoundary_head]
  refine ⟨x, (hbegun.trans (u.swapAtBoundary_steady h)).trans hx, ?_, ?_, ?_, ?_, fun ok hr => ⟨?_, ?_⟩⟩
  · rw [hscene, hswapped, hhead]
    rfl
  · rw [hsel, State.swapAtBoundary_found, hfound]
  · rw [hboundary]; exact hy.trans (htail _)
  · rw [hboundary, hlast]; exact hresult
  · have hcarry := (hcarried.trans (u.swapAtBoundary_carries True h)).trans (hcarries hon)
    exact hcarry.refs ok hr
  · exact (State.boundary_carries True t₀ time d.on).refs ok hr

end Sys2Proof.Machine
end

section
/-! The windows of the scene that a boundary's frame is drawn from (chapter 5). -/

namespace Sys2Proof.Machine

/-! ### LIVE windows (R97 to R105) -/

section
variable {s : State} {h : HeadId} {p : Position} {src : PortId} {onLoss : OnLoss}

theorem State.portLocked_eq_false_iff : s.portLocked src = false ↔ ∀ l, (s.port src).detector ≠ .locked l :=
  Detector.isLocked_eq_false_iff

/-- R105: the policy that a window chooses by. -/
def effectivePolicy (policy : Policy) (freeze : Bool) : Policy :=
  if freeze = true ∨ policy = .latest then .latest else .paced

theorem effectivePolicy_choose (policy : Policy) (freeze : Bool) (l : List SlotId) :
    (effectivePolicy policy freeze).choose l = if freeze = true ∨ policy = .latest then l.getLast? else l.head? := by
  unfold effectivePolicy
  split <;> rfl

theorem State.selectLive_frozen (policy : Policy) (hsome : (s.selectionAt h p).current.isSome = true) :
    s.selectLive h p src policy onLoss true = s.repeatFrame h p := by
  unfold State.selectLive
  rw [if_pos rfl, if_pos hsome]

theorem State.selectLive_chooses (policy : Policy) {freeze : Bool}
    (hfree : freeze = true → (s.selectionAt h p).current = none) :
    s.selectLive h p src policy onLoss freeze = s.chooseLive h p src (effectivePolicy policy freeze) onLoss := by
  unfold State.selectLive effectivePolicy
  cases freeze with
  | true => rw [if_pos rfl, if_neg (by rw [hfree rfl]; nofun), if_pos (Or.inl rfl)]
  | false => cases policy <;> rfl

theorem State.chooseLive_of_lost (policy : Policy) (hloss : onLoss = .fallback) (hlost : s.portLocked src = false) :
    s.chooseLive h p src policy onLoss = s.giveUpFrame h p := by
  unfold State.chooseLive
  rw [if_pos ⟨hloss, hlost⟩]

theorem State.chooseLive_of_some {policy : Policy} {i : SlotId}
    (husable : ¬(onLoss = .fallback ∧ s.portLocked src = false))
    (hi : policy.choose (s.candidates src (s.selectionAt h p).lastShown) = some i) :
    s.chooseLive h p src policy onLoss = s.adoptFrame h p i := by
  unfold State.chooseLive
  rw [if_neg husable, hi]

theorem State.chooseLive_of_none {policy : Policy} (husable : ¬(onLoss = .fallback ∧ s.portLocked src = false))
    (hnone : s.candidates src (s.selectionAt h p).lastShown = []) :
    s.chooseLive h p src policy onLoss =
      if (s.selectionAt h p).current.isSome then s.repeatFrame h p else s := by
  have hchoose : policy.choose [] = none := by cases policy <;> rfl
  unfold State.chooseLive
  rw [if_neg husable, hnone, hchoose]

theorem State.isNewer_of_frame {i : SlotId} {f : StoredFrame} (hf : (s.slot i).frame? = some f) :
    s.isNewer none i = true ∧ ∀ n : FrameNumber, s.isNewer (some n) i = decide (n.toNat < f.number.toNat) := by
  have hnumber : s.frameNumberOf i = some f.number := by unfold State.frameNumberOf; rw [hf]; rfl
  unfold State.isNewer
  rw [hnumber]
  exact ⟨rfl, fun _ => rfl⟩

/-- R98: a newer frame than the last one shown has a greater number. -/
theorem State.isNewer_some {n : FrameNumber} {i : SlotId} (hi : s.isNewer (some n) i = true) :
    ∃ m, s.frameNumberOf i = some m ∧ n.toNat < m.toNat := by
  unfold State.isNewer at hi
  cases hm : s.frameNumberOf i with
  | none => rw [hm] at hi; cases hi
  | some m => rw [hm] at hi; exact ⟨m, rfl, of_decide_eq_true hi⟩

/-- The repeat count is kept, or is one more with all else as it was, and the last-shown number never decreases. -/
theorem State.selectLive_keeps (policy : Policy) (freeze : Bool) :
    (((s.selectLive h p src policy onLoss freeze).selectionAt h p).repeats = (s.selectionAt h p).repeats ∨
      ((s.selectionAt h p).current ≠ none ∧ (s.selectLive h p src policy onLoss freeze).selectionAt h p =
        { s.selectionAt h p with repeats := (s.selectionAt h p).repeats + 1 })) ∧
    ∀ n, (s.selectionAt h p).lastShown = some n →
      ∃ m, ((s.selectLive h p src policy onLoss freeze).selectionAt h p).lastShown = some m ∧ n.toNat ≤ m.toNat := by
  rcases s.selectLive_cases h p src policy onLoss freeze with e | e | ⟨hsome, e⟩ | ⟨i, hi, e⟩
  · rw [e]; exact ⟨.inl rfl, fun n hn => ⟨n, hn, le_rfl⟩⟩
  · rw [e, State.giveUpFrame_selectionAt]; exact ⟨.inl rfl, fun n hn => ⟨n, hn, le_rfl⟩⟩
  · rw [e, State.repeatFrame_selectionAt]
    exact ⟨.inr ⟨Option.isSome_iff_ne_none.1 hsome, rfl⟩, fun n hn => ⟨n, hn, le_rfl⟩⟩
  · rw [e, State.adoptFrame_selectionAt]
    refine ⟨.inl rfl, fun n hn => ?_⟩
    have hnewer := (List.mem_filter.1 hi).2
    rw [hn] at hnewer
    obtain ⟨m, hm, hlt⟩ := State.isNewer_some hnewer
    exact ⟨m, hm, hlt.le⟩

/-- A window that begins afresh has no repeats. -/
theorem State.selectWindow_fresh (r : WindowRecord) (hcleared : s.selectionAt h p = ⟨none, none, 0⟩) :
    ((s.selectWindow h p r).selectionAt h p).repeats = 0 := by
  rcases s.selectWindow_cases h p r with e | e | ⟨hsome, -⟩ | ⟨i, -, -, e⟩ | ⟨k, x, -, e⟩
  · rw [e, hcleared]
  · rw [e, State.giveUpFrame_selectionAt, hcleared]
  · rw [hcleared] at hsome; cases hsome
  · rw [e, State.adoptFrame_selectionAt, hcleared]
  · rw [e, State.adoptFrame_selectionAt, hcleared]

/-- A LIVE window that begins afresh and has no frame to choose stays as it is. -/
theorem State.selectLive_nothing (policy : Policy) (freeze : Bool) (hcleared : s.selectionAt h p = ⟨none, none, 0⟩)
    (hnothing : s.readyList src = [] ∨ (onLoss = .fallback ∧ s.portLocked src = false)) :
    (s.selectLive h p src policy onLoss freeze).selectionAt h p = ⟨none, none, 0⟩ := by
  rw [State.selectLive_chooses policy fun _ => by rw [hcleared]]
  by_cases hlost : onLoss = .fallback ∧ s.portLocked src = false
  · rw [State.chooseLive_of_lost _ hlost.1 hlost.2, State.giveUpFrame_selectionAt, hcleared]
  · have hempty : s.candidates src (s.selectionAt h p).lastShown = [] := by
      unfold State.candidates
      rw [hnothing.resolve_right hlost]
      rfl
    rw [State.chooseLive_of_none hlost hempty, hcleared, if_neg nofun]
    exact hcleared

/-! ### PIN windows (R106) -/

theorem State.selectPin_of_empty {pin : PinId} (hpin : s.pin pin = none) :
    s.selectPin h p pin onLoss = s.giveUpFrame h p := by
  unfold State.selectPin; rw [hpin]

theorem State.selectPin_of_lost {pin : PinId} {e : PinEntry} (hpin : s.pin pin = some e) (hloss : onLoss = .fallback)
    (hlost : s.portLocked e.source = false) : s.selectPin h p pin onLoss = s.giveUpFrame h p := by
  unfold State.selectPin
  rw [hpin]
  exact if_pos ⟨hloss, hlost⟩

theorem State.selectPin_of_usable {pin : PinId} {e : PinEntry} (hpin : s.pin pin = some e)
    (husable : ¬(onLoss = .fallback ∧ s.portLocked e.source = false)) :
    s.selectPin h p pin onLoss =
      if (s.selectionAt h p).slot = some e.slot then s else s.adoptFrame h p e.slot := by
  unfold State.selectPin
  rw [hpin]
  exact if_neg husable

end

theorem not_lost_of_usable {s : State} {src : PortId} {onLoss : OnLoss}
    (h : onLoss = .hold ∨ ∃ l, (s.port src).detector = .locked l) :
    ¬(onLoss = .fallback ∧ s.portLocked src = false) := by
  rintro ⟨hloss, hlost⟩
  rcases h with h | ⟨l, h⟩
  · rw [h] at hloss; cases hloss
  · exact State.portLocked_eq_false_iff.1 hlost l h

/-! ### The window in the state in which the boundary selects -/

section
variable {h : HeadId} {p : Position} {s x t : State} {w : WindowRecord}

theorem SelectsAt.window (hat : SelectsAt h p s x t) (hw : (s.head h).drawnScene[p] = some w) :
    t.selectionAt h p = (x.selectWindow h p w).selectionAt h p ∧ Steady (x.selectWindow h p w) t := by
  have hselect := State.selectPosition_of_some (hat.scene.trans hw)
  exact ⟨hselect ▸ hat.selection, hselect ▸ hat.after⟩

theorem SelectsAt.absent (hat : SelectsAt h p s x t) (hw : (s.head h).drawnScene[p] = none) :
    t.selectionAt h p = s.foundSelection h p := by
  rw [hat.selection, State.selectPosition_of_none (hat.scene.trans hw), hat.found]

theorem Steady.portLocked (hs : Steady s x) (src : PortId) : x.portLocked src = s.portLocked src := by
  unfold State.portLocked; rw [hs.port]

/-- What is recorded of a slot's frame is recorded from the frame that the slot held before. -/
theorem Steady.records (hs : Steady s x) {i : SlotId} {f g : StoredFrame} (hf : (s.slot i).frame? = some f)
    (hg : (x.slot i).frame? = some g) :
    x.currentFrameOf i = some ⟨i, f.source, f.number⟩ ∧ x.frameNumberOf i = some f.number := by
  obtain ⟨f', hf', hsame⟩ := hs.frame i g hg
  obtain rfl := Option.some.inj (hf.symm.trans hf')
  unfold State.currentFrameOf State.frameNumberOf
  rw [hg, ← hsame.source, ← hsame.number]
  exact ⟨rfl, rfl⟩

/-- A frame that a window has adopted is shown. -/
theorem Steady.adopted {y : State} (hs : Steady s x) (hy : Steady (x.adoptFrame h p i) y) {f g k : StoredFrame}
    (hf : (s.slot i).frame? = some f) (hg : (x.slot i).frame? = some g) (hk : (y.slot i).frame? = some k) :
    k = { f with refs := (y.slot i).refs, shown := true } := by
  obtain ⟨f', hf', hfg⟩ := hs.frame i g hg
  obtain rfl := Option.some.inj (hf.symm.trans hf')
  obtain ⟨g', hg', hgk⟩ := ((x.adoptFrame_steady h p i).trans hy).frame i k hk
  rw [x.slot_takeRef_same, Slot.frame_taken hg] at hg'
  obtain rfl := Option.some.inj hg'
  have hrefs : (y.slot i).refs = k.refs := by unfold Slot.refs; rw [hk]; rfl
  have hshown : k.shown = true := hgk.shown rfl
  have hframe : k = { f with refs := k.refs, shown := k.shown } := by
    rw [hgk.eq, hfg.eq]
  rw [hrefs, ← hshown]
  exact hframe

end

end Sys2Proof.Machine
end

section
/-! What a boundary chooses for each window, and what continuity lets a window keep (R86, R96 to R108). -/

namespace Sys2Proof.Machine

/-! ### Candidates and choice -/

section
variable {h : HeadId} {p : Position} {s x t : State}

theorem PoolOk.listed_ready (ok : PoolOk s) {src : PortId} {i : SlotId} (hi : i ∈ s.readyList src) :
    ∃ f, s.slot i = .ready f := by
  obtain ⟨f, hf, -⟩ := (poolOk_iff.1 ok).1.ready_frame hi
  exact ⟨f, hf⟩

theorem Steady.ready_frames (hs : Steady s x) {i : SlotId} {f : StoredFrame} (hf : s.slot i = .ready f) :
    ∃ g, x.slot i = .ready g ∧ (s.slot i).frame? = some f ∧ (x.slot i).frame? = some g := by
  obtain ⟨g, hg⟩ := hs.ready i f hf
  exact ⟨g, hg, by rw [hf]; rfl, by rw [hg]; rfl⟩

/-- The frames of a ready list are as new where the boundary selects as they were before it. -/
theorem Steady.isNewer (ok : PoolOk s) (hs : Steady s x) {src : PortId} {i : SlotId} (hi : i ∈ s.readyList src)
    (last : Option FrameNumber) : x.isNewer last i = s.isNewer last i := by
  obtain ⟨f, hf⟩ := ok.listed_ready hi
  obtain ⟨g, -, hf', hg⟩ := hs.ready_frames hf
  obtain ⟨f', hf'', hsame⟩ := hs.frame i g hg
  obtain rfl := Option.some.inj (hf'.symm.trans hf'')
  cases last with
  | none => rw [(State.isNewer_of_frame hg).1, (State.isNewer_of_frame hf').1]
  | some n => rw [(State.isNewer_of_frame hg).2, (State.isNewer_of_frame hf').2, hsame.number]

theorem Steady.candidates (ok : PoolOk s) (hs : Steady s x) (src : PortId) (last : Option FrameNumber) :
    x.candidates src last = s.candidates src last := by
  unfold State.candidates
  rw [hs.list]
  exact List.filter_congr fun i hi => hs.isNewer ok hi last

/-- The frame that a LIVE window chooses becomes its current frame, and is shown. -/
theorem SelectsAt.adopts (hat : SelectsAt h p s x t) {i : SlotId} {f : StoredFrame} (hf : s.slot i = .ready f)
    (hsel : t.selectionAt h p = (x.adoptFrame h p i).selectionAt h p) (hsteady : Steady (x.adoptFrame h p i) t) :
    t.selectionAt h p = ⟨some ⟨i, f.source, f.number⟩, some f.number, (s.foundSelection h p).repeats⟩ ∧
    t.slot i = .ready { f with refs := (t.slot i).refs, shown := true } := by
  obtain ⟨g, hg, hf', hg'⟩ := hat.before.ready_frames hf
  obtain ⟨hcurrent, hnumber⟩ := hat.before.records hf' hg'
  obtain ⟨g₁, hg₁⟩ := (x.takeRef_steady i).ready i g hg
  obtain ⟨k, hk⟩ := ((x.adoptFrame_steady h p i).trans hsteady).ready i g₁ hg₁
  have hk' : (t.slot i).frame? = some k := by rw [hk]; rfl
  refine ⟨?_, ?_⟩
  · rw [hsel, State.adoptFrame_selectionAt, hcurrent, hnumber, hat.found]
  · rw [← hat.before.adopted hsteady hf' hg' hk', hk]

end

/-- Settles O22: where the boundary selects at a position, the lists, the ports and the frames are those before it. -/
theorem liveWindowsChooseTheirFrames : Obligations.LiveWindowsChooseTheirFrames := by
  rintro s h t₀ time a ok d rfl
  refine ⟨_, exec_frameBoundary_of_draws d time, fun p w src policy onLoss fb crop freeze v cands hw hcontent hv hcands => ?_⟩
  obtain ⟨x, hat⟩ := boundary_selectsAt d time p
  generalize s.boundary h t₀ time = t at hat ⊢
  have hfound : s.foundSelection h p = v := by rw [hv]; rfl
  have hx : x.selectionAt h p = v := hat.found.trans hfound
  obtain ⟨hsel, hsteady⟩ := hat.window (w := w) ((Head.drawnScene_at _ p).trans hw)
  have hselect : x.selectWindow h p w = x.selectLive h p src policy onLoss freeze := by
    unfold State.selectWindow; rw [hcontent]
  rw [hselect] at hsel hsteady
  have hcand : x.candidates src v.lastShown = cands := by
    rw [hat.before.candidates ok, hcands]
    refine List.filter_congr fun i hi => ?_
    obtain ⟨f, hf⟩ := ok.listed_ready hi
    have hframe : (s.slot i).frame? = some f := by rw [hf]; rfl
    rw [hframe]
    cases v.lastShown with
    | none => rw [(State.isNewer_of_frame hframe).1]
    | some n => rw [(State.isNewer_of_frame hframe).2]
  rw [← hx] at hcand
  have hlive : (freeze = true → v.current = none) → x.selectLive h p src policy onLoss freeze =
      x.chooseLive h p src (effectivePolicy policy freeze) onLoss := fun hfree =>
    State.selectLive_chooses policy fun e => by rw [hx]; exact hfree e
  refine ⟨fun hfreeze hsome => ?_, fun hfree hloss hlost => ?_, fun hfree husable => ⟨fun i f hi hf => ?_,
    fun hempty hsome => ?_, fun hempty hnone => ?_⟩⟩
  · subst hfreeze
    rw [hsel, State.selectLive_frozen policy (by rw [hx]; exact hsome), State.repeatFrame_selectionAt, hx]
  · rw [hsel, hlive hfree, State.chooseLive_of_lost _ hloss, State.giveUpFrame_selectionAt, hx]
    rw [hat.before.portLocked]
    exact State.portLocked_eq_false_iff.2 hlost
  all_goals
    have husable' : ¬(onLoss = .fallback ∧ x.portLocked src = false) := by
      rw [hat.before.portLocked]; exact not_lost_of_usable husable
    rw [hlive hfree] at hsel hsteady
  · rw [State.chooseLive_of_some husable' (by rw [hcand, effectivePolicy_choose]; exact hi)] at hsel hsteady
    rw [← hfound]
    exact hat.adopts hf hsel hsteady
  · rw [hsel, State.chooseLive_of_none husable' (hcand.trans hempty), hx, if_pos hsome, State.repeatFrame_selectionAt, hx]
  · rw [hsel, State.chooseLive_of_none husable' (hcand.trans hempty), hx, hnone, if_neg nofun, hx]

/-! ### PIN windows -/

/-- A pin's slot holds a frame: the pin's own reference is counted. -/
theorem ReferencesOk.pinned_frame {s : State} (ok : ReferencesOk s) {k : PinId} {e : PinEntry} (he : s.pin k = some e) :
    ∃ f, (s.slot e.slot).frame? = some f := by
  have hcount := (referencesOk_iff.1 ok).1.count e.slot
  have hheld := State.holdCount_of_pin (s := s) (k := k) (i := e.slot) (by unfold State.pinSlot; rw [he]; rfl)
  cases hf : (s.slot e.slot).frame? with
  | some f => exact ⟨f, rfl⟩
  | none =>
    rw [Slot.refs_of_no_frame hf] at hcount
    omega

theorem keepsContinuity_of_not_live {old : Option WindowRecord} {w : WindowRecord}
    (hw : ∀ src policy onLoss fb crop freeze, w.content ≠ .live src policy onLoss fb crop freeze) :
    keepsContinuity old (some w) = false := by
  unfold keepsContinuity
  split
  · rename_i heq
    obtain rfl := Option.some.inj heq
    exact absurd rfl (hw _ _ _ _ _ _)
  · rfl

/-- Settles O23: a pin's slot keeps its frame until the boundary selects, and after: the pin's reference is counted
all the while. -/
theorem pinWindowsFollowTheirPins : Obligations.PinWindowsFollowTheirPins := by
  rintro s h t₀ time a ok hrefs d rfl
  refine ⟨_, exec_frameBoundary_of_draws d time, fun p w v hw hv => ?_⟩
  obtain ⟨x, hat⟩ := boundary_selectsAt d time p
  generalize s.boundary h t₀ time = t at hat ⊢
  have hdrawn : (s.head h).drawnScene[p] = some w := (Head.drawnScene_at _ p).trans hw
  have hfound : (∀ src policy onLoss fb crop freeze, w.content ≠ .live src policy onLoss fb crop freeze) →
      x.selectionAt h p = v := fun hnot => by
    rw [hat.found, hv]
    unfold State.foundSelection
    by_cases hpending : (s.head h).presentPending = true
    · rw [if_pos hpending] at hw
      rw [if_pos hpending, if_pos ⟨hpending, by unfold State.continues; rw [hw]; exact keepsContinuity_of_not_live hnot⟩]
    · rw [if_neg hpending, if_neg fun e => hpending e.1]
  obtain ⟨hsel, hsteady⟩ := hat.window hdrawn
  refine ⟨fun pin onLoss fb crop hcontent => ?_, fun i crop hcontent => ?_, fun c hcontent => ?_⟩
  · have hx := hfound fun src policy onLoss fb crop freeze e => by rw [hcontent] at e; cases e
    have hselect : x.selectWindow h p w = x.selectPin h p pin onLoss := by
      unfold State.selectWindow; rw [hcontent]
    have hpin : x.pin pin = s.pin pin := State.pin_of_pins hat.before.pins pin
    rw [hselect] at hsel hsteady
    refine ⟨fun hempty => ?_, fun e he => ⟨fun hloss hlost => ?_, fun husable => ⟨fun hsame => ?_, fun hother f hf => ?_⟩⟩⟩
    · rw [hsel, State.selectPin_of_empty (hpin.trans hempty), State.giveUpFrame_selectionAt, hx]
    · have hlost' : x.portLocked e.source = false := by
        rw [hat.before.portLocked]; exact State.portLocked_eq_false_iff.2 hlost
      rw [hsel, State.selectPin_of_lost (hpin.trans he) hloss hlost', State.giveUpFrame_selectionAt, hx]
    all_goals
      have husable' : ¬(onLoss = .fallback ∧ x.portLocked e.source = false) := by
        rw [hat.before.portLocked]; exact not_lost_of_usable husable
      rw [State.selectPin_of_usable (hpin.trans he) husable', hx] at hsel hsteady
    · rw [if_pos hsame] at hsel
      rw [hsel, hx]
    · rw [if_neg hother] at hsel hsteady
      obtain ⟨hrefsx, hrefst⟩ := hat.counted ok hrefs
      obtain ⟨g, hg⟩ := hrefsx.pinned_frame (hpin.trans he)
      have hpint : t.pin pin = some e := by
        rw [State.pin_of_pins ((x.takeRef_steady e.slot).trans
          ((x.adoptFrame_steady h p e.slot).trans hsteady)).pins, hpin, he]
      obtain ⟨k, hk⟩ := hrefst.pinned_frame hpint
      obtain ⟨hcurrent, hnumber⟩ := hat.before.records hf hg
      refine ⟨?_, ?_⟩
      · rw [hsel, State.adoptFrame_selectionAt, hcurrent, hnumber, hx]
      · rw [hk, hat.before.adopted hsteady hf hg hk]
  · have hselect : x.selectWindow h p w = x := by unfold State.selectWindow; rw [hcontent]
    rw [hsel, hselect]
    exact hfound fun src policy onLoss fb crop freeze e => by rw [hcontent] at e; cases e
  · have hselect : x.selectWindow h p w = x := by unfold State.selectWindow; rw [hcontent]
    rw [hsel, hselect]
    exact hfound fun src policy onLoss fb crop freeze e => by rw [hcontent] at e; cases e

/-! ### Continuity -/

theorem keepsContinuity_iff (old new : Option WindowRecord) : keepsContinuity old new = true ↔
    ∃ (w w' : WindowRecord) (src : PortId) (policy policy' : Policy) (onLoss onLoss' : OnLoss)
      (fb fb' : Option Fallback) (crop crop' : Option Rect) (freeze freeze' : Bool),
      old = some w ∧ new = some w' ∧ w.content = .live src policy onLoss fb crop freeze ∧
      w'.content = .live src policy' onLoss' fb' crop' freeze' := by
  constructor
  · intro hkeeps
    unfold keepsContinuity at hkeeps
    split at hkeeps
    · obtain rfl := of_decide_eq_true hkeeps
      exact ⟨_, _, _, _, _, _, _, _, _, _, _, _, _, rfl, rfl, rfl, rfl⟩
    · cases hkeeps
  · rintro ⟨⟨c, _, _, _, _⟩, ⟨c', _, _, _, _⟩, src, policy, policy', onLoss, onLoss', fb, fb', crop, crop', freeze,
      freeze', rfl, rfl, hc, hc'⟩
    dsimp only at hc hc'
    subst hc hc'
    exact decide_eq_true rfl

theorem boundary_activeScene (s : State) (h : HeadId) (t₀ : Timing) (time : Time) :
    ((s.boundary h t₀ time).head h).activeScene = (s.head h).drawnScene := by
  rw [State.boundary_head]
  rfl

section
variable {h : HeadId} {p : Position} {s x t : State} {w : WindowRecord}

theorem SelectsAt.live (hat : SelectsAt h p s x t) (hw : (s.head h).drawnScene[p] = some w) {src : PortId}
    {policy : Policy} {onLoss : OnLoss} {fb : Option Fallback} {crop : Option Rect} {freeze : Bool}
    (hc : w.content = .live src policy onLoss fb crop freeze) :
    t.selectionAt h p = (x.selectLive h p src policy onLoss freeze).selectionAt h p := by
  have hselect : x.selectWindow h p w = x.selectLive h p src policy onLoss freeze := by
    unfold State.selectWindow; rw [hc]
  rw [(hat.window hw).1, hselect]

/-- Without a swap, or with continuity through it, the boundary finds the selection state as it was. -/
theorem SelectsAt.found_of_continuity (hat : SelectsAt h p s x t)
    (hkeeps : (s.head h).presentPending = true → s.continues h p = true) : x.selectionAt h p = s.selectionAt h p := by
  rw [hat.found]
  refine if_neg fun ⟨hpending, hbroken⟩ => ?_
  rw [hkeeps hpending] at hbroken
  cases hbroken

theorem SelectsAt.fresh_repeats (hat : SelectsAt h p s x t) (hx : x.selectionAt h p = ⟨none, none, 0⟩) :
    (t.selectionAt h p).repeats = 0 ∧ ((s.head h).drawnScene[p] = none → t.selectionAt h p = ⟨none, none, 0⟩) := by
  have hnone : (s.head h).drawnScene[p] = none → t.selectionAt h p = ⟨none, none, 0⟩ := fun hw => by
    rw [hat.absent hw, ← hat.found, hx]
  refine ⟨?_, hnone⟩
  cases hw : (s.head h).drawnScene[p] with
  | none => rw [hnone hw]
  | some w => rw [(hat.window hw).1]; exact State.selectWindow_fresh w hx

/-- A window that begins afresh and has no frame to choose has none, and has shown none. -/
theorem SelectsAt.fresh (hat : SelectsAt h p s x t) (hw : (s.head h).drawnScene[p] = some w)
    (hx : x.selectionAt h p = ⟨none, none, 0⟩) :
    (∀ i crop, w.content = .image i crop → t.selectionAt h p = ⟨none, none, 0⟩) ∧
    (∀ c, w.content = .fill c → t.selectionAt h p = ⟨none, none, 0⟩) ∧
    (∀ pin onLoss fb crop, w.content = .pin pin onLoss fb crop →
      s.pin pin = none ∨ (onLoss = .fallback ∧
        ∀ e, s.pin pin = some e → ∀ l, (s.port e.source).detector ≠ .locked l) →
      t.selectionAt h p = ⟨none, none, 0⟩) ∧
    (∀ src policy onLoss fb crop freeze, w.content = .live src policy onLoss fb crop freeze →
      s.readyList src = [] ∨ (onLoss = .fallback ∧ ∀ l, (s.port src).detector ≠ .locked l) →
      t.selectionAt h p = ⟨none, none, 0⟩) := by
  have hlost : ∀ {src : PortId}, (∀ l, (s.port src).detector ≠ .locked l) → x.portLocked src = false := fun hl => by
    rw [hat.before.portLocked]; exact State.portLocked_eq_false_iff.2 hl
  refine ⟨fun i crop hc => ?_, fun c hc => ?_, fun pin onLoss fb crop hc hempty => ?_,
    fun src policy onLoss fb crop freeze hc hempty => ?_⟩
  · rw [(hat.window hw).1, show x.selectWindow h p w = x by unfold State.selectWindow; rw [hc]]
    exact hx
  · rw [(hat.window hw).1, show x.selectWindow h p w = x by unfold State.selectWindow; rw [hc]]
    exact hx
  · have hselect : x.selectWindow h p w = x.selectPin h p pin onLoss := by unfold State.selectWindow; rw [hc]
    have hpin : x.pin pin = s.pin pin := State.pin_of_pins hat.before.pins pin
    have hgives : x.selectPin h p pin onLoss = x.giveUpFrame h p := by
      cases he : s.pin pin with
      | none => exact State.selectPin_of_empty (hpin.trans he)
      | some e =>
        obtain ⟨hloss, hl⟩ := hempty.resolve_left (by rw [he]; exact Option.some_ne_none e)
        exact State.selectPin_of_lost (hpin.trans he) hloss (hlost (hl e he))
    rw [(hat.window hw).1, hselect, hgives, State.giveUpFrame_selectionAt, hx]
  · rw [hat.live hw hc]
    exact State.selectLive_nothing policy freeze hx
      (hempty.imp (hat.before.list src).trans fun ⟨hloss, hl⟩ => ⟨hloss, hlost hl⟩)

end

/-- Settles O24: a LIVE window that continues chooses no older frame, and every other position is cleared before it
selects. -/
theorem continuityDecidesWhatAWindowKeeps : Obligations.ContinuityDecidesWhatAWindowKeeps := by
  refine ⟨keepsContinuity_iff, fun s h t₀ time d => ?_, fun s h t₀ time d hpending => ?_⟩
  · refine ⟨_, exec_frameBoundary_of_draws d time, fun p w w' src policy policy' onLoss onLoss' fb fb' crop crop' freeze
      freeze' n hw hc hw' hc' hn => ?_⟩
    rw [boundary_activeScene] at hw'
    obtain ⟨x, hat⟩ := boundary_selectsAt d time p
    have hx : x.selectionAt h p = s.selectionAt h p := hat.found_of_continuity fun hpending => by
      rw [Head.drawnScene_at, if_pos hpending] at hw'
      exact (keepsContinuity_iff _ _).2
        ⟨w, w', src, policy, policy', onLoss, onLoss', fb, fb', crop, crop', freeze, freeze', hw, hw', hc, hc'⟩
    rw [hat.live hw' hc']
    exact (State.selectLive_keeps policy' freeze').2 n (hx ▸ hn)
  · have hdrawn : (s.head h).drawnScene = (s.head h).pendingScene := if_pos hpending
    refine ⟨_, exec_frameBoundary_of_draws d time, (boundary_activeScene s h t₀ time).trans hdrawn,
      fun p v u hv hu => ?_⟩
    obtain ⟨x, hat⟩ := boundary_selectsAt d time p
    generalize s.boundary h t₀ time = t at hat hu
    subst hv hu
    refine ⟨fun hkeeps => ?_, fun hbroken => ?_⟩
    · obtain ⟨-, w', src, -, policy', -, onLoss', -, fb', -, crop', -, freeze', -, hnew, -, hc'⟩ :=
        (keepsContinuity_iff _ _).1 hkeeps
      rw [hat.live (w := w') (by rw [hdrawn]; exact hnew) hc', ← hat.found_of_continuity fun _ => hkeeps]
      exact (State.selectLive_keeps policy' freeze').1
    · have hx : x.selectionAt h p = ⟨none, none, 0⟩ := hat.found.trans (if_pos ⟨hpending, hbroken⟩)
      obtain ⟨hrepeats, hnone⟩ := hat.fresh_repeats hx
      exact ⟨hrepeats, fun hw => hnone (by rw [hdrawn]; exact hw), fun w hw => hat.fresh (by rw [hdrawn]; exact hw) hx⟩

end Sys2Proof.Machine
end
